-- ==== Sys2Proof/Word.lean ====
section
/-! DEFINITION. Word.lean: the word types of the module (R2, R41): the 64-bit word of a control core and of a clapper,
the byte of every memory image, the 512-bit op block (R335) and the 1,024-bit stream descriptor (R130). -/

namespace Sys2Proof

/-- A 64-bit word: a control core register, a clapper value (R294). -/
abbrev Word := BitVec 64
/-- A byte of memory. -/
abbrev Byte := BitVec 8
/-- An op block: bit 64w + i is bit i of the u64 at byte 8w (R335). -/
abbrev OpBlock := BitVec 512
/-- A stream descriptor of 128 bytes (R130). -/
abbrev Descriptor := BitVec 1024

end Sys2Proof
end

