-- ==== Sys2Proof/Types.lean ====
section
/-! DEFINITION. Types.lean: the kinds of operand that commands carry and the records that State holds: queue names,
interfaces, memory error outcomes, fabric packets (R367) and flits (R361, R362), host and DAP accesses. -/

namespace Sys2Proof

/-- The kind of a queued operation or slot (R43, R45). -/
inductive OpKind where
  | tcfg | tld | tst | mma | vec | red | stream | gather | tsend | digest | clap | prepA | prepB | grade
deriving DecidableEq, Repr

/-- An engine queue of a cluster (R43). -/
inductive QSel where
  | mq | vq | yq
  | sq (e : Fin 4)
deriving DecidableEq, Repr

/-- The interface through which a dictionary access or a register write arrives (R578). -/
inductive Iface where
  | fn (p : Fin 8)
  | dap
  | jtag
deriving DecidableEq, Repr

/-- What an access to a protected memory word finds (R123, R126, R127, R308): no error, one that is corrected, or one that
is not. -/
inductive MemErr where
  | none | corrected | uncorrectable
deriving DecidableEq, Repr

/-- What sends a request to an HBM controller (R148): the operation of stream engine e of cluster c, a tile path, a control core, the program loader
(R515), a dailies engine, a fabric engine, another module, or the host. -/
inductive MemSrc where
  | engine (c : Fin 8) (e : Fin 4)
  | tile (c : Fin 8)
  | core (c : Fin 8)
  | loader
  | dailies
  | fabric
  | remote
  | host
deriving DecidableEq, Repr

/-- A read or write of a granule, whole or in part. -/
structure MemReq where
  src : MemSrc
  g : Nat
  write : Bool
  whole : Bool
deriving DecidableEq, Repr

/-- The verdict of one element of the array (R201-R203): all checks pass, a residue or duplicated-logic check fails, or the
operand parity of A or of B does. The elements of a quadrant group each have their own. -/
inductive Verdict where
  | pass | residue | operandA | operandB
deriving DecidableEq, Repr

/-- Who waits on a clapper (R300): a gate, a CWAIT, an entry trigger, status trigger or launch trigger of a group, a start
gate. -/
inductive Who where
  | gate (c : Fin 8) (id : Nat)
  | cwait (c : Fin 8)
  | entry (g seq k : Nat)
  | status (g seq : Nat)
  | launch (g : Nat)
  | start (p : Fin 8)
deriving DecidableEq, Repr

/-- A user of a reel (R141, R142): the operation at the head of a queue, a descriptor of stream engine e of cluster i, a port of a grade
program, a post (R260), or the dailies engine. -/
inductive ReelUser where
  | op (q : QSel)
  | desc (i : Fin 8) (e : Fin 4)
  | port (n : Nat)
  | post
  | dailies
deriving DecidableEq, Repr

/-- What a data flit of the package mesh carries (R16, R19, R20): granule gran on its way to the unit that reads it, the granules that a unit writes
(several for a multicast), or granule k of the packet at place i of the router's queue. -/
inductive MeshLoad where
  | read (unit gran : Nat)
  | write (unit : Nat) (grans : List Nat)
  | packet (i k : Nat)
deriving DecidableEq, Repr

/-- A fabric packet (R367): the header's fields and the data. -/
structure Packet where
  type : Nat
  cls : Bool
  detour : Bool
  dest : Nat
  srcModule : Nat
  srcUnit : Nat
  tag : Nat
  addr : Nat
  len : Nat
  opc : Nat
  poison : Nat
  job : Nat
  hops : Nat
  data : List Byte
deriving DecidableEq, Repr

/-- A codeword (R355) as the receiver has it: whether the FEC could correct it, how many symbols it corrected, and its 5,140 message bits. -/
structure Flit where
  fecOk : Bool
  corrSyms : Nat
  message : Nat
deriving DecidableEq, Repr

end Sys2Proof
end

