-- ==== Sys2Proof/Syntax.lean ====
section
/-! DEFINITION. Syntax.lean: the commands of the module, one constructor per row of spec/opcode_table.json. A command of a
control core names its cluster only: the core fetches its own instruction (log entry 13). Events carry what the environment
decides: an error found, a message received, a sample taken. An operand with a default is what the command carries when nothing is amiss. -/

namespace Sys2Proof

/-- The 244 commands (opcode_table.json). -/
inductive Instr where
  /-- TCFG (R163). The control core issues a TCFG instruction, which places an operation in MQ that configures tile registers and planes. -/
  | tcfg (c : Fin 8)
  /-- TLD (R167). The control core issues a tile load, which places an operation in MQ that fills a register region from memory or a reel. -/
  | tld (c : Fin 8)
  /-- TST (R167). The control core issues a tile store, which places an operation in MQ that moves a register or plane region to memory or a reel. -/
  | tst (c : Fin 8)
  /-- MMA (R181). The control core issues an MMA op block into MQ and takes the VQ slots of any prep and grade programs it names. -/
  | mma (c : Fin 8)
  /-- VEC (R206). The control core issues a vector operation into VQ. -/
  | vec (c : Fin 8)
  /-- RED (R206). The control core issues a reduction operation into VQ. -/
  | red (c : Fin 8)
  /-- STREAM (R129). The control core issues a STREAM operation, which runs a range of descriptors on the stream engine it names. -/
  | stream (c : Fin 8)
  /-- GATHER (R287). The control core issues a GATHER operation, which copies the keys and values of a run of positions from pages or frames into scratchpad. -/
  | gather (c : Fin 8)
  /-- TSEND (R350). The control core issues a TSEND operation, which copies a scratchpad block to another module and can signal a clapper there. -/
  | tsend (c : Fin 8)
  /-- DIGEST (R352). The control core issues a DIGEST operation, which computes the SHA-256 of a memory range. -/
  | digest (c : Fin 8)
  /-- CLAP_READ (R296). A CLAP.READ is queued in YQ and returns the value of a clapper. -/
  | clapRead (c : Fin 8)
  /-- CLAP_SET (R296). A CLAP.SET is queued in YQ and sets the value of a clapper. -/
  | clapSet (c : Fin 8)
  /-- CLAP_ADD (R296). A CLAP.ADD is queued in YQ and adds to a clapper. -/
  | clapAdd (c : Fin 8)
  /-- CLAP_MAX (R296). A CLAP.MAX is queued in YQ and raises a clapper to at least a value. -/
  | clapMax (c : Fin 8)
  /-- CLAP_FADD (R296). A CLAP.FADD is queued in YQ, adds to a clapper and returns the old value. -/
  | clapFadd (c : Fin 8)
  /-- CLAP_SWAP (R296). A CLAP.SWAP is queued in YQ, replaces the value of a clapper and returns the old value. -/
  | clapSwap (c : Fin 8)
  /-- CLAP_CAS (R296). A CLAP.CAS is queued in YQ, performs a compare-and-swap on a clapper and returns the old value. -/
  | clapCas (c : Fin 8)
  /-- CWAIT (R50). CWAIT stalls the control core until a clapper satisfies a condition. -/
  | cwait (c : Fin 8)
  /-- TEND (R57). TEND stops the control core and ends the cluster's program. -/
  | tend (c : Fin 8)
  /-- ECALL (R60). The control core executes ECALL, which raises a core fault with E_PROGRAM. -/
  | ecall (c : Fin 8)
  /-- EBREAK (R60). The control core executes EBREAK, which faults, or which halts the core during a level 2 debug session. -/
  | ebreak (c : Fin 8)
  /-- FENCE (R36). FENCE waits until every earlier window store of the core has been acknowledged. -/
  | fence (c : Fin 8)
  /-- FENCE_I (R38). FENCE.I completes at once and has no effect. -/
  | fenceI (c : Fin 8)
  /-- CSR_READ (R39). The control core reads a read-only CSR, such as cycle, time, TAKEID or QFREE. -/
  | csrRead (c : Fin 8)
  /-- CLM_ACCESS (R37). A load, store, LR, SC or AMO instruction accesses core-local memory. -/
  | clmAccess (c : Fin 8)
  /-- WINDOW_LOAD (R37). A naturally aligned uncached load through the global window stalls the core until its response arrives. -/
  | windowLoad (c : Fin 8)
  /-- WINDOW_STORE (R37). A store through the global window retires once it has been sent toward its destination. -/
  | windowStore (c : Fin 8)
  /-- BASE_INSTRUCTION (R36). The control core executes any other RV64IMAC instruction. -/
  | baseInstruction (c : Fin 8)
  /-- ISSUE_RESUME (R43). A tile-extension instruction that stalled at issue because its queue was full issues once an entry frees. -/
  | issueResume (c : Fin 8)
  /-- CLAP_RESULT_ARRIVAL (R50). The value returned by a CLAP reaches the core's destination register. -/
  | clapResultArrival (c : Fin 8) (n : Nat)
  /-- WINDOW_LOAD_RESPONSE (R37). The response to a window load arrives and releases the core, or traps it with E_PERM or E_POISON. -/
  | windowLoadResponse (c : Fin 8) (err : MemErr := .none)
  /-- WINDOW_STORE_ACK (R46). The destination acknowledges a window store, or refuses it, which raises a fault with cause 7. -/
  | windowStoreAck (c : Fin 8) (n : Nat)
  /-- OP_DISPATCH (R51). A queued operation dispatches once its queue order, its gate and the scoreboard allow. -/
  | opDispatch (c : Fin 8) (q : QSel) (ecc : Bool)
  /-- GATE_TIMEOUT_EXPIRY (R47). A gate or CWAIT that is not satisfied within GATE_TIMEOUT faults with E_TIMEOUT. -/
  | gateTimeoutExpiry (c : Fin 8) (q : Option QSel)
  /-- TLD_COMPLETE (R172). A tile load finishes writing its region, releases its reel slot and performs its signal. -/
  | tldComplete (c : Fin 8) (n : Nat) (parity : Option Nat)
  /-- TST_WRITE_ACK (R176). The acknowledgement of a tile store's last write arrives, and the store performs its signal. -/
  | tstWriteAck (c : Fin 8) (n : Nat) (parity : Option Nat)
  /-- MMA_ELEMENT_START (R197). The first K-slice of the next MMA element enters the array when R197 and R187 allow. -/
  | mmaElementStart (c : Fin 8) (parity : Option Nat)
  /-- MMA_ELEMENT_COMPLETE (R196). An element completes and its working accumulators are committed into the plane. -/
  | mmaElementComplete (c : Fin 8) (vs : List Verdict)
  /-- RESIDUE_VERDICT (R202). The residue verdict of an element arrives, and a failing verdict commits the element poisoned with E_RESIDUE. -/
  | residueVerdict (c : Fin 8) (vs : List Verdict)
  /-- PAIR_COMPARISON (R264). The tile digests of the two clusters of a pair are compared, which releases the held outputs or faults the take with E_PAIR. -/
  | pairComparison (p : Fin 4)
  /-- DRAIN_READ (R258). The drain reads a committed region out of its plane once the plane's drain buffer is free. -/
  | drainRead (c : Fin 8) (parity : Option (Fin 4)) (word : Option Nat := none)
  /-- PREP_SLOT_START (R257). A prep slot reaches the head of VQ, reads its binding and code, and makes the MMA's checks. -/
  | prepSlotStart (c : Fin 8)
  /-- PREP_SLOT_COMPLETE (R257). A prep slot writes its last transformed values into the register and completes. -/
  | prepSlotComplete (c : Fin 8) (parity : Option Nat := none)
  /-- GRADE_ELEMENT_END (R261). The grade program finishes an element, and the element's stores, sends, post record and element signal follow. -/
  | gradeElementEnd (c : Fin 8)
  /-- SEND_BUFFER_DRAIN (R263). Rows leave the send buffer at the rate of the route, which releases lanes stalled on a full buffer. -/
  | sendBufferDrain (c : Fin 8)
  /-- SEND_WRITE_ACK (R262). A receiving module acknowledges a tile-send write, which can release the send signal. -/
  | sendWriteAck (c : Fin 8) (n : Nat)
  /-- VQ_OP_COMPLETE (R234). A VEC or RED operation performs its last writes and completes. -/
  | vqOpComplete (c : Fin 8) (n : Nat)
  /-- DESCRIPTOR_FETCH (R129). A stream engine reads a burst of descriptors from its ring. -/
  | descriptorFetch (c : Fin 8) (e : Fin 4)
  /-- DESCRIPTOR_START (R135). A stream descriptor starts after its checks and any wait for a reel slot or for an earlier range update. -/
  | descriptorStart (c : Fin 8) (e : Fin 4)
  /-- DESCRIPTOR_COMPLETE (R135). All writes of a descriptor are complete, and its signal follows. -/
  | descriptorComplete (c : Fin 8) (e : Fin 4) (n : Nat)
  /-- REEL_RESERVE (R142). A producer reserves the slot at the tail of a reel once OCCUPIED is below SLOTS. -/
  | reelReserve (c : Fin 8) (r : Nat) (u : ReelUser)
  /-- REEL_COMMIT (R142). A producer commits a slot when its writes are complete and earlier reservations have committed. -/
  | reelCommit (c : Fin 8) (r : Nat)
  /-- REEL_CLAIM (R142). A consumer claims the oldest committed slot once READY is above zero. -/
  | reelClaim (c : Fin 8) (r : Nat) (u : ReelUser)
  /-- REEL_RELEASE (R142). A consumer releases a slot after its last read of it, in claim order. -/
  | reelRelease (c : Fin 8) (r : Nat)
  /-- REEL_WAIT_TIMEOUT (R143). A reel wait that lasts longer than GATE_TIMEOUT faults the waiting operation with E_TIMEOUT. -/
  | reelWaitTimeout (c : Fin 8) (u : ReelUser)
  /-- MCAST_STALL (R147). A multicast descriptor has waited longer than MCAST_STALL_TIMEOUT, and the event is logged. -/
  | mcastStall (c : Fin 8) (e : Fin 4)
  /-- GATHER_COMPLETE (R287). A GATHER finishes copying its pages and performs its signal. -/
  | gatherComplete (c : Fin 8) (e : Fin 4)
  /-- TSEND_COMPLETE (R350). All writes of a TSEND are acknowledged, and the TSEND performs its remote addition and then its own signal. -/
  | tsendComplete (c : Fin 8) (e : Fin 4)
  /-- DIGEST_COMPLETE (R352). The digest engine writes the SHA-256 digest of a DIGEST operation. -/
  | digestComplete (c : Fin 8) (e : Fin 4)
  /-- HBM_ACCESS (R126). An HBM controller serves a granule read or write, correcting, poisoning and counting errors. -/
  | hbmAccess (k : Nat) (src : Option MemSrc) (g : Nat) (write whole : Bool) (err : MemErr)
  /-- SCRATCHPAD_ACCESS (R124). A scratchpad bank serves one arbitrated access. -/
  | scratchpadAccess (g : Nat) (write : Bool) (whole : Bool) (err : MemErr)
  /-- HBM_SCRUB_STEP (R127). The HBM scrubber reads, corrects and writes back one granule. -/
  | hbmScrubStep (g : Nat) (err : MemErr)
  /-- SP_SCRUB_STEP (R127). The scratchpad scrubber reads, corrects and writes back one line. -/
  | spScrubStep (g : Nat) (err : MemErr)
  /-- BWR_REPLENISH (R149). Every 40 ns the regulator adds BWR_RATE tokens to each class's bucket. -/
  | bwrReplenish
  /-- MESH_FLIT_ARRIVAL (R20). A mesh flit arrives, and ECC errors in it are corrected, poisoned or counted. -/
  | meshFlitArrival (link : Nat) (die : Fin 6) (err : MemErr) (header : Bool) (load : MeshLoad)
  /-- FAULT_REPORT (R64). A fault report reaches the take controller, which starts a discard if none is under way. -/
  | faultReport (p : Fin 8) (n : Nat)
  /-- DISCARD_COMPLETE (R65). Once the engines have abandoned their work and outstanding requests are settled, the take controller chooses the completion code and hands over the completion. -/
  | discardComplete (p : Fin 8)
  /-- CLAPPER_OP_PERFORM (R297). The home of a clapper performs one operation atomically. -/
  | clapperOpPerform (n : Nat) (err : MemErr)
  /-- WAITER_REGISTER (R300). A gate, a CWAIT or a trigger registers at a clapper's home and is tested against the current value. -/
  | waiterRegister (w : Who) (err : MemErr := .none)
  /-- HOST_CLAP_SET (R295). A host write to VALUE performs SET. -/
  | hostClapSet (p : Fin 8) (clap : Nat) (v : Word) (err : MemErr)
  /-- HOST_CLAP_ADD (R295). A host write to the ADD field performs ADD. -/
  | hostClapAdd (p : Fin 8) (clap : Nat) (v : Word) (err : MemErr)
  /-- HOST_CLAP_MAX (R295). A host write to the MAX field performs MAX. -/
  | hostClapMax (p : Fin 8) (clap : Nat) (v : Word) (err : MemErr)
  /-- HOST_ATOMIC_FETCHADD (R299). A PCIe FetchAdd AtomicOp on VALUE performs FADD. -/
  | hostAtomicFetchadd (p : Fin 8) (clap : Nat) (v : Word) (err : MemErr) (field : Nat := 0) (size : Nat := 8)
  /-- HOST_ATOMIC_SWAP (R299). A PCIe Swap AtomicOp on VALUE performs SWAP. -/
  | hostAtomicSwap (p : Fin 8) (clap : Nat) (v : Word) (err : MemErr) (field : Nat := 0) (size : Nat := 8)
  /-- HOST_ATOMIC_CAS (R299). A PCIe CAS AtomicOp on VALUE performs CAS. -/
  | hostAtomicCas (p : Fin 8) (clap : Nat) (v : Word) (cmp : Word) (err : MemErr) (field : Nat := 0) (size : Nat := 8)
  /-- HOST_CLAP_RESERVED_WRITE (R295). A host write to a reserved field of a clapper block is discarded and counted. -/
  | hostClapReservedWrite (p : Fin 8) (clap : Nat)
  /-- TC_REPLICA_CORRECT (R311). An island's timecode replica is corrected from the master. -/
  | tcReplicaCorrect (j : Nat) (off : Bool)
  /-- TIME_EXCHANGE_START (R314). Every 1 ms a child sends TIME_REQ to its parent. -/
  | timeExchangeStart
  /-- TIME_REQ (R314). A parent receives TIME_REQ and replies with TIME_RESP. -/
  | timeReq (p : Fin 6)
  /-- TIME_RESP (R314). A child receives TIME_RESP, computes its offset and delay, and corrects its rate. -/
  | timeResp (p : Fin 6)
  /-- TC_HOLDOVER_LIMIT (R319). Holdover has lasted longer than TC_HOLDOVER_LIMIT, and the event is logged once. -/
  | tcHoldoverLimit
  /-- TC_NO_PARENT (R321). A numbered module without a parent logs TC_NO_PARENT after 10 s, and every 60 s after that. -/
  | tcNoParent
  /-- TIME_BEACON_SEND (R498). Every 100 ms a synchronized director sends a time beacon. -/
  | timeBeaconSend
  /-- TIME_BEACON_RECEIVE (R498). A crew module receives a beacon and disciplines or steps its timecode. -/
  | timeBeaconReceive (f : List Byte)
  /-- PTP_SYNC (R441). The E0 IEEE 1588 slave processes a Sync or delay exchange, which can declare lock. -/
  | ptpSync (rx tx follow : Int)
  /-- PTP_LOST (R441). No Sync has arrived for 3 s, so the master is declared lost. -/
  | ptpLost
  /-- TRAIN_STEP_COMPLETE (R358). A fabric training step finishes, and the port moves to the next step. -/
  | trainStepComplete (p : Fin 6) (eq : Nat) (lanes : List Nat := [0, 1, 2, 3, 4, 5, 6, 7]) (inverted : Nat := 0)
  /-- TRAIN_STEP_TIMEOUT (R358). A training step overruns its limit, so the port logs FAB_TRAIN_FAIL and enters BACKOFF. -/
  | trainStepTimeout (p : Fin 6) (lanes : Nat)
  /-- BACKOFF_EXPIRY (R358). After 1 s in BACKOFF the port restarts training. -/
  | backoffExpiry (p : Fin 6)
  /-- IDENT (R359). A port receives its partner's IDENT and checks it, which brings the link UP or marks it MISWIRED. -/
  | ident (p : Fin 6) (wire : Nat)
  /-- FLIT_RECEIVE (R364). A port receives a flit, accepts or discards it, and processes its credits, ACK_SEQ and NAK. -/
  | flitReceive (p : Fin 6) (f : Flit)
  /-- REPLAY_NAK_TIMER (R365). NAK is still set 2 µs after a replay started, so a new replay starts. -/
  | replayNakTimer (p : Fin 6)
  /-- ACK_WAIT_TIMER (R365). The oldest unacknowledged flit has waited 4 µs, so a replay starts. -/
  | ackWaitTimer (p : Fin 6)
  /-- LANE_LOCK_LOSS (R366). A port loses lane or codeword lock, which takes its link down. -/
  | laneLockLoss (p : Fin 6)
  /-- FLIT_TRANSMIT (R373). At each flit boundary a port chooses a channel and transmits one flit. -/
  | flitTransmit (p : Fin 6)
  /-- PACKET_FORWARD (R376). A router routes a packet by FAB_ROUTE, or drops it and answers it UNROUTABLE. -/
  | packetForward (n : Nat) (err : MemErr) (header : Bool) (gran : Nat)
  /-- FAB_WRITE_REQUEST (R370). The target module checks and performs a WRITE packet and responds. -/
  | fabWriteRequest (n : Nat)
  /-- FAB_READ_REQUEST (R370). The target module checks and performs a READ packet and returns READ_DATA. -/
  | fabReadRequest (n : Nat) (err : MemErr := .none)
  /-- FAB_CLAP_REQUEST (R304). The target module checks a CLAP packet, performs it at the clapper's home and responds. -/
  | fabClapRequest (n : Nat)
  /-- FAB_RESP_ARRIVAL (R304). A RESP or READ_DATA packet reaches its issuer and completes or faults the request. -/
  | fabRespArrival (n : Nat)
  /-- FAB_RESP_TIMEOUT (R380). A request has no response within FAB_RESP_TIMEOUT, so it is abandoned and faulted with E_TIMEOUT. -/
  | fabRespTimeout (unit : Nat) (tag : Nat)
  /-- FEC_RATE_CHECK (R383). Each second a port compares its corrected symbols with FAB_FEC_WARN and logs FAB_FEC_DEGRADED. -/
  | fecRateCheck (p : Fin 6) (lane : Nat)
  /-- FAB_ROUTE_WRITE (R377). A write of FAB_ROUTE entries takes effect entry by entry. -/
  | fabRouteWrite (via : Iface) (first : Nat) (data : List Byte)
  /-- FAB_ROUTE_DEFAULT (R375). A write of 1 refills the route table in dimension order. -/
  | fabRouteDefault (via : Iface)
  /-- FAB_PORT_RETRAIN (R384). FAB_PORT_CMD 1 takes the link down and retrains it. -/
  | fabPortRetrain (via : Iface) (p : Fin 6)
  /-- FAB_PORT_HOLD_DOWN (R384). FAB_PORT_CMD 2 holds the link down. -/
  | fabPortHoldDown (via : Iface) (p : Fin 6)
  /-- GRP_LAUNCH (R389). The launch trigger of a group fires, and the engine takes the next instance number. -/
  | grpLaunch (g : Nat)
  /-- CONTEXT_TAKE (R391). A waiting instance takes a free context, checks its sheet and arms its status trigger. -/
  | contextTake (e : Fin 2)
  /-- COLL_STARVE (R391). An instance holds no context COLL_STARVE_TIMEOUT after launch, so it is dropped and faults with E_STARVE. -/
  | collStarve (g : Nat) (seq : Nat)
  /-- RTS (R399). A receiver takes an RTS message and answers it with CTS, or holds it. -/
  | rts (n : Nat)
  /-- CTS (R399). A sender takes a CTS message, checks the hash and may start sending chunks. -/
  | cts (n : Nat)
  /-- CHUNK_SEND (R413). An engine sends the data packets of one chunk by round robin among the ready contexts. -/
  | chunkSend (e : Fin 2)
  /-- CHUNK (R400). A receiver takes a CHUNK message and verifies the landed data against DCRC. -/
  | chunk (n : Nat)
  /-- ACK (R400). A sender takes an ACK message, which frees window room for chunks. -/
  | ack (n : Nat)
  /-- REREQ (R402). A sender takes a REREQ message and resends the chunk from its source. -/
  | rereq (n : Nat)
  /-- COLL_ACK_TIMER (R400). 2 µs have passed with verified chunks unacknowledged, so the receiver sends an ACK. -/
  | collAckTimer (g : Nat) (seq : Nat) (l : Nat)
  /-- ENTRY_DONE (R395). A call sheet entry becomes DONE and performs its DONE signal. -/
  | entryDone (g : Nat) (seq : Nat) (k : Nat)
  /-- COLL_PROGRESS_TIMEOUT (R406). An open lane or an armed trigger makes no progress within COLL_PROGRESS_TIMEOUT, so the instance faults with E_TIMEOUT. -/
  | collProgressTimeout (g : Nat) (seq : Nat)
  /-- COLL_INSTANCE_RELEASE (R404). A failing instance has settled its outstanding requests and releases its context. -/
  | collInstanceRelease (g : Nat) (seq : Nat)
  /-- DLY_ORDER_CLAIM (R426). A dailies engine claims a shipping order from a binding's reel, checks it and queues it on its QP. -/
  | dlyOrderClaim (e : Fin 2)
  /-- DLY_POST (R424). A host write of DLY_POST reserves, writes and commits an order slot in a binding's reel. -/
  | dlyPost (via : Iface) (b : Nat) (data : List Byte)
  /-- QP_ARM (R420). QP_CMD 1 checks the attributes and moves a QP from RESET to RTS. -/
  | qpArm (via : Iface) (q : Nat)
  /-- QP_ERROR_CMD (R420). QP_CMD 2 moves a QP to ERROR and flushes its orders. -/
  | qpErrorCmd (via : Iface) (q : Nat)
  /-- QP_RESET_CMD (R420). QP_CMD 3 moves a QP from ERROR to RESET. -/
  | qpResetCmd (via : Iface) (q : Nat)
  /-- ROCE_PACKET_TRANSMIT (R437). A port sends the next RoCE packet of a QP that is within its rate. -/
  | rocePacketTransmit (e : Fin 2)
  /-- ROCE_ACK (R422). An ACK marks packets acknowledged, which completes messages and performs their ACK signals. -/
  | roceAck (q : Nat) (psn : Nat)
  /-- ROCE_NAK_SEQUENCE (R422). A PSN sequence error NAK makes the QP retransmit from the PSN it carries. -/
  | roceNakSequence (q : Nat) (psn : Nat)
  /-- ROCE_RNR_NAK (R422). An RNR NAK makes the QP wait the timer it carries and then retransmit. -/
  | roceRnrNak (q : Nat) (psn : Nat) (timer : Nat)
  /-- RNR_TIMER_EXPIRY (R422). An RNR wait ends, and the QP retransmits from the NAK's PSN. -/
  | rnrTimerExpiry (q : Nat)
  /-- ROCE_NAK_FATAL (R422). An invalid-request, remote-access or remote-operational NAK puts the QP into ERROR. -/
  | roceNakFatal (q : Nat) (psn : Nat) (kind : Nat)
  /-- CNP_RECEIVE (R438). A CNP cuts the QP's rate under the congestion response. -/
  | cnpReceive (q : Nat)
  /-- QP_ACK_TIMEOUT (R423). No acknowledgement has advanced within the ACK timeout, so the QP retransmits or enters ERROR. -/
  | qpAckTimeout (q : Nat)
  /-- CC_PERIOD (R438). Every CC_PERIOD the rate of each QP without a CNP is raised by CC_STEP. -/
  | ccPeriod
  /-- SEAL_SEND (R434). Once every page of a sequence is acknowledged, the engine sends the seal, or logs a mismatch. -/
  | sealSend (q : Nat)
  /-- ETH_LINK_UP (R444). An Ethernet port comes up. -/
  | ethLinkUp (p : Fin 2)
  /-- ETH_LINK_DOWN (R444). An Ethernet port goes down. -/
  | ethLinkDown (p : Fin 2)
  /-- ETH_FRAME_RECEIVE (R418). An Ethernet port receives any other frame, which it answers or discards and counts. -/
  | ethFrameReceive (p : Fin 2) (frame : List Byte)
  /-- DRAIN_CMD (R457). A host write of 1 to DRAIN_CMD makes the host the suspect and drains the module. -/
  | drainCmd (via : Iface) (v : Nat)
  /-- DIGEST_VERDICT (R461). A write of DIGEST_VERDICT is logged, and outcome 2 makes the module suspect. -/
  | digestVerdict (via : Iface) (v : Nat)
  /-- CHECK_MODE_CHANGE (R446). A committed CHECK_MODE applies to all clusters once every cluster is IDLE. -/
  | checkModeChange
  /-- PAIR_EGRESS_COMPARE (R450). A granule that leaves a pair is compared with the mirror's copy and written, or faulted with E_PAIR. -/
  | pairEgressCompare (p : Fin 4)
  /-- PAIR_EGRESS_TIMEOUT (R450). A granule has waited longer than GATE_TIMEOUT for its counterpart, so the operation faults with E_PAIR. -/
  | pairEgressTimeout (p : Fin 4)
  /-- EVLOG_ACKED (R466). The host acknowledges consumed event records. -/
  | evlogAcked (via : Iface) (v : Nat)
  /-- CONT_ACKED (R466). The host acknowledges consumed continuity records. -/
  | contAcked (via : Iface) (v : Nat)
  /-- MAILBOX_READ (R501). A write of OP 1 to a mailbox submits a dictionary read. -/
  | mailboxRead (m : Nat)
  /-- MAILBOX_WRITE (R501). A write of OP 2 to a mailbox submits a dictionary write. -/
  | mailboxWrite (m : Nat)
  /-- DICT_ACCESS_COMPLETE (R478). The dictionary engine performs one complete access and posts its outcome. -/
  | dictAccessComplete (flash : Bool)
  /-- HELD_VALUE_APPLY (R476). The held values of a block apply together when the block reaches its apply point. -/
  | heldValueApply (n : Nat)
  /-- DAP_READ (R493). An expedited DAP READ request. -/
  | dapRead (n : Nat) (f : List Byte)
  /-- DAP_WRITE (R493). An expedited DAP WRITE request. -/
  | dapWrite (n : Nat) (f : List Byte)
  /-- SEG_READ (R494). A DAP request that starts a segmented read. -/
  | segRead (n : Nat) (f : List Byte)
  /-- SEG_WRITE (R494). A DAP request that starts a segmented write. -/
  | segWrite (n : Nat) (f : List Byte)
  /-- SEGMENT (R494). A DAP frame that carries 60 bytes of a segmented transfer. -/
  | segment (n : Nat) (f : List Byte)
  /-- BLOCK_ACK (R494). A DAP frame that acknowledges a block of segments and names the next expected one. -/
  | blockAck (n : Nat) (f : List Byte)
  /-- SEG_END (R494). A DAP frame that ends a segmented transfer, after which the CRC is checked and the access performed. -/
  | segEnd (n : Nat) (f : List Byte)
  /-- DAP_ABORT (R492). A client cancels a DAP transaction. -/
  | dapAbort (n : Nat) (f : List Byte)
  /-- DAP_PENDING_RESPONSE (R493). Every 20 ms a server sends a pending response for an access it has not yet answered. -/
  | dapPendingResponse (n : Nat)
  /-- DAP_TRANSACTION_TIMEOUT (R495). No frame of a transaction has arrived within DAP_RESPONSE_TIMEOUT, so the transaction is aborted with TIMEOUT. -/
  | dapTransactionTimeout (n : Nat)
  /-- PROXY_ACCESS (R502). A director performs a proxied access on a crew node and returns its result. -/
  | proxyAccess (n : Nat) (resp : Option (Nat × List Byte))
  /-- CUT_COMMIT (R481). CUT_COMMAND 1 checks the staged set, writes it as a TRIAL cut and applies it. -/
  | cutCommit (via : Iface) (flash : Bool)
  /-- CUT_ROLLBACK (R485). CUT_COMMAND 2 makes the previous cut the one in effect. -/
  | cutRollback (via : Iface)
  /-- CUT_CONFIRM (R484). CUT_COMMAND 3 confirms a cut that is in TRIAL. -/
  | cutConfirm (via : Iface)
  /-- CUT_DISCARD (R486). CUT_COMMAND 4 returns every staged value to its committed value. -/
  | cutDiscard (via : Iface)
  /-- CUT_TRIAL_EXPIRED (R484). The trial period ends without a CONFIRM, and the cut becomes TRIAL_EXPIRED. -/
  | cutTrialExpired
  /-- HEARTBEAT_SEND (R497). Every DAP_HEARTBEAT_PERIOD a module sends its HEARTBEAT frame. -/
  | heartbeatSend
  /-- HEARTBEAT_RECEIVE (R503). A module receives a heartbeat, which updates crew presence, restarts claim delays or resolves a director conflict. -/
  | heartbeatReceive (n : Nat) (f : List Byte)
  /-- CREW_SILENT (R503). A crew node has been silent past its limit, so its bit is cleared and the event logged. -/
  | crewSilent (n : Nat)
  /-- EVENT_FRAME_RECEIVE (R504). A director stores a crew EVENT frame in its crew event ring. -/
  | eventFrameReceive (n : Nat) (f : List Byte)
  /-- DAP_BUS_OFF (R499). The CAN FD controller recovers from bus-off and logs the event. -/
  | dapBusOff (errs : Nat)
  /-- PCIE_MEM_READ (R511). A host memory read through BAR2 or BAR4 is checked and served. -/
  | pcieMemRead (p : Fin 8) (bar : Nat) (off : Nat) (n : Nat) (err : MemErr)
  /-- PCIE_MEM_WRITE (R511). A host posted write through BAR2 or BAR4 is checked and performed, or dropped. -/
  | pcieMemWrite (p : Fin 8) (bar : Nat) (off : Nat) (l : List Byte) (ep : Bool) (err : MemErr)
  /-- TQ_TAIL (R520). A doorbell write advances the tail of a take queue. -/
  | tqTail (p : Fin 8) (q : Fin 4) (v : Nat)
  /-- CQ_HEAD (R518). The host reports its consumption of completion entries. -/
  | cqHead (p : Fin 8) (v : Nat)
  /-- ABORT (R521). A write of a take identifier to ABORT aborts the running take or fetched entries that match it. -/
  | abort (p : Fin 8) (id : Word)
  /-- TQ_ENABLE (R536). A write of TQ_ENABLE enables or disables take queues and resets the completion ring on the first enable. -/
  | tqEnable (via : Iface) (p : Fin 8) (v : Nat)
  /-- TAKE_ENTRY_FETCH (R512). The module issues the read of the next available take entry. -/
  | takeEntryFetch (p : Fin 8) (q : Fin 4)
  /-- TAKE_ENTRY_ARRIVAL (R514). A take entry arrives, advances TQ_HEAD and is checked. -/
  | takeEntryArrival (p : Fin 8) (q : Fin 4) (entry : List Byte) (bad : Nat)
  /-- TAKE_SCHEDULE (R516). The scheduler chooses the next take by round robin, and holds it at its start gate when it has one. -/
  | takeSchedule (p : Fin 8)
  /-- TAKE_START (R41). The take controller samples the take-boundary objects and starts loading the program on each cluster. -/
  | takeStart (p : Fin 8)
  /-- CORE_RELEASE (R41). The program image has loaded, and the control core is released at the entry point. -/
  | coreRelease (c : Fin 8)
  /-- CLUSTER_ENDED (R57). A cluster's queues are empty and its operations retired, and when all clusters have ended the completion is handed over. -/
  | clusterEnded (c : Fin 8)
  /-- COMPLETION_WRITE (R518). The completion entry is written to the ring once there is room, followed by the MSI-X message. -/
  | completionWrite (p : Fin 8) (fail : Bool)
  /-- PERST_N (R530). A PCIe fundamental reset discards the takes of every partition. -/
  | perstN (level : Bool)
  /-- HOT_RESET (R530). A PCIe hot reset discards the takes of every partition. -/
  | hotReset
  /-- LINK_DISABLE (R530). A PCIe link disable discards the takes of every partition. -/
  | linkDisable
  /-- FLR (R530). A function-level reset discards the takes of one partition and resets its queues. -/
  | flr (p : Fin 8)
  /-- RESET_CMD_MODULE (R531). RESET_CMD 1 requests a module reset, which is performed 10 ms after the response. -/
  | resetCmdModule (via : Iface)
  /-- RESET_CMD_WARM (R531). RESET_CMD 2 requests a warm reset, which is performed 10 ms after the response. -/
  | resetCmdWarm (via : Iface)
  /-- RESET_DELAY_EXPIRY (R531). 10 ms after a RESET_CMD response, the requested reset begins. -/
  | resetDelayExpiry
  /-- POWER_ON_RESET (R528). The 40 V input enters its range, and boot runs steps S0–S8. -/
  | powerOnReset (straps : Nat)
  /-- MODULE_RESET (R528). A module reset clears state under R529 and reboots from S1. -/
  | moduleReset (cause : Nat)
  /-- MOD_RESET_N_ASSERT (R594). MOD_RESET_N is held low for at least 10 µs, which starts a module reset. -/
  | modResetNAssert
  /-- MOD_RESET_N_RELEASE (R594). MOD_RESET_N is released, and boot step S1 starts. -/
  | modResetNRelease
  /-- BOOT_STEP_END (R524). A boot step finishes, and the next step begins, up to READY, DRAINED or FAILED. -/
  | bootStepEnd (bad : Nat) (fail : Option Nat)
  /-- FABRIC_BOOT_WAIT (R524). FABRIC_BOOT_WAIT expires, which ends S6 without every port UP. -/
  | fabricBootWait
  /-- TC_BOOT_WAIT (R524). TC_BOOT_WAIT expires, which ends S7 without synchronization. -/
  | tcBootWait
  /-- DIRECTOR_CLAIM (R532). A module's claim delay expires with no node-0 frame heard, so it claims the director role. -/
  | directorClaim
  /-- DIRECTOR_RELEASE (R533). A write of 1 to DIRECTOR_RELEASE gives up the director role. -/
  | directorRelease (via : Iface)
  /-- POWER_REQUEST_IDLE (R548). POWER_REQUEST 1 wakes the module from PARK or STANDBY to IDLE. -/
  | powerRequestIdle (via : Iface)
  /-- POWER_REQUEST_PARK (R548). POWER_REQUEST 2 starts entry to PARK, and is held while the module is ACTIVE. -/
  | powerRequestPark (via : Iface)
  /-- POWER_REQUEST_STANDBY (R548). POWER_REQUEST 3 starts entry to STANDBY. -/
  | powerRequestStandby (via : Iface)
  /-- QUIESCE_COMPLETE (R549). Every open handshake of the islands to power down has closed, and PARK or STANDBY entry continues. -/
  | quiesceComplete
  /-- QUIESCE_TIMEOUT (R549). Quiescence is not reached within QUIESCE_TIMEOUT, so the transition is abandoned and logged. -/
  | quiesceTimeout (islands : Nat)
  /-- PARK_WAKE_COMPLETE (R551). Wake from PARK completes, and the module enters IDLE. -/
  | parkWakeComplete
  /-- WAKE_N (R594). WAKE_N is held low for at least 100 µs in STANDBY, which starts a wake. -/
  | wakeN
  /-- POWER_LIMITER_SAMPLE (R556). Every 100 µs the limiter samples input power and adjusts the cluster clock target. -/
  | powerLimiterSample (p100 : Nat)
  /-- THERMAL_SAMPLE (R558). A die's temperature sample adjusts its thermal target or starts a protective shutdown. -/
  | thermalSample (d : Fin 6) (tj : Int) (odd : Bool)
  /-- TELEMETRY_SAMPLE (R557). A supply or temperature is sampled, which can raise coolant warnings and input faults. -/
  | telemetrySample (k : Nat) (j : Nat) (v : Int)
  /-- PROTECT_RECOVERY (R560). The recovery condition holds after a protective shutdown, which starts a module reset. -/
  | protectRecovery
  /-- INPUT_FAULT (R554). An undervoltage, overvoltage or overcurrent condition persists for its duration, which starts a protective shutdown. -/
  | inputFault (cause : Nat) (value : Nat)
  /-- VIN_THRESHOLD (R554). VIN crosses an always-on or start-up threshold, which powers the always-on island, starts S0 or makes the module OFF. -/
  | vinThreshold (k : Nat) (straps : Nat)
  /-- CLK_REF_LOST (R543). XIN0 or XIN1 loses its ready flag, which holds PLLs, takes ports down and can fall back to FOSC. -/
  | clkRefLost (b : Nat)
  /-- CLK_REF_RESTORED (R543). A reference returns, and the held PLLs relock. -/
  | clkRefRestored (b : Nat)
  /-- CLK_SRC_WRITE (R541). A write of CLK_SRC switches an island's PLL reference. -/
  | clkSrcWrite (via : Iface) (j : Fin 24) (v : Nat)
  /-- PLL_RELOCK (R542). A PLL relocks on its new reference. -/
  | pllRelock (j : Fin 24)
  /-- PLL_RELOCK_TIMEOUT (R542). A PLL has not relocked within 200 µs, so it returns to the previous reference and logs PLL_UNLOCK. -/
  | pllRelockTimeout (j : Fin 24)
  /-- PLL_LOCK_LOSS (R540). A PLL loses lock. -/
  | pllLockLoss (j : Fin 24)
  /-- SEC_TOKEN_DEBUG (R573). A kind 1 token opens a debug session. -/
  | secTokenDebug (via : Iface) (t : List Byte)
  /-- SEC_TOKEN_LIFECYCLE (R571). A kind 2 token moves the lifecycle state. -/
  | secTokenLifecycle (via : Iface) (t : List Byte)
  /-- SEC_TOKEN_REVOKE (R572). A kind 3 token revokes a key slot. -/
  | secTokenRevoke (via : Iface) (t : List Byte)
  /-- LIFECYCLE_CMD (R571). A write of 2 moves the module from PROVISIONED to DEPLOYED. -/
  | lifecycleCmd (via : Iface) (v : Nat)
  /-- IMAGE_OPEN (R568). IMAGE_CMD OPEN erases an image slot and opens it. -/
  | imageOpen (via : Iface) (n : Fin 2)
  /-- IMAGE_LOAD (R568). A write of IMAGE_LOAD writes bytes at an offset of the open slot. -/
  | imageLoad (via : Iface) (b : List Byte)
  /-- IMAGE_FINISH (R568). IMAGE_CMD FINISH verifies the open slot. -/
  | imageFinish (via : Iface) (n : Fin 2) (err : Bool)
  /-- IMAGE_ABANDON (R568). IMAGE_CMD ABANDON marks the open slot REJECTED. -/
  | imageAbandon (via : Iface) (n : Fin 2)
  /-- RAISE_SVN (R568). IMAGE_CMD RAISE_SVN sets MIN_SVN to the SVN of the booted image. -/
  | raiseSvn (via : Iface)
  /-- DEBUG_REQUEST (R573). A DEBUG_REQUEST write opens or holds a debug session without a token. -/
  | debugRequest (via : Iface) (v : Nat)
  /-- DEBUG_END (R573). A write of 1 ends the debug session or cancels a held request. -/
  | debugEnd (via : Iface) (v : Nat)
  /-- HELD_DEBUG_OPEN (R574). A held debug request opens when the module reaches IDLE. -/
  | heldDebugOpen
  /-- DEBUG_SESSION_EXPIRY (R574). A session's DURATION expires, and the session ends. -/
  | debugSessionExpiry
  /-- DBG_CORE_HALT (R575). DBG_CORE 1 halts a control core at its next instruction boundary. -/
  | dbgCoreHalt (via : Iface) (c : Fin 8)
  /-- DBG_CORE_STEP (R575). DBG_CORE 2 steps a halted core by one instruction. -/
  | dbgCoreStep (via : Iface) (c : Fin 8)
  /-- DBG_CORE_RESUME (R575). DBG_CORE 3 resumes a halted core. -/
  | dbgCoreResume (via : Iface) (c : Fin 8)
  /-- DBG_MEM_DATA (R575). A read of DBG_MEM_DATA returns 4,096 bytes of the partition's memory, or is refused. -/
  | dbgMemData (via : Iface)
  /-- JTAG_IR_UPDATE (R579). An instruction is loaded into the TAP instruction register and selects its data register. -/
  | jtagIrUpdate (code : Nat)
  /-- DBG_PORT_WRITE (R580). Update-DR with WRITE set writes 8 bytes into the JTAG mailbox. -/
  | dbgPortWrite (off : Nat) (data : Word)
  /-- DBG_PORT_READ (R580). Capture-DR loads 8 bytes from the JTAG mailbox. -/
  | dbgPortRead (off : Nat)
  /-- PCIE_LINK_UP (R538). The PCIe link finishes training, after PERST_N is released or after a retrain, and comes up at its negotiated speed and width. -/
  | pcieLinkUp (speed : Nat) (width : Nat)
  /-- PCIE_LINK_DOWN (R538). The PCIe link goes down without a host command, and the PCIE_LINK event is logged. -/
  | pcieLinkDown
  /-- PCIE_COMPLETION_TIMEOUT (R523). A module read of a take entry gets no completion within the PCIe completion timeout, so the queue is disabled and HOST_QUEUE_ERROR is logged. -/
  | pcieCompletionTimeout (p : Fin 8) (q : Fin 4)
  /-- DIE_UNREACHABLE (R457). A die becomes unreachable over the mesh, DIE_STATUS reads 2, and the module becomes suspect and drains. -/
  | dieUnreachable (d : Nat)
  /-- STACK_FAILED (R457). An HBM stack enters failed in HBM_STATE while the module is ACTIVE or IDLE, and the module becomes suspect and drains. -/
  | stackFailed (k : Fin 12)
  /-- DAP_UNKNOWN_COMMAND (R492). A DAP REQUEST frame with an unknown CMD, a reserved bit set or a length too short for its command is answered with COMMAND, or dropped. -/
  | dapUnknownCommand (n : Nat) (f : List Byte)
  /-- JTAG_TEST_LOGIC_RESET (R579). The TAP enters Test-Logic-Reset, through TMS or TRST_N, and IDCODE becomes the selected instruction. -/
  | jtagTestLogicReset
deriving DecidableEq, Repr

end Sys2Proof
end

