-- ==== Sys2Proof/Machine/Bits.lean ====
section
/-! DEFINITION. Machine/Bits.lean: bit fields, little-endian bytes (R2, R335) and the canonical sparse map in which
State holds memories and tables: a list of (key, value) pairs with rising keys and no entry equal to the default. -/

namespace Sys2Proof.Machine

/-- Bits [lo + len - 1 : lo] of a natural number. -/
def bits (x lo len : Nat) : Nat := (x >>> lo) % 2 ^ len
/-- Bit i of a natural number. -/
def bit (x i : Nat) : Bool := x.testBit i
/-- A field of a bit vector as a natural number. -/
def fld {n : Nat} (b : BitVec n) (lo len : Nat) : Nat := (b.extractLsb' lo len).toNat
/-- A two's-complement field of a bit vector. -/
def sfld {n : Nat} (b : BitVec n) (lo len : Nat) : Int := (b.extractLsb' lo len).toInt
/-- Two's complement reading of an n-bit natural number. -/
def sext (n x : Nat) : Int := if x % 2 ^ n < 2 ^ (n - 1) then (x % 2 ^ n : Nat) else (x % 2 ^ n : Nat) - (2 ^ n : Nat)
/-- The n low bits of an integer, as a natural number. -/
def wrapN (n : Nat) (x : Int) : Nat := (x % (2 ^ n : Nat)).toNat
/-- A counter of n bits that stops at its largest value. -/
def satAdd (n x d : Nat) : Nat := min (x + d) (2 ^ n - 1)
/-- Ceiling division. -/
def cdiv (a b : Nat) : Nat := (a + b - 1) / b

/-- The natural number spelled by little-endian bytes (R2). -/
def ofLE : List Byte → Nat
  | [] => 0
  | b :: t => b.toNat + 256 * ofLE t
/-- The n low bytes of x, little-endian (R2). -/
def toLE : Nat → Nat → List Byte
  | 0, _ => []
  | n + 1, x => BitVec.ofNat 8 x :: toLE n (x / 256)
/-- The natural number spelled by big-endian bytes. -/
def ofBE (l : List Byte) : Nat := l.foldl (fun a b => a * 256 + b.toNat) 0
/-- The n low bytes of x, most significant first. -/
def toBE (n x : Nat) : List Byte := (toLE n x).reverse
/-- A string of n zero bytes. -/
def zeros (n : Nat) : List Byte := List.replicate n 0#8
/-- The bytes [lo, lo + n) of a list, zero beyond its end. -/
def slice (l : List Byte) (lo n : Nat) : List Byte := (l.drop lo).take n ++ zeros (n - ((l.drop lo).take n).length)

/-! Checksums. -/

/-- One step of the reflected CRC with polynomial poly over a bit already added. -/
def crcStep (poly c : Nat) : Nat := if c % 2 = 1 then (c / 2) ^^^ poly else c / 2
/-- A reflected CRC over one byte. -/
def crcByte (poly : Nat) (c : Nat) (b : Byte) : Nat := (List.range 8).foldl (fun x _ => crcStep poly x) (c ^^^ b.toNat)
/-- CRC-32C (R282): reflected polynomial 0x82F63B78, initial and final value all ones. -/
def crc32c (l : List Byte) : Nat := (l.foldl (crcByte 0x82F63B78) (2 ^ 32 - 1)) ^^^ (2 ^ 32 - 1)

/-! The canonical sparse map. -/

/-- The value listed at key k, if any. -/
def mfind {V : Type} : List (Nat × V) → Nat → Option V
  | [], _ => none
  | (a, v) :: t, k => if k = a then some v else mfind t k
/-- The value at key k: the listed one or the default d. -/
def mget {V : Type} (d : V) (m : List (Nat × V)) (k : Nat) : V := (mfind m k).getD d
/-- m with (k, v) listed at its place in key order. -/
def mput {V : Type} : List (Nat × V) → Nat → V → List (Nat × V)
  | [], k, v => [(k, v)]
  | (a, w) :: t, k, v => if k < a then (k, v) :: (a, w) :: t else if k = a then (k, v) :: t else (a, w) :: mput t k v
/-- m with no entry at key k. -/
def merase {V : Type} (m : List (Nat × V)) (k : Nat) : List (Nat × V) := m.filter (fun p => p.1 != k)
/-- Writing v at key k; writing the default d removes the entry, so that equal maps are equal lists. -/
def mset {V : Type} [DecidableEq V] (d : V) (m : List (Nat × V)) (k : Nat) (v : V) : List (Nat × V) :=
  if v = d then merase m k else mput m k v
/-- The keys rise strictly. -/
def mrising {V : Type} : List (Nat × V) → Bool
  | [] => true
  | [_] => true
  | (a, _) :: (b, w) :: t => decide (a < b) && mrising ((b, w) :: t)
/-- The canonical form: strictly rising keys, no entry equal to the default. -/
def mwf {V : Type} [DecidableEq V] (d : V) (m : List (Nat × V)) : Bool := mrising m && m.all (fun p => decide (p.2 ≠ d))

/-- The index of the first element that satisfies p. -/
def findIdx {A : Type} (p : A → Bool) : List A → Nat → Option Nat
  | [], _ => none
  | a :: t, n => if p a then some n else findIdx p t (n + 1)
/-- The list with its n-th element removed. -/
def dropAt {A : Type} (l : List A) (n : Nat) : List A := l.take n ++ l.drop (n + 1)
/-- The list with f applied to every element that satisfies p. -/
def mapIf {A : Type} (p : A → Bool) (f : A → A) (l : List A) : List A := l.map (fun a => if p a then f a else a)
/-- The first `some` that f gives along the list. -/
def firstSome {A B : Type} (f : A → Option B) : List A → Option B
  | [] => none
  | a :: t => match f a with
    | some b => some b
    | none => firstSome f t
/-- The first failing check of a list of (condition, result) pairs, in order (R6). -/
def firstBad {B : Type} : List (Bool × B) → Option B
  | [] => none
  | (c, b) :: t => if c then some b else firstBad t

end Sys2Proof.Machine
end

