-- ==== Sys2Proof/Machine/Sha.lean ====
section
/-! DEFINITION. Machine/Sha.lean: SHA-256 (FIPS 180-4; R352) and SHA-384 (R564-R566), over lists of bytes. -/

namespace Sys2Proof.Machine

/-- The round constants of SHA-256: cube roots of the first 64 primes. -/
def sha256K : List Nat :=
  [0x428a2f98, 0x71374491, 0xb5c0fbcf, 0xe9b5dba5, 0x3956c25b, 0x59f111f1, 0x923f82a4, 0xab1c5ed5] ++
  [0xd807aa98, 0x12835b01, 0x243185be, 0x550c7dc3, 0x72be5d74, 0x80deb1fe, 0x9bdc06a7, 0xc19bf174] ++
  [0xe49b69c1, 0xefbe4786, 0xfc19dc6, 0x240ca1cc, 0x2de92c6f, 0x4a7484aa, 0x5cb0a9dc, 0x76f988da] ++
  [0x983e5152, 0xa831c66d, 0xb00327c8, 0xbf597fc7, 0xc6e00bf3, 0xd5a79147, 0x6ca6351, 0x14292967] ++
  [0x27b70a85, 0x2e1b2138, 0x4d2c6dfc, 0x53380d13, 0x650a7354, 0x766a0abb, 0x81c2c92e, 0x92722c85] ++
  [0xa2bfe8a1, 0xa81a664b, 0xc24b8b70, 0xc76c51a3, 0xd192e819, 0xd6990624, 0xf40e3585, 0x106aa070] ++
  [0x19a4c116, 0x1e376c08, 0x2748774c, 0x34b0bcb5, 0x391c0cb3, 0x4ed8aa4a, 0x5b9cca4f, 0x682e6ff3] ++
  [0x748f82ee, 0x78a5636f, 0x84c87814, 0x8cc70208, 0x90befffa, 0xa4506ceb, 0xbef9a3f7, 0xc67178f2]
/-- The round constants of SHA-384 and SHA-512: cube roots of the first 80 primes. -/
def sha512K : List Nat :=
  [0x428a2f98d728ae22, 0x7137449123ef65cd, 0xb5c0fbcfec4d3b2f, 0xe9b5dba58189dbbc, 0x3956c25bf348b538, 0x59f111f1b605d019, 0x923f82a4af194f9b, 0xab1c5ed5da6d8118] ++
  [0xd807aa98a3030242, 0x12835b0145706fbe, 0x243185be4ee4b28c, 0x550c7dc3d5ffb4e2, 0x72be5d74f27b896f, 0x80deb1fe3b1696b1, 0x9bdc06a725c71235, 0xc19bf174cf692694] ++
  [0xe49b69c19ef14ad2, 0xefbe4786384f25e3, 0xfc19dc68b8cd5b5, 0x240ca1cc77ac9c65, 0x2de92c6f592b0275, 0x4a7484aa6ea6e483, 0x5cb0a9dcbd41fbd4, 0x76f988da831153b5] ++
  [0x983e5152ee66dfab, 0xa831c66d2db43210, 0xb00327c898fb213f, 0xbf597fc7beef0ee4, 0xc6e00bf33da88fc2, 0xd5a79147930aa725, 0x6ca6351e003826f, 0x142929670a0e6e70] ++
  [0x27b70a8546d22ffc, 0x2e1b21385c26c926, 0x4d2c6dfc5ac42aed, 0x53380d139d95b3df, 0x650a73548baf63de, 0x766a0abb3c77b2a8, 0x81c2c92e47edaee6, 0x92722c851482353b] ++
  [0xa2bfe8a14cf10364, 0xa81a664bbc423001, 0xc24b8b70d0f89791, 0xc76c51a30654be30, 0xd192e819d6ef5218, 0xd69906245565a910, 0xf40e35855771202a, 0x106aa07032bbd1b8] ++
  [0x19a4c116b8d2d0c8, 0x1e376c085141ab53, 0x2748774cdf8eeb99, 0x34b0bcb5e19b48a8, 0x391c0cb3c5c95a63, 0x4ed8aa4ae3418acb, 0x5b9cca4f7763e373, 0x682e6ff3d6b2b8a3] ++
  [0x748f82ee5defb2fc, 0x78a5636f43172f60, 0x84c87814a1f0ab72, 0x8cc702081a6439ec, 0x90befffa23631e28, 0xa4506cebde82bde9, 0xbef9a3f7b2c67915, 0xc67178f2e372532b] ++
  [0xca273eceea26619c, 0xd186b8c721c0c207, 0xeada7dd6cde0eb1e, 0xf57d4f7fee6ed178, 0x6f067aa72176fba, 0xa637dc5a2c898a6, 0x113f9804bef90dae, 0x1b710b35131c471b] ++
  [0x28db77f523047d84, 0x32caab7b40c72493, 0x3c9ebe0a15c9bebc, 0x431d67c49c100d4c, 0x4cc5d4becb3e42b6, 0x597f299cfc657e2a, 0x5fcb6fab3ad6faec, 0x6c44198c4a475817]
/-- The initial value of SHA-256. -/
def sha256H : List Nat :=
  [0x6a09e667, 0xbb67ae85, 0x3c6ef372, 0xa54ff53a, 0x510e527f, 0x9b05688c, 0x1f83d9ab, 0x5be0cd19]
/-- The initial value of SHA-384. -/
def sha384H : List Nat :=
  [0xcbbb9d5dc1059ed8, 0x629a292a367cd507, 0x9159015a3070dd17, 0x152fecd8f70e5939, 0x67332667ffc00b31, 0x8eb44a8768581511, 0xdb0c2e0d64f98fa7, 0x47b5481dbefa4fa4]

/-- Rotation to the right of a word of w bits. -/
def rotr (w x n : Nat) : Nat := (x >>> n) ||| (x <<< (w - n)) % 2 ^ w
/-- The rotations and shifts of a hash function: word size, block size in bytes, and the amounts of Σ0, Σ1, σ0, σ1. -/
structure ShaP where
  w : Nat
  blk : Nat
  k : List Nat
  s0 : Nat × Nat × Nat
  s1 : Nat × Nat × Nat
  g0 : Nat × Nat × Nat
  g1 : Nat × Nat × Nat
deriving DecidableEq, Repr
/-- SHA-256. -/
def sha256P : ShaP := { w := 32, blk := 64, k := sha256K, s0 := (2, 13, 22), s1 := (6, 11, 25), g0 := (7, 18, 3), g1 := (17, 19, 10) }
/-- SHA-384. -/
def sha384P : ShaP := { w := 64, blk := 128, k := sha512K, s0 := (28, 34, 39), s1 := (14, 18, 41), g0 := (1, 8, 7), g1 := (19, 61, 6) }
/-- Three rotations together. -/
def rot3 (p : ShaP) (a : Nat × Nat × Nat) (x : Nat) : Nat := rotr p.w x a.1 ^^^ rotr p.w x a.2.1 ^^^ rotr p.w x a.2.2
/-- Two rotations and a shift. -/
def rot2s (p : ShaP) (a : Nat × Nat × Nat) (x : Nat) : Nat := rotr p.w x a.1 ^^^ rotr p.w x a.2.1 ^^^ (x >>> a.2.2)
/-- The message schedule, newest word first. -/
def shaSched (p : ShaP) (m : List Nat) : Nat → List Nat
  | 0 => m.reverse
  | n + 1 =>
    let l := shaSched p m n
    ((rot2s p p.g1 (l.getD 1 0) + l.getD 6 0 + rot2s p p.g0 (l.getD 14 0) + l.getD 15 0) % 2 ^ p.w) :: l
/-- One round on the working variables. -/
def shaRound (p : ShaP) (v : List Nat) (kw : Nat × Nat) : List Nat :=
  match v with
  | [a, b, c, d, e, f, g, h] =>
    let ch := (e &&& f) ^^^ ((2 ^ p.w - 1 - e) &&& g)
    let maj := (a &&& b) ^^^ (a &&& c) ^^^ (b &&& c)
    let t1 := h + rot3 p p.s1 e + ch + kw.1 + kw.2
    [(t1 + rot3 p p.s0 a + maj) % 2 ^ p.w, a, b, c, (d + t1) % 2 ^ p.w, e, f, g]
  | v => v
/-- One block of the message. -/
def shaBlock (p : ShaP) (h : List Nat) (blk : List Byte) : List Nat :=
  let m := (List.range 16).map (fun i => ofBE ((blk.drop (i * (p.w / 8))).take (p.w / 8)))
  let ws := (shaSched p m (p.k.length - 16)).reverse
  let v := (p.k.zip ws).foldl (shaRound p) h
  (h.zip v).map (fun x => (x.1 + x.2) % 2 ^ p.w)
/-- The padded message. -/
def shaPad (p : ShaP) (l : List Byte) : List Byte :=
  let n := l.length
  let len := p.blk / 8
  l ++ [0x80#8] ++ zeros ((p.blk - (n + 1 + len) % p.blk) % p.blk) ++ toBE len (8 * n)
/-- The blocks of a padded message in turn, n of them. -/
def shaBlocks (p : ShaP) : Nat → List Nat → List Byte → List Nat
  | 0, h, _ => h
  | n + 1, h, l => shaBlocks p n (shaBlock p h (l.take p.blk)) (l.drop p.blk)
/-- The hash as words. -/
def shaWords (p : ShaP) (h0 : List Nat) (l : List Byte) : List Nat :=
  let m := shaPad p l
  shaBlocks p (m.length / p.blk) h0 m
/-- SHA-256 of a byte string: 32 bytes. -/
def sha256 (l : List Byte) : List Byte := (shaWords sha256P sha256H l).flatMap (toBE 4)
/-- SHA-384 of a byte string: 48 bytes. -/
def sha384 (l : List Byte) : List Byte := ((shaWords sha384P sha384H l).take 6).flatMap (toBE 8)

end Sys2Proof.Machine
end

