-- ==== Sys2Proof/Machine/Fp.lean ====
section
/-! DEFINITION. Machine/Fp.lean: the floating-point formats (R69), exact values, the one rounding (R77, R78, R86), and
the correctly rounded binary32 operations (R74, R75, R216) with the sticky flags of R80. -/

namespace Sys2Proof.Machine

/-- A flag set of R80. -/
abbrev Flags := BitVec 8
/-- The flags of R80: overflow, underflow, inexact, invalid, flushed. -/
def fOF : Flags := 1#8
def fUF : Flags := 2#8
def fIX : Flags := 4#8
def fIV : Flags := 8#8
def fFZ : Flags := 16#8
/-- The flag f when c holds. -/
def flagIf (c : Bool) (f : Flags) : Flags := if c then f else 0#8

/-- A floating-point format: exponent bits, fraction bits, bias (R69). -/
structure FFmt where
  ebits : Nat
  fbits : Nat
  bias : Nat
deriving DecidableEq, Repr
/-- R69. -/
def fp32 : FFmt := ⟨8, 23, 127⟩
def bf16 : FFmt := ⟨8, 7, 127⟩
def fp16 : FFmt := ⟨5, 10, 15⟩

/-- An exact value: a NaN (signalling or quiet), an infinity, a zero, or (-1)^neg · m · 2^e with m ≠ 0. -/
inductive FVal where
  | nan (snan : Bool)
  | inf (neg : Bool)
  | zero (neg : Bool)
  | fin (neg : Bool) (m : Nat) (e : Int)
deriving DecidableEq, Repr

/-- The value that a code of format F encodes (R69). -/
def fdec (F : FFmt) (code : Nat) : FVal :=
  let neg := bit code (F.ebits + F.fbits)
  let ex := bits code F.fbits F.ebits
  let fr := bits code 0 F.fbits
  if ex = 2 ^ F.ebits - 1 then
    if fr = 0 then .inf neg else .nan (!bit code (F.fbits - 1))
  else if ex = 0 then
    if fr = 0 then .zero neg else .fin neg fr (1 - (F.bias : Int) - F.fbits)
  else .fin neg (2 ^ F.fbits + fr) ((ex : Int) - F.bias - F.fbits)

/-- The code is a subnormal of format F. -/
def fsub (F : FFmt) (code : Nat) : Bool := bits code F.fbits F.ebits = 0 && bits code 0 F.fbits ≠ 0
/-- An operand read under the flush mode of its set (R77): the value, and FZ where it was flushed. -/
def fread (flush : Bool) (F : FFmt) (code : Nat) : FVal × Flags :=
  if flush && fsub F code then (.zero (bit code (F.ebits + F.fbits)), fFZ) else (fdec F code, 0#8)

/-- The sign bit of format F. -/
def fsign (F : FFmt) (neg : Bool) : Nat := if neg then 2 ^ (F.ebits + F.fbits) else 0
/-- The infinity of format F. -/
def finf (F : FFmt) (neg : Bool) : Nat := fsign F neg + (2 ^ F.ebits - 1) * 2 ^ F.fbits
/-- The largest finite number of format F. -/
def fmax (F : FFmt) (neg : Bool) : Nat := finf F neg - 1
/-- The canonical quiet NaN of format F (R70). -/
def fnan (F : FFmt) : Nat := finf F false + 2 ^ (F.fbits - 1)
/-- The zero of format F. -/
def fzero (F : FFmt) (neg : Bool) : Nat := fsign F neg

/-- Does a rounding by `mode` (0 RNE, 1 RTZ, 2 RDN, 3 RUP: R84) go away from zero, for a kept part `s` and a remainder
`rem` below 2^d? -/
def roundsUp (mode : Nat) (neg : Bool) (s rem d : Nat) : Bool :=
  match mode with
  | 0 => decide (2 * rem > 2 ^ d) || (decide (2 * rem = 2 ^ d) && s % 2 = 1)
  | 1 => false
  | 2 => neg && rem ≠ 0
  | _ => !neg && rem ≠ 0

/-- The one rounding of the exact nonzero value (-1)^neg · m · 2^e into format F, with the tiny rule of R77 and R78 and
the overflow rule of R86: the code and the flags. -/
def fround (F : FFmt) (mode : Nat) (sat flush neg : Bool) (m : Nat) (e : Int) : Nat × Flags :=
  let E : Int := e + (Nat.log2 m : Nat)
  let emin : Int := 1 - (F.bias : Int)
  let tiny := decide (E < emin)
  if flush && tiny then (fzero F neg, fFZ ||| fUF ||| fIX) else
  let q : Int := max E emin - F.fbits
  let d : Nat := (q - e).toNat
  let s0 := if e < q then m >>> d else m <<< (e - q).toNat
  let rem := if e < q then m % 2 ^ d else 0
  let inx := decide (rem ≠ 0)
  let s := if roundsUp mode neg s0 rem d then s0 + 1 else s0
  if decide (q + (Nat.log2 s : Nat) > F.bias) && s ≠ 0 then
    let toInf := !sat && (mode = 0 || (mode = 2 && neg) || (mode = 3 && !neg))
    (if toInf then finf F neg else fmax F neg, fOF ||| fIX)
  else
    (fsign F neg + (q + F.fbits + F.bias - 1).toNat * 2 ^ F.fbits + s,
     flagIf inx fIX ||| flagIf (tiny && inx) fUF)

/-- An exact value encoded into format F with one rounding; an infinity stays infinite; a NaN becomes canonical (R70)
and raises IV when it is signalling. -/
def fenc (F : FFmt) (mode : Nat) (sat flush : Bool) : FVal → Nat × Flags
  | .nan s => (fnan F, flagIf s fIV)
  | .inf n => (finf F n, 0#8)
  | .zero n => (fzero F n, 0#8)
  | .fin n m e => if m = 0 then (fzero F n, 0#8) else fround F mode sat flush n m e

/-- Rounding to binary32, nearest even, no saturation: the rounding of every lane and of the array (R215, R104). -/
def fenc32 (flush : Bool) (v : FVal) : Nat × Flags := fenc fp32 0 false flush v

/-- The value of a NaN. -/
def FVal.isNan : FVal → Bool
  | .nan _ => true
  | _ => false
def FVal.isSnan : FVal → Bool
  | .nan s => s
  | _ => false
def FVal.isInf : FVal → Bool
  | .inf _ => true
  | _ => false
def FVal.isZero : FVal → Bool
  | .zero _ => true
  | _ => false
def FVal.neg : FVal → Bool
  | .nan _ => false
  | .inf n => n
  | .zero n => n
  | .fin n _ _ => n
/-- The value with its sign reversed (a NaN unchanged). -/
def FVal.negate : FVal → FVal
  | .nan s => .nan s
  | .inf n => .inf (!n)
  | .zero n => .zero (!n)
  | .fin n m e => .fin (!n) m e
def FVal.abs : FVal → FVal
  | .nan s => .nan s
  | .inf _ => .inf false
  | .zero _ => .zero false
  | .fin _ m e => .fin false m e
def FVal.isFinite : FVal → Bool
  | .nan _ => false
  | .inf _ => false
  | _ => true

/-- The exact value of an integer; 0 is +0. -/
def ofIntV (x : Int) : FVal := if x = 0 then .zero false else .fin (decide (x < 0)) x.natAbs 0
/-- A signed significand at exponent e; an exact zero is +0. -/
def ofSig (s : Int) (e : Int) : FVal := if s = 0 then .zero false else .fin (decide (s < 0)) s.natAbs e
/-- The signed significand of a finite value brought to exponent `to` ≤ its own. -/
def sigAt (v : FVal) (base : Int) : Int :=
  match v with
  | .fin n m e => let x : Int := (m <<< (e - base).toNat : Nat); if n then -x else x
  | _ => 0
/-- The exponent of a finite value's significand. -/
def expOf : FVal → Int
  | .fin _ _ e => e
  | _ => 0

/-- IV when one of the operands is a signalling NaN. -/
def snanIV (l : List FVal) : Flags := flagIf (l.any FVal.isSnan) fIV
/-- The canonical NaN result. -/
def qnan32 : Nat := fnan fp32

/-- The exact sum of two values that are not NaN and not opposite infinities; zeros by R74. -/
def sumV (a b : FVal) : FVal :=
  match a, b with
  | .inf n, _ => .inf n
  | _, .inf n => .inf n
  | .zero m, .zero n => .zero (m && n)
  | .zero _, y => y
  | x, .zero _ => x
  | x, y => let e := min (expOf x) (expOf y); ofSig (sigAt x e + sigAt y e) e
/-- The exact product of two values that are not NaN and not ∞ × 0; signs by R74. -/
def mulV (a b : FVal) : FVal :=
  let n := a.neg != b.neg
  match a, b with
  | .fin _ m e, .fin _ m' e' => .fin n (m * m') (e + e')
  | .inf _, _ => .inf n
  | _, .inf _ => .inf n
  | _, _ => .zero n

/-- a + b, rounded once (R74, R216). -/
def add32 (flush : Bool) (a b : FVal) : Nat × Flags :=
  if a.isNan || b.isNan then (qnan32, snanIV [a, b])
  else if a.isInf && b.isInf && a.neg != b.neg then (qnan32, fIV)
  else fenc32 flush (sumV a b)
/-- a · b, rounded once. -/
def mul32 (flush : Bool) (a b : FVal) : Nat × Flags :=
  if a.isNan || b.isNan then (qnan32, snanIV [a, b])
  else if (a.isInf && b.isZero) || (a.isZero && b.isInf) then (qnan32, fIV)
  else fenc32 flush (mulV a b)
/-- a · b + c, rounded once (R216). -/
def fma32 (flush : Bool) (a b c : FVal) : Nat × Flags :=
  if (a.isInf && b.isZero) || (a.isZero && b.isInf) then (qnan32, fIV)
  else if a.isNan || b.isNan || c.isNan then (qnan32, snanIV [a, b, c])
  else
    let p := mulV a b
    if p.isInf && c.isInf && p.neg != c.neg then (qnan32, fIV) else fenc32 flush (sumV p c)

/-- The exact quotient m1·2^e1 / m2·2^e2 as a significand with at least 64 bits, its last bit sticky. -/
def quotSig (m1 : Nat) (e1 : Int) (m2 : Nat) (e2 : Int) : Nat × Int :=
  let k := 64 + Nat.log2 m2
  let n := m1 <<< k
  (2 * (n / m2) + (if n % m2 = 0 then 0 else 1), e1 - e2 - k - 1)
/-- The quotient of two values that are not NaN, 0/0 or ∞/∞. -/
def divV (a b : FVal) : FVal :=
  let n := a.neg != b.neg
  match a, b with
  | .fin _ m e, .fin _ m' e' => let q := quotSig m e m' e'; .fin n q.1 q.2
  | .inf _, _ => .inf n
  | .fin _ _ _, .zero _ => .inf n
  | _, _ => .zero n
/-- a / b, rounded once; a nonzero finite number by zero is infinite with OF (R75). -/
def div32 (flush : Bool) (a b : FVal) : Nat × Flags :=
  if a.isNan || b.isNan then (qnan32, snanIV [a, b])
  else if (a.isZero && b.isZero) || (a.isInf && b.isInf) then (qnan32, fIV)
  else
    let r := fenc32 flush (divV a b)
    (r.1, r.2 ||| flagIf (a.isFinite && b.isZero) fOF)

/-- Integer square root by Newton iteration from above; 600 halvings suffice below 2^1000. -/
def isqrtFrom : Nat → Nat → Nat → Nat
  | 0, _, x => x
  | n + 1, a, x => let y := (x + a / x) / 2; if y < x then isqrtFrom n a y else x
/-- ⌊√a⌋. -/
def isqrt (a : Nat) : Nat := if a = 0 then 0 else isqrtFrom 600 a (2 ^ (Nat.log2 a / 2 + 1))
/-- √(m·2^e) with at least 64 significant bits, its last bit sticky. -/
def sqrtSig (m : Nat) (e : Int) : Nat × Int :=
  let sh : Nat := 128 + (if (e % 2 : Int) = 0 then 0 else 1)
  let a := m <<< sh
  let r := isqrt a
  (2 * r + (if r * r = a then 0 else 1), (e - sh) / 2 - 1)
/-- √a, rounded once. -/
def sqrt32 (flush : Bool) (a : FVal) : Nat × Flags :=
  match a with
  | .nan s => (qnan32, flagIf s fIV)
  | .zero n => (fzero fp32 n, 0#8)
  | .inf n => if n then (qnan32, fIV) else (finf fp32 false, 0#8)
  | .fin n m e => if n then (qnan32, fIV) else let r := sqrtSig m e; fenc32 flush (.fin false r.1 r.2)

/-- Comparison of two values that are not NaN; −0 = +0 (R76). -/
def ltV (a b : FVal) : Bool :=
  match a, b with
  | .inf n, .inf k => n && !k
  | .inf n, _ => n
  | _, .inf k => !k
  | x, y => let e := min (expOf x) (expOf y); decide (sigAt x e < sigAt y e)
def eqV (a b : FVal) : Bool := !ltV a b && !ltV b a
/-- The total order of R76 for maximum and minimum: −0 below +0. -/
def ltMax (a b : FVal) : Bool := ltV a b || (a.isZero && b.isZero && a.neg && !b.neg)
/-- IEEE 754-2019 maximum (R76), as a value. -/
def maxV (a b : FVal) : FVal := if a.isNan || b.isNan then .nan false else if ltMax a b then b else a
/-- IEEE 754-2019 minimum (R76), as a value. -/
def minV (a b : FVal) : FVal := if a.isNan || b.isNan then .nan false else if ltMax a b then a else b

/-- The floor of log2 |v| of a finite nonzero value. -/
def log2V : FVal → Int
  | .fin _ m e => e + (Nat.log2 m : Nat)
  | _ => 0
/-- v with every bit below 2^k dropped toward zero, and whether a bit was dropped. -/
def truncV (v : FVal) (k : Int) : FVal × Bool :=
  match v with
  | .fin n m e =>
    if k ≤ e then (v, false) else
    let d := (k - e).toNat
    let t := m >>> d
    (if t = 0 then .zero n else .fin n t k, decide (m % 2 ^ d ≠ 0))
  | w => (w, false)
/-- Magnitude comparison |a| > |b| of finite values. -/
def gtMag (a b : FVal) : Bool := ltV b.abs a.abs

/-- The fast sum of R217, operands finite and nonzero. -/
def fastSum (flush : Bool) (x y : FVal) : Nat × Flags :=
  let p := if gtMag y x then (y, x) else (x, y)
  let t := truncV p.2 (log2V p.1 - 26)
  let r := fenc32 flush (sumV p.1 t.1)
  (r.1, r.2 ||| flagIf t.2 fIX)
/-- The fast rounding of an exact product (R217). -/
def fastMul (flush : Bool) (p : FVal) : Nat × Flags :=
  let t := truncV p (log2V p - 26)
  let r := fenc32 flush t.1
  (r.1, r.2 ||| flagIf t.2 fIX)
/-- Every operand finite and nonzero. -/
def fastOk (l : List FVal) : Bool := l.all (fun v => v.isFinite && !v.isZero)

/-- ADD of R219 in the given mode; SUB is ADD of the negated second operand. -/
def laneAdd (strict flush : Bool) (a b : FVal) : Nat × Flags :=
  if !strict && fastOk [a, b] then fastSum flush a b else add32 flush a b
def laneMul (strict flush : Bool) (a b : FVal) : Nat × Flags :=
  if !strict && fastOk [a, b] then fastMul flush (mulV a b) else mul32 flush a b
def laneFma (strict flush : Bool) (a b c : FVal) : Nat × Flags :=
  if !strict && fastOk [a, b, c] then fastSum flush (mulV a b) c else fma32 flush a b c
/-- DIV: the fast path multiplies by the rounded reciprocal when 2^-126 ≤ |b| ≤ 2^126 (R217). -/
def laneDiv (strict flush : Bool) (a b : FVal) : Nat × Flags :=
  let one := FVal.fin false 1 0
  let inRange := decide (-126 ≤ log2V b) && (decide (log2V b < 126) || eqV b.abs (.fin false 1 126))
  if !strict && fastOk [a, b] && inRange then
    let r := fenc32 false (divV one b)
    let p := fastMul flush (mulV a (fdec fp32 r.1))
    (p.1, p.2 ||| (r.2 &&& fIX))
  else div32 flush a b
/-- SQRT: the fast path multiplies a by its rounded reciprocal root when a is positive and normal (R217). -/
def laneSqrt (strict flush : Bool) (a : FVal) : Nat × Flags :=
  match a with
  | .fin false m e =>
    if !strict && decide (-126 ≤ log2V a) then
      let r := sqrtSig m e
      let q := quotSig 1 0 r.1 r.2
      let i := fenc32 false (.fin false (q.1 ||| 1) q.2)
      let exact := r.1 % 2 = 0 && q.1 % 2 = 0
      let inv := if exact then fenc32 false (.fin false q.1 q.2) else i
      let p := fastMul flush (mulV a (fdec fp32 inv.1))
      (p.1, p.2 ||| (inv.2 &&& fIX))
    else sqrt32 flush a
  | _ => sqrt32 flush a

end Sys2Proof.Machine
end

