-- ==== Sys2Proof/Machine/Convert.lean ====
section
/-! DEFINITION. Machine/Convert.lean: the storage formats and their codes (R69-R72, R132), packed rows (R72), the
conversions of R86 with their flags, explicit scales (R90), range-register scale choice (R93, R94) and split-on-load
(R113). -/

namespace Sys2Proof.Machine

/-- Bits per element of a format code (R132); RAW is untyped bytes. -/
def fmtBits : Nat → Nat
  | 1 => 32
  | 2 => 16
  | 3 => 16
  | 4 => 32
  | 7 => 4
  | 8 => 4
  | _ => 8
/-- The floating-point format of a format code. -/
def fmtF : Nat → Option FFmt
  | 1 => some fp32
  | 2 => some bf16
  | 3 => some fp16
  | _ => none
def isFloatFmt (f : Nat) : Bool := f = 1 || f = 2 || f = 3
def isIntFmt (f : Nat) : Bool := decide (4 ≤ f) && decide (f ≤ 8)
/-- 4-bit formats. -/
def isNibFmt (f : Nat) : Bool := f = 7 || f = 8
/-- 8-bit or 4-bit integer formats. -/
def isSmallInt (f : Nat) : Bool := decide (5 ≤ f) && decide (f ≤ 8)
/-- A format code that R132 defines. -/
def fmtDefined (f : Nat) : Bool := decide (f ≤ 8)
/-- Element size in bytes for alignment rules; 4-bit formats align to a byte. -/
def fmtAlign (f : Nat) : Nat := if isNibFmt f then 1 else fmtBits f / 8
/-- Bytes of a packed row of n elements (R72). -/
def rowBytes (f n : Nat) : Nat := (n * fmtBits f + 7) / 8
/-- Lowest value of an integer format (R71). -/
def fmtLo (f : Nat) : Int := match f with
  | 4 => -2147483648
  | 5 => -128
  | 7 => -8
  | _ => 0
/-- Highest value of an integer format. -/
def fmtHi (f : Nat) : Int := match f with
  | 4 => 2147483647
  | 5 => 127
  | 6 => 255
  | 7 => 7
  | _ => 15
/-- The integer that a code of an integer format encodes. -/
def intOf (f code : Nat) : Int := if f = 4 || f = 5 || f = 7 then sext (fmtBits f) code else (bits code 0 (fmtBits f) : Nat)
/-- The code of an integer in an integer format. -/
def codeOf (f : Nat) (x : Int) : Nat := wrapN (fmtBits f) x

/-- The exact value of an element under a flush mode (R77): a floating-point value, or the integer widened. -/
def elemV (flush : Bool) (f code : Nat) : FVal × Flags :=
  match fmtF f with
  | some F => fread flush F code
  | none => (ofIntV (intOf f code), 0#8)

/-- A finite value rounded to an integer by `mode`; second, whether it was inexact. -/
def roundInt (mode : Nat) : FVal → Int × Bool
  | .fin n m e =>
    if 0 ≤ e then (let x : Int := (m <<< e.toNat : Nat); if n then -x else x, false) else
    let d := (-e).toNat
    let s0 := m >>> d
    let rem := m % 2 ^ d
    let s : Int := (if roundsUp mode n s0 rem d then s0 + 1 else s0 : Nat)
    (if n then -s else s, decide (rem ≠ 0))
  | _ => (0, false)
/-- Floating point to integer (R86): rounded, then clamped whatever CVT_OVF says. -/
def toIntFmt (f mode : Nat) (v : FVal) : Nat × Flags :=
  match v with
  | .nan _ => (codeOf f 0, fIV)
  | .inf n => (codeOf f (if n then fmtLo f else fmtHi f), fIV)
  | .zero _ => (codeOf f 0, 0#8)
  | w =>
    let r := roundInt mode w
    if r.1 < fmtLo f then (codeOf f (fmtLo f), fOF ||| fIX)
    else if fmtHi f < r.1 then (codeOf f (fmtHi f), fOF ||| fIX)
    else (codeOf f r.1, flagIf r.2 fIX)
/-- Integer to integer (R86). -/
def intToInt (f : Nat) (sat : Bool) (x : Int) : Nat × Flags :=
  if fmtLo f ≤ x ∧ x ≤ fmtHi f then (codeOf f x, 0#8)
  else if sat then (codeOf f (if x < 0 then fmtLo f else fmtHi f), fOF)
  else (codeOf f x, fOF)
/-- An exact value converted into format f with the fields CVT_ROUND and CVT_OVF (R86). -/
def cvtV (f mode : Nat) (sat flush : Bool) (v : FVal) : Nat × Flags :=
  match fmtF f with
  | some F => fenc F mode sat flush v
  | none => toIntFmt f mode v
/-- An element converted from one format into another (R86), unscaled. -/
def cvtElem (src dst mode : Nat) (sat flush : Bool) (code : Nat) : Nat × Flags :=
  if isFloatFmt src then
    let v := elemV flush src code
    let r := cvtV dst mode sat flush v.1
    (r.1, v.2 ||| r.2)
  else if isFloatFmt dst then cvtV dst mode sat flush (ofIntV (intOf src code))
  else intToInt dst sat (intOf src code)

/-- The exact product of an element and a scale factor, with the special products of R74. -/
def prodV (a b : FVal) : FVal × Flags :=
  if a.isNan || b.isNan then (.nan false, snanIV [a, b])
  else if (a.isInf && b.isZero) || (a.isZero && b.isInf) then (.nan false, fIV)
  else (mulV a b, 0#8)
/-- r = rne(1/s, f32) and its flags (R90): only ±0 and a signalling NaN raise one; no flush. -/
def recipScale (s : Nat) : FVal × Flags :=
  match fdec fp32 s with
  | .zero n => (.inf n, fOF)
  | .inf n => (.zero n, 0#8)
  | .nan sn => (.nan false, flagIf sn fIV)
  | v => (fdec fp32 (fenc32 false (divV (.fin false 1 0) v)).1, 0#8)
/-- Quantization is into an integer format of R93 or FP16 from a floating-point format; dequantization from an integer format
into a floating-point one (R90). -/
def isQuant (src dst : Nat) : Bool := isFloatFmt src && (isSmallInt dst || dst = 3)
def isDequant (src dst : Nat) : Bool := isIntFmt src && isFloatFmt dst
/-- The quantization limit QMAX of R93. -/
def qmax (dst : Nat) : Nat := match dst with
  | 5 => 127
  | 6 => 255
  | 7 => 7
  | 8 => 15
  | _ => 65504
/-- A value quantized with the reciprocal scale r (R90, R93). -/
def quantV (dst mode : Nat) (sat flush : Bool) (v r : FVal) : Nat × Flags :=
  let p := prodV v r
  let c := cvtV dst mode sat flush p.1
  (c.1, p.2 ||| c.2)

/-- The scale choice of R93 for one entry: the scale, whether it is the default (a cold use), and IV where a valid register's
entry holds NaN or infinity (R94). -/
structure Choice where
  s : Nat
  cold : Bool
  iv : Bool
deriving DecidableEq, Repr
def choose (valid : Bool) (amax dflt qm : Nat) : Choice :=
  let a := fdec fp32 amax
  let bad := a.isNan || a.isInf
  if !valid then ⟨dflt, true, false⟩
  else if bad then ⟨dflt, true, true⟩
  else
    let s := (fenc32 false (divV a (.fin false qm 0))).1
    if bits s 23 8 ≠ 0 && bits s 23 9 < 255 then ⟨s, false, false⟩ else ⟨dflt, true, false⟩

/-- Split-on-load (R113): hi, mid, lo as BF16 codes, and the flags; the operand is already flushed. -/
def splitV (flush : Bool) (x : FVal) : Nat × Nat × Nat × Flags :=
  match x with
  | .nan s => (fnan bf16, 0, 0, flagIf s fIV)
  | .inf n => (finf bf16 n, fzero bf16 n, fzero bf16 n, 0#8)
  | .zero n => (fzero bf16 n, fzero bf16 n, fzero bf16 n, 0#8)
  | .fin n m e =>
    let hi := (fround bf16 0 true false n m e).1
    let sub (a : FVal) (c : Nat) : FVal := sumV a (fdec bf16 c).negate
    let rem := sub x hi
    let mid := fenc bf16 0 false flush rem
    let rem2 := sub rem mid.1
    let lo := fenc bf16 0 false flush rem2
    let sgn (c : Nat) : Nat := if bits c 0 15 = 0 then fzero bf16 n else c
    let exact := (sub rem2 lo.1).isZero
    (hi, sgn mid.1, sgn lo.1, ((mid.2 ||| lo.2) &&& fFZ) ||| flagIf (!exact) (fUF ||| fIX))

/-- Element j of a packed row that starts at byte address a, through a byte reader (R72). -/
def elemAt (rd : Nat → Byte) (f a j : Nat) : Nat :=
  if isNibFmt f then
    let b := (rd (a + j / 2)).toNat
    if j % 2 = 0 then b % 16 else b / 16
  else ofLE ((List.range (fmtBits f / 8)).map (fun i => rd (a + j * (fmtBits f / 8) + i)))
/-- A row of codes packed into bytes (R72): the upper half of a half-used byte is zero. -/
def packNib : List Nat → List Byte
  | [] => []
  | [a] => [BitVec.ofNat 8 (a % 16)]
  | a :: b :: t => BitVec.ofNat 8 (a % 16 + 16 * (b % 16)) :: packNib t
def packRow (f : Nat) (codes : List Nat) : List Byte :=
  if isNibFmt f then packNib codes else codes.flatMap (fun c => toLE (fmtBits f / 8) c)

end Sys2Proof.Machine
end

