-- ==== Sys2Proof/Config.lean ====
section
/-! DEFINITION. Config.lean: what one part fixes and the spec does not give (fuses, random sources), and the free values:
constants without a body, of which nothing can be proved. -/

namespace Sys2Proof

/-- Element idx of a tile register or plane whose contents are undefined since draw d (R41, R160; log entry 10). -/
opaque Config.freeElem : Nat → Nat → Nat
/-- The n-th free value drawn (the counter State.fresh; log entry 5). -/
opaque Config.free : Nat → Nat
/-- SILICON_STEP, from fuses (R507). -/
opaque Config.siliconStep : Nat
/-- SERIAL_NUMBER, from fuses (R507). -/
opaque Config.serialNumber : Nat
/-- The MAC address of Ethernet port e, from fuses (R442). -/
opaque Config.ethMac : Nat → Nat
/-- PCIE_IDS, from fuses (R535). -/
opaque Config.pcieIds : Nat
/-- JTAG_IDCODE, from fuses (R579, R581). -/
opaque Config.jtagIdcode : Nat
/-- The n-th value of SEC_CHALLENGE, from the random source (R570). -/
opaque Config.challenge : Nat → Nat
/-- The digest of key k burned into fuses (R564). -/
opaque Config.keyDigest : Nat → List Byte
/-- TX_LAT and RX_LAT of port p in ps, as IDENT reports them (R360). -/
opaque Config.txLat : Nat → Nat
/-- See `Config.txLat`. -/
opaque Config.rxLat : Nat → Nat

/-- The clock of an island that runs from XIN0 or XIN1 at a frequency the spec does not state, in MHz (R21, R562). -/
opaque Config.islandMhz : Nat → Nat

end Sys2Proof
end

