-- ==== Sys2Proof/Machine/ObjTable.lean ====
section
/-! DEFINITION. Machine/ObjTable.lean: the object dictionary (17 R471-R475): every object's name, index, subindices, type,
access, apply point and default, from the object tables of the chapters. A default that the spec takes from fuses, flash or
straps stands as 0 here; the object's read gives the fuse, flash or strap. -/

namespace Sys2Proof.Machine

/-- The type of an object (R472): unsigned and signed integers of n bytes, Boolean, FP32, fixed octets, a domain of at most n
bytes, a string. -/
inductive ObjTy where
  | u (n : Nat) | i (n : Nat) | bool | f32 | octets (n : Nat) | domain (n : Nat) | str
deriving DecidableEq, Repr

/-- The access of an object (R473): constant, read only, read and write, write only, staged. -/
inductive ObjAcc where
  | const | ro | rw | wo | st
deriving DecidableEq, Repr

/-- The apply point of an object (R475). -/
inductive ObjApp where
  | none | imm | take | idle | reset
deriving DecidableEq, Repr

/-- A row of an object table: cnt objects from index base, step apart, with subindices sub1 to subN. -/
structure ObjRow where
  name : String
  base : Nat
  cnt : Nat
  step : Nat
  sub1 : Nat
  subN : Nat
  ty : ObjTy
  acc : ObjAcc
  app : ObjApp
  dflt : List Nat
deriving DecidableEq, Repr

/-- Objects 0x1000-0x1FFF (part 1). -/
def objModuleA : List ObjRow := [
  ⟨"MODULE_NUMBER", 0x1010, 1, 0x1, 0, 0, .u 4, .st, .reset, [16777215]⟩,
  ⟨"TORUS_X", 0x1011, 1, 0x1, 1, 1, .u 1, .st, .reset, [1]⟩,
  ⟨"TORUS_Y", 0x1011, 1, 0x1, 2, 2, .u 1, .st, .reset, [1]⟩,
  ⟨"TORUS_Z", 0x1011, 1, 0x1, 3, 3, .u 1, .st, .reset, [1]⟩,
  ⟨"BOARD_SLOT", 0x1012, 1, 0x1, 1, 1, .u 1, .ro, .none, [0]⟩,
  ⟨"DIRECTOR_STRAP", 0x1012, 1, 0x1, 2, 2, .bool, .ro, .none, [0]⟩,
  ⟨"COORD_X", 0x1013, 1, 0x1, 1, 1, .u 1, .ro, .none, [255]⟩,
  ⟨"COORD_Y", 0x1013, 1, 0x1, 2, 2, .u 1, .ro, .none, [255]⟩,
  ⟨"COORD_Z", 0x1013, 1, 0x1, 3, 3, .u 1, .ro, .none, [255]⟩,
  ⟨"BOARD_NUMBER", 0x1014, 1, 0x1, 0, 0, .u 2, .ro, .none, [65535]⟩,
  ⟨"DIE_STATUS", 0x1020, 1, 0x1, 1, 6, .u 1, .ro, .none, [0]⟩,
  ⟨"MESH_LINK_CORR", 0x1021, 1, 0x1, 1, 12, .u 4, .ro, .none, [0]⟩,
  ⟨"MESH_LINK_UNCORR", 0x1022, 1, 0x1, 1, 12, .u 4, .ro, .none, [0]⟩,
  ⟨"TC_NOW", 0x1100, 1, 0x1, 0, 0, .u 8, .ro, .none, [0]⟩,
  ⟨"TC_STATE", 0x1101, 1, 0x1, 0, 0, .u 1, .ro, .none, [0]⟩,
  ⟨"TIME_ROOT", 0x1102, 1, 0x1, 0, 0, .u 4, .st, .imm, [0]⟩,
  ⟨"TC_SOURCE", 0x1103, 1, 0x1, 0, 0, .u 1, .st, .imm, [0]⟩,
  ⟨"TC_PARENT_PORT", 0x1104, 1, 0x1, 0, 0, .u 1, .ro, .none, [255]⟩,
  ⟨"TC_HOPS", 0x1105, 1, 0x1, 0, 0, .u 1, .ro, .none, [255]⟩,
  ⟨"TC_OFFSET", 0x1106, 1, 0x1, 0, 0, .i 4, .ro, .none, [0]⟩,
  ⟨"TC_FREQ_ADJ", 0x1107, 1, 0x1, 0, 0, .i 4, .ro, .none, [0]⟩,
  ⟨"TC_HOLDOVER_LIMIT", 0x1108, 1, 0x1, 0, 0, .u 4, .rw, .imm, [10000]⟩,
  ⟨"TC_FIRST_SYNC", 0x1109, 1, 0x1, 0, 0, .u 8, .ro, .none, [0]⟩,
  ⟨"TC_STEP", 0x110A, 1, 0x1, 0, 0, .i 8, .ro, .none, [0]⟩,
  ⟨"TC_PARENT_LOSSES", 0x110B, 1, 0x1, 0, 0, .u 4, .ro, .none, [0]⟩,
  ⟨"DEVICE_NAME", 0x1000, 1, 0x1, 0, 0, .str, .const, .none, [0]⟩,
  ⟨"VENDOR_ID", 0x1001, 1, 0x1, 0, 0, .u 4, .const, .none, [19527]⟩,
  ⟨"PART_NUMBER", 0x1002, 1, 0x1, 0, 0, .str, .const, .none, [0]⟩,
  ⟨"SILICON_STEP", 0x1003, 1, 0x1, 0, 0, .u 2, .const, .none, [0]⟩,
  ⟨"SERIAL_NUMBER", 0x1004, 1, 0x1, 0, 0, .u 8, .const, .none, [0]⟩,
  ⟨"DAP_NODE", 0x1200, 1, 0x1, 0, 0, .u 1, .st, .reset, [0]⟩,
  ⟨"DAP_HEARTBEAT_PERIOD", 0x1201, 1, 0x1, 0, 0, .u 2, .st, .imm, [100]⟩,
  ⟨"DAP_EVENT_MASK", 0x1202, 1, 0x1, 0, 0, .u 2, .rw, .imm, [65]⟩,
  ⟨"DAP_EVENT_RATE", 0x1203, 1, 0x1, 0, 0, .u 2, .rw, .imm, [100]⟩,
  ⟨"DAP_RESPONSE_TIMEOUT", 0x1204, 1, 0x1, 0, 0, .u 2, .rw, .imm, [50]⟩,
  ⟨"DAP_COUNTERS", 0x1205, 1, 0x1, 1, 6, .u 8, .ro, .none, [0]⟩,
  ⟨"DAP_STATE", 0x1206, 1, 0x1, 0, 0, .u 1, .ro, .none, [0]⟩,
  ⟨"WIN_BUSY_WRITES", 0x1210, 1, 0x1, 0, 0, .u 4, .ro, .none, [0]⟩,
  ⟨"CUT_NUMBER", 0x1300, 1, 0x1, 0, 0, .u 4, .ro, .none, [0]⟩,
  ⟨"CUT_PREVIOUS", 0x1301, 1, 0x1, 0, 0, .u 4, .ro, .none, [0]⟩]

/-- Objects 0x1000-0x1FFF (part 2). -/
def objModuleB : List ObjRow := [
  ⟨"CUT_STATE", 0x1302, 1, 0x1, 0, 0, .u 1, .ro, .none, [0]⟩,
  ⟨"CUT_COMMAND", 0x1303, 1, 0x1, 0, 0, .u 1, .wo, .imm, [0]⟩,
  ⟨"CUT_TRIAL_PERIOD", 0x1304, 1, 0x1, 0, 0, .u 4, .st, .reset, [300]⟩,
  ⟨"CUT_TRIAL_LEFT", 0x1305, 1, 0x1, 0, 0, .u 4, .ro, .none, [0]⟩,
  ⟨"CUT_HIGHEST", 0x1306, 1, 0x1, 0, 0, .u 4, .ro, .none, [0]⟩,
  ⟨"CUT_STAGED_COUNT", 0x1307, 1, 0x1, 0, 0, .u 2, .ro, .none, [0]⟩,
  ⟨"CUT_COMMITS", 0x1308, 1, 0x1, 0, 0, .u 4, .ro, .none, [0]⟩,
  ⟨"CUT_REFUSED_OBJECT", 0x1309, 1, 0x1, 0, 0, .u 4, .ro, .none, [0]⟩,
  ⟨"HOLD_COUNT", 0x1310, 1, 0x1, 0, 0, .u 1, .ro, .none, [0]⟩]

/-- Objects 0x2000-0x2FFF. -/
def objPower : List ObjRow := [
  ⟨"POWER_STATE", 0x2001, 1, 0x1, 0, 0, .u 1, .ro, .none, [1]⟩,
  ⟨"POWER_REQUEST", 0x2002, 1, 0x1, 0, 0, .u 1, .wo, .idle, [0]⟩,
  ⟨"POWER_REQ_STATUS", 0x2003, 1, 0x1, 0, 0, .u 1, .ro, .none, [0]⟩,
  ⟨"QUIESCE_TIMEOUT", 0x2004, 1, 0x1, 0, 0, .u 4, .rw, .imm, [1000]⟩,
  ⟨"PARK_WAKE_ON_TAKE", 0x2005, 1, 0x1, 0, 0, .bool, .rw, .imm, [1]⟩,
  ⟨"CLK_READY", 0x2010, 1, 0x1, 0, 0, .u 4, .ro, .none, [0]⟩,
  ⟨"CLK_SRC", 0x2011, 1, 0x1, 1, 22, .u 1, .rw, .imm, [0, 0, 0, 0, 0, 0, 0, 0, 0, 0, 0, 0, 0, 0, 0, 0, 0, 0, 0, 0, 0, 2]⟩,
  ⟨"CLK_FALLBACK", 0x2012, 1, 0x1, 0, 0, .bool, .rw, .imm, [1]⟩,
  ⟨"ISLAND_CLK_MHZ", 0x2013, 1, 0x1, 1, 24, .u 2, .ro, .none, [0]⟩,
  ⟨"ISLAND_RUN_TIME", 0x2014, 1, 0x1, 1, 24, .u 8, .ro, .none, [0]⟩,
  ⟨"POWER_LIMIT", 0x2020, 1, 0x1, 0, 0, .u 2, .st, .imm, [4400]⟩,
  ⟨"PEAK_LIMIT", 0x2021, 1, 0x1, 0, 0, .u 2, .const, .none, [5000]⟩,
  ⟨"CLUSTER_FREQ_MAX", 0x2022, 1, 0x1, 0, 0, .u 2, .rw, .imm, [1800]⟩,
  ⟨"CLUSTER_FREQ", 0x2023, 1, 0x1, 1, 8, .u 2, .ro, .none, [1800]⟩,
  ⟨"FREQ_LIMITER", 0x2024, 1, 0x1, 1, 8, .u 1, .ro, .none, [0]⟩,
  ⟨"LIMITED_TIME", 0x2025, 1, 0x1, 1, 8, .u 8, .ro, .none, [0]⟩,
  ⟨"VIN", 0x2030, 1, 0x1, 0, 0, .u 4, .ro, .none, [0]⟩,
  ⟨"IIN", 0x2031, 1, 0x1, 0, 0, .u 4, .ro, .none, [0]⟩,
  ⟨"PIN", 0x2032, 1, 0x1, 1, 2, .u 2, .ro, .none, [0]⟩,
  ⟨"PIN_PEAK", 0x2033, 1, 0x1, 0, 0, .u 2, .ro, .none, [0]⟩,
  ⟨"ENERGY", 0x2034, 1, 0x1, 0, 0, .u 8, .ro, .none, [0]⟩,
  ⟨"RAIL_MV", 0x2035, 1, 0x1, 1, 24, .u 2, .ro, .none, [0]⟩,
  ⟨"RAIL_MA", 0x2036, 1, 0x1, 1, 24, .u 4, .ro, .none, [0]⟩,
  ⟨"TJ", 0x2040, 1, 0x1, 1, 6, .i 2, .ro, .none, [0]⟩,
  ⟨"HBM_TEMP", 0x2041, 1, 0x1, 1, 12, .i 2, .ro, .none, [0]⟩,
  ⟨"COOLANT_IN", 0x2042, 1, 0x1, 0, 0, .i 2, .ro, .none, [0]⟩,
  ⟨"THROTTLE_TJ", 0x2043, 1, 0x1, 0, 0, .u 1, .st, .imm, [105]⟩,
  ⟨"SHUTDOWN_TJ", 0x2044, 1, 0x1, 0, 0, .u 1, .const, .none, [120]⟩,
  ⟨"COOLANT_WARN_C", 0x2045, 1, 0x1, 0, 0, .u 1, .rw, .imm, [40]⟩,
  ⟨"SHUTDOWN_LOG", 0x2046, 1, 0x1, 0, 0, .domain 1024, .ro, .none, [0]⟩,
  ⟨"TJ_MAX", 0x2047, 1, 0x1, 1, 6, .i 2, .ro, .none, [0]⟩]

/-- Objects 0x3000-0x3FFF. -/
def objMemory : List ObjRow := [
  ⟨"HBM_STATE", 0x3010, 1, 0x1, 1, 12, .u 1, .ro, .none, [0]⟩,
  ⟨"HBM_CORR", 0x3011, 1, 0x1, 1, 12, .u 4, .ro, .none, [0]⟩,
  ⟨"HBM_UNCORR", 0x3012, 1, 0x1, 1, 12, .u 4, .ro, .none, [0]⟩,
  ⟨"HBM_SCRUB_PERIOD", 0x3013, 1, 0x1, 0, 0, .u 4, .rw, .imm, [3600]⟩,
  ⟨"SP_CORR", 0x3020, 1, 0x1, 1, 8, .u 4, .ro, .none, [0]⟩,
  ⟨"SP_UNCORR", 0x3021, 1, 0x1, 1, 8, .u 4, .ro, .none, [0]⟩,
  ⟨"SP_SCRUB_PERIOD", 0x3022, 1, 0x1, 0, 0, .u 4, .rw, .imm, [600]⟩,
  ⟨"BWR_RATE", 0x3030, 1, 0x1, 1, 5, .u 2, .st, .imm, [640, 256, 32, 64, 32]⟩,
  ⟨"BWR_DEPTH", 0x3031, 1, 0x1, 1, 5, .u 2, .st, .imm, [4096]⟩,
  ⟨"BWR_BORROW", 0x3032, 1, 0x1, 1, 5, .bool, .st, .imm, [1]⟩,
  ⟨"BWR_HELD", 0x3040, 12, 0x1, 1, 5, .u 8, .ro, .none, [0]⟩,
  ⟨"MCAST_STALL_TIMEOUT", 0x3050, 1, 0x1, 0, 0, .u 4, .rw, .imm, [50]⟩,
  ⟨"MCAST_STALL_COUNT", 0x3051, 1, 0x1, 0, 0, .u 4, .ro, .none, [0]⟩,
  ⟨"REEL_BASE", 0x3100, 256, 0x1, 1, 1, .u 4, .rw, .idle, [0]⟩,
  ⟨"REEL_SLOT_SIZE", 0x3100, 256, 0x1, 2, 2, .u 4, .rw, .idle, [64]⟩,
  ⟨"REEL_SLOTS", 0x3100, 256, 0x1, 3, 3, .u 2, .rw, .idle, [3]⟩,
  ⟨"REEL_CONSUMER", 0x3100, 256, 0x1, 4, 4, .u 1, .rw, .idle, [0]⟩,
  ⟨"REEL_HEAD", 0x3100, 256, 0x1, 5, 5, .u 2, .ro, .none, [0]⟩,
  ⟨"REEL_TAIL", 0x3100, 256, 0x1, 6, 6, .u 2, .ro, .none, [0]⟩,
  ⟨"REEL_OCCUPIED", 0x3100, 256, 0x1, 7, 7, .u 2, .ro, .none, [0]⟩,
  ⟨"REEL_READY", 0x3100, 256, 0x1, 8, 8, .u 2, .ro, .none, [0]⟩,
  ⟨"REEL_COMMITS", 0x3100, 256, 0x1, 9, 9, .u 8, .ro, .none, [0]⟩]

/-- Objects 0x4000-0x4FFF (part 1). -/
def objClusterA : List ObjRow := [
  ⟨"PARTITION", 0x4001, 8, 0x100, 0, 0, .u 1, .st, .idle, [0]⟩,
  ⟨"CLUSTER_STATE", 0x4002, 8, 0x100, 0, 0, .u 1, .ro, .none, [0]⟩,
  ⟨"CURRENT_TAKE", 0x4003, 8, 0x100, 0, 0, .u 8, .ro, .none, [0]⟩,
  ⟨"TAKES_COMPLETED", 0x4004, 8, 0x100, 1, 1, .u 8, .ro, .none, [0]⟩,
  ⟨"TAKES_FAILED", 0x4004, 8, 0x100, 2, 2, .u 8, .ro, .none, [0]⟩,
  ⟨"GATE_TIMEOUT", 0x4005, 8, 0x100, 0, 0, .u 4, .rw, .take, [1000000]⟩,
  ⟨"QUEUE_FILL", 0x4006, 8, 0x100, 1, 7, .u 1, .ro, .none, [0]⟩,
  ⟨"FLAGS_MATRIX", 0x4010, 8, 0x100, 1, 1, .u 1, .rw, .imm, [0]⟩,
  ⟨"FLAGS_VECTOR", 0x4010, 8, 0x100, 2, 2, .u 1, .rw, .imm, [0]⟩,
  ⟨"FLAGS_STREAM", 0x4010, 8, 0x100, 3, 3, .u 1, .rw, .imm, [0]⟩,
  ⟨"TAKE_FLAGS", 0x4011, 8, 0x100, 1, 3, .u 1, .ro, .none, [0]⟩,
  ⟨"FLUSH_MODE", 0x4012, 8, 0x100, 1, 3, .bool, .rw, .take, [0]⟩,
  ⟨"DEFAULT_SCALE", 0x4013, 8, 0x100, 1, 16, .f32, .rw, .take, [1065353216]⟩,
  ⟨"RANGE_STATE", 0x4014, 8, 0x100, 1, 16, .u 4, .rw, .idle, [0]⟩,
  ⟨"RANGE_DATA", 0x4015, 8, 0x100, 1, 16, .domain 2048, .rw, .idle, [0]⟩,
  ⟨"RANGE_CLEAR", 0x4016, 8, 0x100, 0, 0, .u 2, .wo, .take, [0]⟩,
  ⟨"COLD_COUNT", 0x4017, 8, 0x100, 1, 16, .u 4, .ro, .none, [0]⟩,
  ⟨"TREG_PARITY", 0x4020, 8, 0x100, 1, 1, .u 4, .ro, .none, [0]⟩,
  ⟨"ACC_PARITY", 0x4020, 8, 0x100, 2, 2, .u 4, .ro, .none, [0]⟩,
  ⟨"REG_CONFIG", 0x4021, 8, 0x100, 1, 10, .u 8, .ro, .none, [0]⟩,
  ⟨"TLS_BUSY", 0x4022, 8, 0x100, 0, 0, .u 8, .ro, .none, [0]⟩,
  ⟨"TLS_BANK_WAIT", 0x4023, 8, 0x100, 0, 0, .u 8, .ro, .none, [0]⟩,
  ⟨"ARRAY_FEED_CYCLES", 0x4030, 8, 0x100, 1, 1, .u 8, .ro, .none, [0]⟩,
  ⟨"ARRAY_WAIT_OPERAND", 0x4030, 8, 0x100, 2, 2, .u 8, .ro, .none, [0]⟩,
  ⟨"ARRAY_WAIT_GRADE", 0x4030, 8, 0x100, 3, 3, .u 8, .ro, .none, [0]⟩,
  ⟨"MMA_COUNT", 0x4031, 8, 0x100, 1, 1, .u 8, .ro, .none, [0]⟩,
  ⟨"ELEMENT_COUNT", 0x4031, 8, 0x100, 2, 2, .u 8, .ro, .none, [0]⟩,
  ⟨"RESIDUE_FAIL", 0x4032, 8, 0x100, 1, 1, .u 4, .ro, .none, [0]⟩,
  ⟨"OPERAND_PARITY", 0x4032, 8, 0x100, 2, 2, .u 4, .ro, .none, [0]⟩,
  ⟨"DRAIN_PARITY", 0x4032, 8, 0x100, 3, 3, .u 4, .ro, .none, [0]⟩,
  ⟨"RESIDUE_INJECT", 0x4033, 8, 0x100, 0, 0, .u 1, .rw, .take, [0]⟩,
  ⟨"VEC_BUSY", 0x4040, 8, 0x100, 1, 1, .u 8, .ro, .none, [0]⟩,
  ⟨"VEC_STRICT_CYCLES", 0x4040, 8, 0x100, 2, 2, .u 8, .ro, .none, [0]⟩,
  ⟨"VEC_BANK_WAIT", 0x4040, 8, 0x100, 3, 3, .u 8, .ro, .none, [0]⟩,
  ⟨"VEC_INTERLOCK_WAIT", 0x4040, 8, 0x100, 4, 4, .u 8, .ro, .none, [0]⟩,
  ⟨"VEC_OPS", 0x4041, 8, 0x100, 1, 1, .u 8, .ro, .none, [0]⟩,
  ⟨"RED_OPS", 0x4041, 8, 0x100, 2, 2, .u 8, .ro, .none, [0]⟩,
  ⟨"STRICT_FORCE", 0x4042, 8, 0x100, 0, 0, .bool, .rw, .take, [0]⟩,
  ⟨"PREP_CYCLES", 0x4050, 8, 0x100, 1, 1, .u 8, .ro, .none, [0]⟩,
  ⟨"GRADE_CYCLES", 0x4050, 8, 0x100, 2, 2, .u 8, .ro, .none, [0]⟩]

/-- Objects 0x4000-0x4FFF (part 2). -/
def objClusterB : List ObjRow := [
  ⟨"GRADE_STALL_CYCLES", 0x4050, 8, 0x100, 3, 3, .u 8, .ro, .none, [0]⟩,
  ⟨"SEND_BYTES", 0x4051, 8, 0x100, 1, 1, .u 8, .ro, .none, [0]⟩,
  ⟨"SEND_BUF_FULL", 0x4051, 8, 0x100, 2, 2, .u 8, .ro, .none, [0]⟩,
  ⟨"PAIR_HOLD_CYCLES", 0x4051, 8, 0x100, 3, 3, .u 8, .ro, .none, [0]⟩,
  ⟨"PROG_FAULT_CHECK", 0x4052, 8, 0x100, 0, 0, .u 1, .ro, .none, [0]⟩,
  ⟨"GATHER_OPS", 0x4060, 8, 0x100, 1, 1, .u 8, .ro, .none, [0]⟩,
  ⟨"GATHER_PAGES", 0x4060, 8, 0x100, 2, 2, .u 8, .ro, .none, [0]⟩,
  ⟨"GATHER_BYTES", 0x4060, 8, 0x100, 3, 3, .u 8, .ro, .none, [0]⟩,
  ⟨"SEQLEN_FAULTS", 0x4061, 8, 0x100, 0, 0, .u 4, .ro, .none, [0]⟩,
  ⟨"CLAP_OPS", 0x4070, 8, 0x100, 1, 1, .u 8, .ro, .none, [0]⟩,
  ⟨"CLAP_REMOTE", 0x4070, 8, 0x100, 2, 2, .u 8, .ro, .none, [0]⟩,
  ⟨"CLAP_CORR", 0x4071, 8, 0x100, 1, 1, .u 4, .ro, .none, [0]⟩,
  ⟨"CLAP_UNCORR", 0x4071, 8, 0x100, 2, 2, .u 4, .ro, .none, [0]⟩,
  ⟨"CLAP_BAD_WRITE", 0x4071, 8, 0x100, 3, 3, .u 4, .ro, .none, [0]⟩]

/-- Objects 0x5000-0x5FFF (part 1). -/
def objFabricA : List ObjRow := [
  ⟨"FAB_VC_WEIGHT", 0x5001, 1, 0x1, 1, 3, .u 1, .st, .imm, [1, 4, 3]⟩,
  ⟨"FAB_RESP_TIMEOUT", 0x5002, 1, 0x1, 0, 0, .u 4, .rw, .imm, [200]⟩,
  ⟨"FAB_RETRY_LIMIT", 0x5003, 1, 0x1, 0, 0, .u 1, .st, .reset, [8]⟩,
  ⟨"FAB_HOP_LIMIT", 0x5004, 1, 0x1, 0, 0, .u 1, .st, .imm, [64]⟩,
  ⟨"FAB_ROUTE", 0x5005, 1, 0x1, 0, 0, .domain 32768, .rw, .imm, [0]⟩,
  ⟨"FAB_ROUTE_DEFAULT", 0x5006, 1, 0x1, 0, 0, .u 1, .wo, .imm, [0]⟩,
  ⟨"FAB_DROPS", 0x5007, 1, 0x1, 1, 6, .u 4, .ro, .none, [0]⟩,
  ⟨"FAB_FEC_WARN", 0x5008, 1, 0x1, 0, 0, .u 4, .rw, .imm, [1800000]⟩,
  ⟨"FAB_TRAIN_TIMEOUT", 0x5009, 1, 0x1, 0, 0, .u 2, .rw, .imm, [100]⟩,
  ⟨"FAB_PORT_ENABLE", 0x5010, 6, 0x1, 1, 1, .bool, .st, .reset, [1]⟩,
  ⟨"FAB_PORT_STATE", 0x5010, 6, 0x1, 2, 2, .u 1, .ro, .none, [0]⟩,
  ⟨"FAB_PARTNER", 0x5010, 6, 0x1, 3, 3, .u 4, .ro, .none, [4294967295]⟩,
  ⟨"FAB_PORT_CMD", 0x5010, 6, 0x1, 4, 4, .u 1, .wo, .imm, [0]⟩,
  ⟨"FAB_EQ_PRESET", 0x5010, 6, 0x1, 5, 5, .domain 64, .st, .reset, [3026526490582046524677851784924284189907643577884484551943463139522189723050268181262477050972094835512923407091283861640260978496778422440753152]⟩,
  ⟨"FAB_EQ_LAST", 0x5010, 6, 0x1, 6, 6, .domain 64, .ro, .none, [0]⟩,
  ⟨"FAB_ASYM", 0x5010, 6, 0x1, 7, 7, .i 4, .ro, .none, [0]⟩,
  ⟨"FAB_WIRE_DELAY", 0x5010, 6, 0x1, 8, 8, .u 4, .ro, .none, [0]⟩,
  ⟨"FAB_FEC_CORR_SYM", 0x5010, 6, 0x1, 9, 9, .u 8, .ro, .none, [0]⟩,
  ⟨"FAB_FEC_CORR_CW", 0x5010, 6, 0x1, 10, 10, .u 8, .ro, .none, [0]⟩,
  ⟨"FAB_FEC_UNCORR", 0x5010, 6, 0x1, 11, 11, .u 8, .ro, .none, [0]⟩,
  ⟨"FAB_CRC_FAIL", 0x5010, 6, 0x1, 12, 12, .u 8, .ro, .none, [0]⟩,
  ⟨"FAB_REPLAYS", 0x5010, 6, 0x1, 13, 13, .u 8, .ro, .none, [0]⟩,
  ⟨"FAB_LINK_DOWNS", 0x5010, 6, 0x1, 14, 14, .u 4, .ro, .none, [0]⟩,
  ⟨"FAB_TRAIN_FAILS", 0x5010, 6, 0x1, 15, 15, .u 4, .ro, .none, [0]⟩,
  ⟨"FAB_TX_BYTES", 0x5010, 6, 0x1, 16, 16, .u 8, .ro, .none, [0]⟩,
  ⟨"FAB_RX_BYTES", 0x5010, 6, 0x1, 17, 17, .u 8, .ro, .none, [0]⟩,
  ⟨"FAB_CREDIT_WAIT", 0x5010, 6, 0x1, 18, 18, .u 8, .ro, .none, [0]⟩,
  ⟨"COLL_INBOX", 0x5020, 1, 0x1, 0, 0, .u 8, .st, .reset, [206158364672]⟩,
  ⟨"COLL_STARVE_TIMEOUT", 0x5021, 1, 0x1, 0, 0, .u 4, .rw, .imm, [100]⟩,
  ⟨"COLL_PROGRESS_TIMEOUT", 0x5022, 1, 0x1, 0, 0, .u 4, .rw, .imm, [200]⟩,
  ⟨"FLAGS_FABRIC", 0x5023, 1, 0x1, 1, 2, .u 1, .rw, .imm, [0]⟩,
  ⟨"FLUSH_MODE_FABRIC", 0x5024, 1, 0x1, 1, 2, .bool, .rw, .idle, [0]⟩,
  ⟨"COLL_CONTEXTS_FREE", 0x5025, 1, 0x1, 0, 0, .u 1, .ro, .none, [64]⟩,
  ⟨"COLL_COUNTERS", 0x5026, 1, 0x1, 1, 8, .u 8, .ro, .none, [0]⟩,
  ⟨"GRP_ENABLE", 0x5100, 256, 0x1, 1, 1, .bool, .rw, .idle, [0]⟩,
  ⟨"GRP_PARTITION", 0x5100, 256, 0x1, 2, 2, .u 1, .rw, .idle, [0]⟩,
  ⟨"GRP_MEMBERS", 0x5100, 256, 0x1, 3, 3, .domain 65536, .rw, .idle, [0]⟩,
  ⟨"GRP_RANK", 0x5100, 256, 0x1, 4, 4, .u 2, .ro, .none, [65535]⟩,
  ⟨"GRP_LAUNCH_CLAPPER", 0x5100, 256, 0x1, 5, 5, .u 2, .rw, .idle, [0]⟩,
  ⟨"GRP_STATUS_CLAPPER", 0x5100, 256, 0x1, 6, 6, .u 2, .rw, .idle, [0]⟩]

/-- Objects 0x5000-0x5FFF (part 2). -/
def objFabricB : List ObjRow := [
  ⟨"GRP_SHEETS", 0x5100, 256, 0x1, 7, 7, .u 8, .rw, .idle, [0]⟩,
  ⟨"GRP_SHEET_SLOTS", 0x5100, 256, 0x1, 8, 8, .u 2, .rw, .idle, [1]⟩,
  ⟨"GRP_SEQ", 0x5100, 256, 0x1, 9, 9, .u 4, .rw, .idle, [0]⟩,
  ⟨"GRP_HASH", 0x5100, 256, 0x1, 10, 10, .u 4, .ro, .none, [0]⟩,
  ⟨"GRP_STATE", 0x5100, 256, 0x1, 11, 11, .u 1, .ro, .none, [0]⟩,
  ⟨"GRP_TRIG_TIMEOUT", 0x5100, 256, 0x1, 12, 12, .bool, .rw, .idle, [0]⟩,
  ⟨"GRP_FAILURES", 0x5100, 256, 0x1, 13, 13, .u 4, .ro, .none, [0]⟩]

/-- Objects 0x6000-0x6FFF (part 1). -/
def objDailiesA : List ObjRow := [
  ⟨"ETH_PORT_ENABLE", 0x6001, 1, 0x1, 1, 2, .bool, .st, .reset, [1]⟩,
  ⟨"ETH_MAC", 0x6002, 1, 0x1, 1, 2, .octets 6, .st, .reset, [0]⟩,
  ⟨"ETH_IPV4", 0x6003, 1, 0x1, 1, 2, .u 4, .st, .reset, [0]⟩,
  ⟨"ETH_IPV6", 0x6004, 1, 0x1, 1, 2, .octets 16, .st, .reset, [0]⟩,
  ⟨"ETH_VLAN", 0x6005, 1, 0x1, 1, 2, .u 2, .st, .reset, [0]⟩,
  ⟨"ETH_PORT_STATE", 0x6006, 1, 0x1, 1, 2, .u 1, .ro, .none, [0]⟩,
  ⟨"ETH_RX_DISCARD", 0x6007, 1, 0x1, 1, 2, .u 8, .ro, .none, [0]⟩,
  ⟨"DLY_BINDING", 0x6010, 1, 0x1, 1, 32, .u 4, .rw, .idle, [0]⟩,
  ⟨"DLY_POOL", 0x6011, 1, 0x1, 1, 16, .domain 32, .rw, .idle, [0]⟩,
  ⟨"DLY_POST", 0x6012, 1, 0x1, 1, 32, .domain 64, .wo, .imm, [0]⟩,
  ⟨"CC_CUT", 0x6020, 1, 0x1, 0, 0, .u 1, .st, .imm, [64]⟩,
  ⟨"CC_REACT", 0x6021, 1, 0x1, 0, 0, .u 4, .st, .imm, [50]⟩,
  ⟨"CC_PERIOD", 0x6022, 1, 0x1, 0, 0, .u 4, .st, .imm, [55]⟩,
  ⟨"CC_STEP", 0x6023, 1, 0x1, 0, 0, .u 4, .st, .imm, [40000]⟩,
  ⟨"CC_MIN_RATE", 0x6024, 1, 0x1, 0, 0, .u 4, .st, .imm, [1000]⟩,
  ⟨"DLY_PAGES_ACKED", 0x6030, 1, 0x1, 1, 2, .u 8, .ro, .none, [0]⟩,
  ⟨"DLY_SEALS_ACKED", 0x6031, 1, 0x1, 1, 2, .u 8, .ro, .none, [0]⟩,
  ⟨"DLY_ORDERS_DISCARDED", 0x6032, 1, 0x1, 1, 2, .u 8, .ro, .none, [0]⟩,
  ⟨"DLY_TRACKERS_FREE", 0x6033, 1, 0x1, 1, 2, .u 2, .ro, .none, [4096]⟩,
  ⟨"PTP_DOMAIN", 0x6040, 1, 0x1, 0, 0, .u 1, .st, .reset, [0]⟩,
  ⟨"PTP_TRANSPORT", 0x6041, 1, 0x1, 0, 0, .u 1, .st, .reset, [0]⟩,
  ⟨"PTP_STATE", 0x6042, 1, 0x1, 0, 0, .u 1, .ro, .none, [0]⟩,
  ⟨"PTP_OFFSET", 0x6043, 1, 0x1, 0, 0, .i 4, .ro, .none, [0]⟩,
  ⟨"QP_STATE", 0x6100, 1024, 0x1, 1, 1, .u 1, .ro, .none, [0]⟩,
  ⟨"QP_CMD", 0x6100, 1024, 0x1, 2, 2, .u 1, .wo, .imm, [0]⟩,
  ⟨"QP_PARTITION", 0x6100, 1024, 0x1, 3, 3, .u 1, .rw, .idle, [0]⟩,
  ⟨"QP_DEST_QPN", 0x6100, 1024, 0x1, 4, 4, .u 4, .rw, .idle, [0]⟩,
  ⟨"QP_DEST_MAC", 0x6100, 1024, 0x1, 5, 5, .octets 6, .rw, .idle, [0]⟩,
  ⟨"QP_DEST_IP", 0x6100, 1024, 0x1, 6, 6, .octets 16, .rw, .idle, [0]⟩,
  ⟨"QP_DSCP", 0x6100, 1024, 0x1, 7, 7, .u 1, .rw, .idle, [26]⟩,
  ⟨"QP_ECN", 0x6100, 1024, 0x1, 8, 8, .bool, .rw, .idle, [1]⟩,
  ⟨"QP_MTU", 0x6100, 1024, 0x1, 9, 9, .u 2, .rw, .idle, [4096]⟩,
  ⟨"QP_START_PSN", 0x6100, 1024, 0x1, 10, 10, .u 4, .rw, .idle, [0]⟩,
  ⟨"QP_ACK_TIMEOUT", 0x6100, 1024, 0x1, 11, 11, .u 1, .rw, .idle, [14]⟩,
  ⟨"QP_RETRY", 0x6100, 1024, 0x1, 12, 12, .u 1, .rw, .idle, [7]⟩,
  ⟨"QP_RNR_RETRY", 0x6100, 1024, 0x1, 13, 13, .u 1, .rw, .idle, [7]⟩,
  ⟨"QP_RATE", 0x6100, 1024, 0x1, 14, 14, .u 4, .ro, .none, [0]⟩,
  ⟨"QP_NEXT_PSN", 0x6100, 1024, 0x1, 15, 15, .u 4, .ro, .none, [0]⟩,
  ⟨"QP_UNACKED", 0x6100, 1024, 0x1, 16, 16, .u 2, .ro, .none, [0]⟩,
  ⟨"QP_FLUSHED", 0x6100, 1024, 0x1, 17, 17, .u 8, .ro, .none, [0]⟩]

/-- Objects 0x6000-0x6FFF (part 2). -/
def objDailiesB : List ObjRow := [
  ⟨"QP_RETRANSMITS", 0x6100, 1024, 0x1, 18, 18, .u 8, .ro, .none, [0]⟩,
  ⟨"QP_CNPS", 0x6100, 1024, 0x1, 19, 19, .u 8, .ro, .none, [0]⟩]

/-- Objects 0x7000-0x7FFF. -/
def objReliability : List ObjRow := [
  ⟨"CHECK_MODE", 0x7001, 1, 0x1, 0, 0, .u 1, .st, .idle, [1]⟩,
  ⟨"DRAIN_STATE", 0x7002, 1, 0x1, 0, 0, .u 1, .ro, .none, [0]⟩,
  ⟨"SUSPECT_UNIT", 0x7003, 1, 0x1, 0, 0, .u 4, .ro, .none, [4294967295]⟩,
  ⟨"DRAIN_REASON", 0x7004, 1, 0x1, 0, 0, .u 2, .ro, .none, [0]⟩,
  ⟨"DRAIN_CMD", 0x7005, 1, 0x1, 0, 0, .u 1, .wo, .imm, [0]⟩,
  ⟨"REPLACE_FLAG", 0x7006, 1, 0x1, 0, 0, .bool, .ro, .none, [0]⟩,
  ⟨"POWER_ON_SECONDS", 0x7007, 1, 0x1, 0, 0, .u 8, .ro, .none, [0]⟩,
  ⟨"PAIR_INJECT", 0x7008, 1, 0x1, 0, 0, .u 1, .rw, .take, [0]⟩,
  ⟨"DIGEST_VERDICT", 0x7009, 1, 0x1, 0, 0, .u 4, .wo, .imm, [0]⟩,
  ⟨"SUSPECT_LIMIT", 0x7010, 1, 0x1, 1, 9, .u 2, .st, .imm, [3, 3, 3, 2, 4, 8, 4, 4, 2]⟩,
  ⟨"SUSPECT_WINDOW", 0x7011, 1, 0x1, 0, 0, .u 4, .st, .imm, [86400]⟩,
  ⟨"SUSPECT_EVENTS", 0x7012, 1, 0x1, 1, 9, .u 4, .ro, .none, [0]⟩,
  ⟨"EVLOG_WRITTEN", 0x7020, 1, 0x1, 0, 0, .u 8, .ro, .none, [0]⟩,
  ⟨"EVLOG_ACKED", 0x7021, 1, 0x1, 0, 0, .u 8, .rw, .imm, [0]⟩,
  ⟨"EVLOG_OVERWRITTEN", 0x7022, 1, 0x1, 0, 0, .u 8, .ro, .none, [0]⟩,
  ⟨"CONT_WRITTEN", 0x7030, 1, 0x1, 0, 0, .u 8, .ro, .none, [0]⟩,
  ⟨"CONT_ACKED", 0x7031, 1, 0x1, 0, 0, .u 8, .rw, .imm, [0]⟩,
  ⟨"CONT_LOST", 0x7032, 1, 0x1, 0, 0, .u 8, .ro, .none, [0]⟩,
  ⟨"CONT_FLASH_SKIPPED", 0x7033, 1, 0x1, 0, 0, .u 8, .ro, .none, [0]⟩,
  ⟨"EVLOG_ENTRY", 0x7100, 64, 0x1, 1, 16, .domain 64, .ro, .none, [0]⟩,
  ⟨"CONT_RECORD", 0x7200, 16, 0x1, 1, 16, .domain 328, .ro, .none, [0]⟩]

/-- Objects 0x8000-0x8FFF. -/
def objSecurity : List ObjRow := [
  ⟨"LIFECYCLE", 0x8001, 1, 0x1, 0, 0, .u 1, .ro, .none, [0]⟩,
  ⟨"LIFECYCLE_CMD", 0x8002, 1, 0x1, 0, 0, .u 1, .wo, .imm, [0]⟩,
  ⟨"RETURN_COUNT", 0x8003, 1, 0x1, 0, 0, .u 1, .ro, .none, [0]⟩,
  ⟨"JTAG_IDCODE", 0x8004, 1, 0x1, 0, 0, .u 4, .const, .none, [0]⟩,
  ⟨"SEC_CHALLENGE", 0x8005, 1, 0x1, 0, 0, .octets 32, .ro, .none, [0]⟩,
  ⟨"SEC_TOKEN", 0x8006, 1, 0x1, 0, 0, .domain 65536, .wo, .imm, [0]⟩,
  ⟨"DEBUG_LEVEL", 0x8010, 1, 0x1, 0, 0, .u 1, .ro, .none, [0]⟩,
  ⟨"DEBUG_REQUEST", 0x8011, 1, 0x1, 0, 0, .u 2, .wo, .imm, [0]⟩,
  ⟨"DEBUG_END", 0x8012, 1, 0x1, 0, 0, .u 1, .wo, .imm, [0]⟩,
  ⟨"DEBUG_PARTITION", 0x8013, 1, 0x1, 0, 0, .u 1, .ro, .none, [255]⟩,
  ⟨"DEBUG_LEFT", 0x8014, 1, 0x1, 0, 0, .u 4, .ro, .none, [0]⟩,
  ⟨"IMAGE_STATE", 0x8020, 1, 0x1, 1, 2, .u 1, .ro, .none, [0]⟩,
  ⟨"IMAGE_SVN", 0x8021, 1, 0x1, 1, 2, .u 1, .ro, .none, [0]⟩,
  ⟨"IMAGE_CMD", 0x8022, 1, 0x1, 0, 0, .u 2, .wo, .imm, [0]⟩,
  ⟨"IMAGE_LOAD", 0x8023, 1, 0x1, 0, 0, .domain 65536, .wo, .imm, [0]⟩,
  ⟨"MIN_SVN", 0x8024, 1, 0x1, 0, 0, .u 1, .ro, .none, [0]⟩,
  ⟨"KEY_REVOKED", 0x8025, 1, 0x1, 0, 0, .u 1, .ro, .none, [0]⟩,
  ⟨"JOB_KEY", 0x8030, 1, 0x1, 1, 8, .u 2, .rw, .idle, [0]⟩,
  ⟨"FN_ADMIN_MASK", 0x8031, 1, 0x1, 0, 0, .u 1, .st, .reset, [1]⟩,
  ⟨"DAP_ACCESS", 0x8032, 1, 0x1, 0, 0, .u 1, .rw, .imm, [0]⟩,
  ⟨"JTAG_EXTEST_EN", 0x8033, 1, 0x1, 0, 0, .bool, .rw, .imm, [0]⟩,
  ⟨"TRACE_BASE", 0x8040, 1, 0x1, 0, 0, .u 8, .rw, .take, [0]⟩,
  ⟨"TRACE_SIZE", 0x8041, 1, 0x1, 0, 0, .u 4, .rw, .take, [0]⟩,
  ⟨"TRACE_WRITTEN", 0x8042, 1, 0x1, 0, 0, .u 8, .ro, .none, [0]⟩,
  ⟨"DBG_CORE", 0x8050, 1, 0x1, 1, 8, .u 1, .wo, .imm, [0]⟩,
  ⟨"DBG_CORE_STATE", 0x8051, 1, 0x1, 1, 8, .u 1, .ro, .none, [0]⟩,
  ⟨"DBG_REGS", 0x8052, 1, 0x1, 1, 8, .domain 264, .ro, .none, [0]⟩,
  ⟨"DBG_CLM", 0x8053, 1, 0x1, 1, 8, .domain 65536, .ro, .none, [0]⟩,
  ⟨"DBG_MEM_ADDR", 0x8054, 1, 0x1, 0, 0, .u 8, .rw, .imm, [0]⟩,
  ⟨"DBG_MEM_DATA", 0x8055, 1, 0x1, 0, 0, .domain 4096, .ro, .none, [0]⟩,
  ⟨"REGION_BASE", 0x8100, 128, 0x1, 1, 1, .u 8, .rw, .idle, [0]⟩,
  ⟨"REGION_LIMIT", 0x8100, 128, 0x1, 2, 2, .u 8, .rw, .idle, [0]⟩,
  ⟨"REGION_KEY", 0x8100, 128, 0x1, 3, 3, .u 2, .rw, .idle, [0]⟩,
  ⟨"REGION_PERM", 0x8100, 128, 0x1, 4, 4, .u 1, .rw, .idle, [0]⟩]

/-- Objects 0x9000-0x9FFF. -/
def objHost : List ObjRow := [
  ⟨"PCIE_IDS", 0x9000, 1, 0x1, 0, 0, .octets 8, .const, .none, [0]⟩,
  ⟨"PCIE_LINK_SPEED", 0x9001, 1, 0x1, 0, 0, .u 1, .ro, .none, [0]⟩,
  ⟨"PCIE_LINK_WIDTH", 0x9002, 1, 0x1, 0, 0, .u 1, .ro, .none, [0]⟩,
  ⟨"PCIE_COUNTERS", 0x9003, 1, 0x1, 1, 7, .u 8, .ro, .none, [0]⟩,
  ⟨"BOOT_STATE", 0x9010, 1, 0x1, 0, 0, .u 1, .ro, .none, [0]⟩,
  ⟨"BOOT_TIMES", 0x9011, 1, 0x1, 0, 0, .domain 40, .ro, .none, [0]⟩,
  ⟨"RESET_CAUSE", 0x9012, 1, 0x1, 0, 0, .u 1, .ro, .none, [0]⟩,
  ⟨"BOOT_COUNT", 0x9013, 1, 0x1, 0, 0, .u 4, .ro, .none, [0]⟩,
  ⟨"RESET_CMD", 0x9014, 1, 0x1, 0, 0, .u 1, .wo, .imm, [0]⟩,
  ⟨"FABRIC_BOOT_WAIT", 0x9015, 1, 0x1, 0, 0, .u 2, .st, .reset, [20000]⟩,
  ⟨"TC_BOOT_WAIT", 0x9016, 1, 0x1, 0, 0, .u 2, .st, .reset, [2000]⟩,
  ⟨"BOOT_IMAGE_SLOT", 0x9017, 1, 0x1, 0, 0, .u 1, .ro, .none, [0]⟩,
  ⟨"TQ_BASE", 0x9100, 8, 0x1, 1, 4, .u 8, .rw, .idle, [0]⟩,
  ⟨"TQ_SIZE", 0x9100, 8, 0x1, 5, 8, .u 2, .rw, .idle, [64]⟩,
  ⟨"CQ_BASE", 0x9100, 8, 0x1, 9, 9, .u 8, .rw, .idle, [0]⟩,
  ⟨"CQ_SIZE", 0x9100, 8, 0x1, 10, 10, .u 2, .rw, .idle, [256]⟩,
  ⟨"TQ_ENABLE", 0x9100, 8, 0x1, 11, 11, .u 1, .rw, .imm, [0]⟩,
  ⟨"HOST_EVENT_MASK", 0x9100, 8, 0x1, 12, 12, .u 2, .rw, .imm, [65]⟩,
  ⟨"TAKES_SUBMITTED", 0x9100, 8, 0x1, 13, 13, .u 8, .ro, .none, [0]⟩,
  ⟨"ABORTS_UNMATCHED", 0x9100, 8, 0x1, 14, 14, .u 4, .ro, .none, [0]⟩,
  ⟨"DOORBELL_DROPPED", 0x9100, 8, 0x1, 15, 15, .u 4, .ro, .none, [0]⟩]

/-- Objects 0xA000-0xAFFF. -/
def objDirector : List ObjRow := [
  ⟨"CREW_PRESENT", 0xA000, 1, 0x1, 0, 0, .u 4, .ro, .none, [0]⟩,
  ⟨"CREW_HEARTBEAT", 0xA001, 1, 0x1, 1, 31, .octets 20, .ro, .none, [0]⟩,
  ⟨"CREW_SILENT_LIMIT", 0xA002, 1, 0x1, 0, 0, .u 1, .rw, .imm, [3]⟩,
  ⟨"PROXY_OPEN", 0xA003, 1, 0x1, 0, 0, .u 1, .ro, .none, [0]⟩,
  ⟨"CREW_EVLOG_WRITTEN", 0xA010, 1, 0x1, 0, 0, .u 8, .ro, .none, [0]⟩,
  ⟨"CREW_EVLOG_ACKED", 0xA011, 1, 0x1, 0, 0, .u 8, .rw, .imm, [0]⟩,
  ⟨"CREW_EVLOG_OVERWRITTEN", 0xA012, 1, 0x1, 0, 0, .u 8, .ro, .none, [0]⟩,
  ⟨"CREW_EVLOG_ENTRY", 0xA100, 16, 0x1, 1, 16, .domain 80, .ro, .none, [0]⟩,
  ⟨"DIRECTOR_ROLE", 0xA020, 1, 0x1, 0, 0, .u 1, .ro, .none, [0]⟩,
  ⟨"DIRECTOR_SILENT", 0xA021, 1, 0x1, 0, 0, .u 2, .st, .imm, [1000]⟩,
  ⟨"DIRECTOR_TAKEOVER", 0xA022, 1, 0x1, 0, 0, .bool, .st, .imm, [1]⟩,
  ⟨"DIRECTOR_RELEASE", 0xA023, 1, 0x1, 0, 0, .u 1, .wo, .imm, [0]⟩,
  ⟨"DIRECTOR_CLAIMS", 0xA024, 1, 0x1, 0, 0, .u 4, .ro, .none, [0]⟩]

/-- The objects whose index has k as its first hexadecimal digit; each block of the dictionary is one chapter's. -/
def objBlock (k : Nat) : List ObjRow := match k with
  | 1 => objModuleA ++ objModuleB
  | 2 => objPower
  | 3 => objMemory
  | 4 => objClusterA ++ objClusterB
  | 5 => objFabricA ++ objFabricB
  | 6 => objDailiesA ++ objDailiesB
  | 7 => objReliability
  | 8 => objSecurity
  | 9 => objHost
  | 10 => objDirector
  | _ => []

/-- The object at an index and subindex lies in a row. -/
def ObjRow.has (r : ObjRow) (ix sub : Nat) : Bool :=
  decide (r.base ≤ ix) && decide ((ix - r.base) % r.step = 0) && decide ((ix - r.base) / r.step < r.cnt) &&
    decide (r.sub1 ≤ sub) && decide (sub ≤ r.subN)

/-- The row of the object at an index and subindex (R472). -/
@[irreducible] def objRow (ix sub : Nat) : Option ObjRow := (objBlock (ix / 4096)).find? (fun r => r.has ix sub)

/-- The dictionary has an object at this index, at some subindex. -/
@[irreducible] def objIndexExists (ix : Nat) : Bool :=
  (objBlock (ix / 4096)).any (fun r => decide (r.base ≤ ix) && decide ((ix - r.base) % r.step = 0) && decide ((ix - r.base) / r.step < r.cnt))

/-- The default of an object: the table's value for its subindex. -/
def objDefault (ix sub : Nat) : Nat :=
  match objRow ix sub with
  | some r => (r.dflt[sub - r.sub1]?).getD (r.dflt.getLast?.getD 0)
  | none => 0

/-- The key of an object in the stores of State. -/
def okey (ix sub : Nat) : Nat := ix * 256 + sub

/-- The size of a type in bytes; a domain's is its largest. -/
def ObjTy.size : ObjTy → Nat
  | .u n => n | .i n => n | .bool => 1 | .f32 => 4 | .octets n => n | .domain n => n | .str => 16

end Sys2Proof.Machine
end

