-- ==== Sys2Proof/Machine/State.lean ====
section
/-! DEFINITION. Machine/State.lean: the state of the module as plain data, its reset value, and the reasons a step can
stop. INVENTORY.md '## State' names every piece with its rule. -/

namespace Sys2Proof.Machine

/-! Faults, events, clappers and queues. -/

/-- A fault report on its way to, or at, a take controller (R12, R58-R64); cflags is FLAGS of its continuity record (R464), sub the
number of the fabric or dailies engine that raised it. -/
structure FaultRep where
  part : Nat
  code : Nat
  time : Nat
  cluster : Nat
  engine : Nat
  pc : Nat
  addr : Nat
  detail : Nat
  cold : Bool
  instr : Nat
  cflags : Nat
  sub : Nat := 0
deriving DecidableEq, Repr

/-- An event record (R8, R9); pay is payload bytes 16 to 63, little-endian. -/
structure EvRec where
  tc : Nat
  src : Nat
  code : Nat
  flags : Nat
  pay : Nat
deriving DecidableEq, Repr

/-- What the part has sent outside: a CAN frame (identifier and bytes), an Ethernet frame of a port, a write into host
memory, an MSI-X message, a PCIe completion (with its poison bit, or unsupported), a JTAG data register value, a fabric
flit of a port, the outcome of a register read by a row of its own. -/
inductive Out where
  | can (id : Nat) (data : List Byte)
  | eth (port : Nat) (frame : List Byte)
  | hostWrite (fn : Nat) (addr : Nat) (data : List Byte)
  | msix (fn vector : Nat)
  | hostRead (fn : Nat) (addr : Nat) (len : Nat)
  | cpl (fn : Nat) (data : List Byte) (poisoned : Bool)
  | unsupported (fn : Nat)
  | tdo (data : List Byte)
  | flit (port message : Nat)
  | reply (via : Iface) (abort : Nat) (data : List Byte)
deriving DecidableEq, Repr

/-- Where the value that a clapper operation returns goes. -/
inductive ClapRet where
  | none
  | coll (g seq k : Nat)
  | core (c : Fin 8) (rd : Nat)
  | fabric (p : Packet)
  | entry (g seq k : Nat)
deriving DecidableEq, Repr

/-- A clapper operation on its way to its home (R297): issuing unit, operation code of R307, operands, and the report of its
issuer if the clapper is found poisoned (R302, R306); grp names the operation whose signals keep their order at every home (R135, R190; 0: none). -/
structure ClapMsg where
  unit : Nat
  op : Nat
  clap : Nat
  val : Word
  cmp : Word
  ret : ClapRet
  bad : Option FaultRep
  grp : Nat := 0
deriving DecidableEq, Repr

/-- A waiter registered at a clapper's home (R300). -/
structure Waiter where
  clap : Nat
  eq : Bool
  value : Word
  who : Who
deriving DecidableEq, Repr

/-- The operands of a queued CLAP (R298). -/
structure ClapReq where
  op : Nat
  target : Word
  val : Word
  cmp : Word
  rd : Nat
deriving DecidableEq, Repr

/-- An entry of an engine queue: its place in issue order, the issue pc, the copied op block (R44) or the CLAP operands, the
time its gate began to wait (R47), the reel slot claimed for it and since when it waits for
one (R143), and whether its checks have been made. A prep or grade slot names its MMA (R45). -/
structure QEntry where
  id : Nat
  kind : OpKind
  pc : Nat
  instr : Nat
  blk : OpBlock
  mma : Nat
  clap : ClapReq
  waitSince : Option Nat
  slot : Option Nat
  dslot : Option Nat
  reelSince : Option Nat
  checked : Bool
deriving DecidableEq, Repr

/-- A range register (R91) and its cold mark (R94). -/
structure RangeReg where
  amax : List (Nat × Nat)
  valid : Bool
  gran : Nat
  cold : Bool
deriving DecidableEq, Repr

/-- A dispatched and unretired operation: the registers it still reads and writes (R52), the reel slots it holds, its
range-register snapshot (R93), its outstanding remote or held writes, and how far it has come (0 running, 1 its writes done). -/
structure Flight where
  e : QEntry
  rd : List Nat
  wr : List Nat
  snap : RangeReg
  cold : Bool
  outst : Nat
  phase : Nat
deriving DecidableEq, Repr

/-- A tile register or plane (R157, R158): configuration, the draw that names its undefined contents (R160), the elements
written since, by row · 8192 + column, and the poisoned granules by row · 8192 + granule (R159). -/
structure TReg where
  fmt : Nat
  rows : Nat
  cols : Nat
  draw : Nat
  el : List (Nat × Nat)
  poison : List (Nat × Bool)
deriving DecidableEq, Repr

/-- One element of an MMA, or its quadrant group (R183, R186), on its way through the pipeline (R196): the regions of its
members with the working accumulators row by row, their flags, the stage reached (1 fed, 2 committed, 3 verdict in,
4 drained, 5 graded), a failing verdict, the values drained for its grade program, its outstanding sends, its pair comparison,
the reel slots its ports hold (port, reel, slot), its send signals to come (element, port) and its posts to come. -/
structure MmaUnit where
  u : Nat
  res : List (Nat × List (List Nat))
  flags : Nat
  stage : Nat
  bad : Bool
  drained : List (Nat × List (List (Nat × Bool)))
  outst : Nat
  paired : Bool
  slots : List (Nat × Nat × Nat)
  sigs : List (Nat × Nat)
  posts : List Nat
deriving DecidableEq, Repr

/-- A program bound to an MMA when its checks read it (R242): its role, binding and code. -/
structure Prog where
  mma : Nat
  role : OpKind
  bind : BitVec 1024
  code : List Word
deriving DecidableEq, Repr

/-- An MMA between dispatch and its signal: the next unit to feed and the units in the pipeline. -/
structure MmaRun where
  id : Nat
  next : Nat
  units : List MmaUnit
deriving DecidableEq, Repr

/-- A stream descriptor of a running operation (R129, R135): its position in the operation, its bytes, the reel slots it holds
by cluster, its snapshot, whether it has asked another module for its source (R120) and the blocks that have come from there (by global address), its
outstanding remote reads and writes, how far it has come, since when it waits for a slot (R143), and since when a multicast waits for reservations or for
its writes (R147). -/
structure DescRun where
  idx : Nat
  d : Descriptor
  bad : Bool
  srcSlot : Option Nat
  dstSlots : List (Nat × Nat)
  snap : RangeReg
  started : Bool
  asked : Bool
  far : List (Nat × List (Byte × Bool))
  outst : Nat
  written : Bool
  waitSince : Option Nat
  mcSince : Option Nat
  stalled : Bool
deriving DecidableEq, Repr

/-- A STREAM operation on its engine: descriptors fetched and not complete, how many are complete, and the range registers whose cold use by the
operation has been counted (R94). -/
structure StreamRun where
  id : Nat
  nFetched : Nat
  descs : List DescRun
  done : Nat
  coldRegs : List Nat
deriving DecidableEq, Repr

/-- The reservations and claims of a reel in order, with their done marks (R142); its configuration and pointers are the
objects of R155. -/
structure Reel where
  resv : List (Nat × Bool)
  claims : List (Nat × Bool)
deriving DecidableEq, Repr

/-- A window store sent and not acknowledged (R46): its pc, address, data, whether another module performs it, and its answer: the code of a remote
one, or `some 0xFF` for a local one that waits for its pair's comparison (R448). -/
structure WStore where
  pc : Nat
  addr : Nat
  data : List Byte
  remote : Bool
  done : Option Nat
deriving DecidableEq, Repr

/-- What a control core is doing: stopped, running, stalled at issue, at a CWAIT, at a window load (with the reply of a remote
one: poison and data, or the fault code), or faulted. -/
inductive CoreStatus where
  | stopped
  | running
  | stalled
  | cwait (clap : Nat) (eq : Bool) (value : Word) (since : Nat)
  | winLoad (rd : Nat) (width : Nat) (signed : Bool) (addr : Nat) (remote : Bool) (reply : Option (Nat × Bool × List Byte))
  | ended
  | faulted
deriving DecidableEq, Repr

/-- A control core (R36-R41): registers, pc, the counters behind cycle and instret, the reservation of LR, the registers that
a CLAP in progress will write (R50), outstanding window stores, and the debug halt and single step (R575). -/
structure Core where
  x : Vector Word 32
  pc : Word
  cyc : Nat
  instret : Nat
  status : CoreStatus
  resv : Option (Nat × Nat)
  awaits : List Nat
  wstores : List WStore
  halted : Bool
  step : Bool
deriving DecidableEq, Repr

/-! The fabric's requests. -/

/-- What a request over the fabric is for (R380): a window load or store, a CLAP, a write or a read of a stream descriptor, a write or the
addition of a TSEND, a tile-send write or its signal, a request of a collective's entry. -/
inductive Purpose where
  | winLoad (c : Fin 8)
  | winStore (c : Fin 8) (pc addr : Nat)
  | clap (f : FaultRep) (ret : ClapRet)
  | desc (c : Fin 8) (e : Fin 4) (idx : Nat) (f : FaultRep)
  | descRead (c : Fin 8) (e : Fin 4) (idx g : Nat) (f : FaultRep)
  | tsend (c : Fin 8) (e : Fin 4) (f : FaultRep)
  | tsendAdd (c : Fin 8) (e : Fin 4) (f : FaultRep)
  | send (c : Fin 8) (id u : Nat) (f : FaultRep)
  | sendSig (c : Fin 8) (id u : Nat) (f : FaultRep)
  | collData (g seq k lane chunk : Nat)
  | collMsg (g seq k : Nat)
  | collClap (g seq k : Nat)
  | collGet (g seq k a : Nat)
  | mark (g seq : Nat)
deriving DecidableEq, Repr

/-- An outstanding request (R368, R380): the packet as issued, its purpose and the time it is abandoned. -/
structure Req where
  pkt : Packet
  due : Nat
  why : Purpose
deriving DecidableEq, Repr

/-- An effect that leaves a PAIRED pair, waiting for its comparison (R448, R450): a granule write, a clapper operation or a
fabric packet, with the report of the operation it belongs to and the time it began to wait. -/
inductive Egress where
  | write (addr : Nat) (data : List (Byte × Bool)) (since : Nat) (f : FaultRep)
  | clap (m : ClapMsg) (since : Nat) (f : FaultRep)
  | packet (p : Packet) (why : Purpose) (since : Nat) (f : FaultRep)
deriving DecidableEq, Repr

/-- Everything that one cluster holds; sendBuf is the send buffer and sendStall what the lanes still hold back from it (R263), each packet with
its MMA, unit and the DETAIL of its fault; clmDraw names the undefined contents that a discard leaves core-local memory (R67; 0: an unlisted byte reads 0). -/
structure Cluster where
  core : Core
  clm : List (Nat × Byte)
  clmDraw : Nat
  nextId : Nat
  mq : List QEntry
  vq : List QEntry
  yq : List QEntry
  sq : Vector (List QEntry) 4
  flights : List Flight
  reg : Vector TReg 10
  mma : List MmaRun
  progs : List Prog
  drainBuf : Vector (Option (Nat × Nat)) 2
  sendBuf : List (Nat × Nat × Nat × Packet)
  sendStall : List (Nat × Nat × Nat × Packet)
  streams : Vector (Option StreamRun) 4
  reels : Vector Reel 32
  rr : Vector RangeReg 16
  egress : List Egress
deriving DecidableEq, Repr

/-! Takes and host functions. -/

/-- A take entry (R513) and its queue. -/
structure TakeEnt where
  q : Nat
  id : Nat
  targ : Nat
  image : Nat
  imageLen : Nat
  entry : Nat
  flags : Nat
  startClap : Nat
  doneClap : Nat
  startValue : Nat
deriving DecidableEq, Repr

/-- Why a take stops early (R65, R519). -/
inductive Stop where
  | fault | abort | drain | reset
deriving DecidableEq, Repr

/-- A running take (R41, R57-R66): its entry, the timecode of its start (and whether that was before the first
synchronization), the fault reports that have arrived, the stop under way
with its timecode, and the clusters that have ended. -/
structure TakeRun where
  ent : TakeEnt
  startTc : Nat
  started : Bool
  unsync : Bool
  faults : List FaultRep
  stop : Option (Stop × Nat)
  ended : List Nat
deriving DecidableEq, Repr

/-- A completion handed over and not yet written (R517). -/
structure Compl where
  id : Nat
  code : Nat
  disp : Nat
  q : Nat
  startTc : Nat
  endTc : Nat
  flags : Nat
  signalled : Bool
  unsync : Bool
  irq : Bool
deriving DecidableEq, Repr

/-- PCIe function p and its partition's take controller and scheduler (R512-R523), and when HOST_ACCESS_REFUSED was last logged for each
reason (R511); the bytes of its MSI-X table that are not zero (R510). -/
structure HostFn where
  tail : Vector Nat 4
  head : Vector Nat 4
  fetching : Vector Bool 4
  fetched : Vector (Option TakeEnt) 4
  rr : Nat
  gate : Option TakeEnt
  run : Option TakeRun
  compl : List Compl
  cqHead : Nat
  cqTail : Nat
  phase : Bool
  cqFresh : Bool
  lastTake : Nat
  refusedAt : List (Nat × Nat)
  msix : List (Nat × Byte)
deriving DecidableEq, Repr


/-! Logs and incidents. -/

/-- An incident of a unit (R456): class, unit, and the powered second it happened. -/
structure Incident where
  cls : Nat
  unit : Nat
  sec : Nat
deriving DecidableEq, Repr

/-- The logs' own state: the incident history (R456), the last 256 continuity records, oldest first, and whether each is in flash (R465), the minute and
count of flash writes, when CONT_LOST was last logged, the second and count of EVENT frames (R496), and the last timecode that
each unit stamped (R312). -/
structure Logs where
  incidents : List Incident
  cont : List (List Byte × Bool)
  flashMinute : Nat
  flashCount : Nat
  contLostAt : Option Nat
  evSecond : Nat
  evSent : Nat
  stamps : List (Nat × Nat)
deriving DecidableEq, Repr

/-! Time, fabric and collectives. -/

/-- The timecode's own state (R311-R322): the fraction of a nanosecond carried, in units of 10^-12; what is known of the state and
hop distance of the module at each port; the offsets of the exchanges in ACQUIRING; how many exchanges in a row were within 1 ns;
the holdover's start and whether its limit was logged; since when there has been no candidate, and when that was last logged; the
replica of each island (its lead over the master, and whether it drops the lead at the next nanosecond). -/
structure TimeSt where
  frac : Nat
  nbr : Vector (Option (Nat × Nat)) 6
  thetas : List Int
  good : Nat
  asked : Option Nat
  holdSince : Option Nat
  holdLogged : Bool
  lastParent : Nat
  delay : Int
  bareSince : Option Nat
  bareLogged : Option Nat
  rep : Vector (Nat × Bool) 24
deriving DecidableEq, Repr

/-- A fabric port (R355-R373): the training step (1-4), when it and the training began, the start of BACKOFF, the hold of
FAB_PORT_CMD 2; the partner's TX_MODULE and TX_PORT since UP; the transmitter's coefficients, at first those of FAB_EQ_PRESET; whether the lanes are found
reversed, and which inverted; receiver: next expected SEQ, whether NAK is set, the freed units per
pool, the partly received packet of each channel, the control messages received with their arrival time; sender: next SEQ, last ACK_SEQ,
the retry buffer (SEQ, channel, area, time sent), the SEQs still to replay, the last replay (its ACK_SEQ and time), how many replays
started since ACK_SEQ advanced, whether the partner sets NAK, the units freed by the partner and sent per pool, the packets queued
with the input and pool they hold, the rest of the packet being sent per channel, control messages to send; the round robin: flits
left per channel, the last input served per channel; corrected symbols since the last check, and when degradation was last
logged. -/
structure FabPort where
  step : Nat
  stepAt : Nat
  trainAt : Nat
  backoffAt : Nat
  held : Bool
  identity : Option (Nat × Nat)
  eq : Nat
  laneRev : Bool
  laneInv : Nat
  expSeq : Nat
  nak : Bool
  freed : Vector Nat 8
  rxPart : Vector (List Byte) 4
  rxCtl : List (Nat × List Byte)
  txSeq : Nat
  acked : Nat
  retry : List (Nat × Nat × List Byte × Nat)
  replay : List Nat
  replayAck : Option Nat
  replayAt : Option Nat
  replays : Nat
  nakSeen : Bool
  ret : Vector Nat 8
  sent : Vector Nat 8
  txq : List (Nat × Nat × Packet)
  txPart : Vector (List Byte) 4
  ctl : List (List Byte)
  wrr : Vector Nat 4
  lastIn : Vector Nat 4
  corr : Nat
  fecWarnAt : Option Nat
deriving DecidableEq, Repr

/-- The fabric (R355-R385): its ports, the route entries written since the table was filled (R374-R377), packets waiting for a
router with their input port (6: local), requests and responses delivered to this module with their input port, and when FAB_DROP was
last logged for each reason; the TAG that each unit tries next (R368, R380), and the errors that the routers of N and S have corrected (R382). -/
structure Fabric where
  port : Vector FabPort 6
  route : List (Nat × Nat)
  queue : List (Nat × Packet)
  inbox : List (Nat × Packet)
  dropAt : List (Nat × Nat)
  tags : List (Nat × Nat)
  eccCorr : Vector Nat 2
deriving DecidableEq, Repr

/-- The sending side of a lane (R397-R402): the entry, the lane number at the receiver, the receiver's rank, the direction of a ring
entry (0 +, 1 -, 2 none), whether CTS has come, the receiver's DST, the next chunk, the chunks acknowledged, chunks to resend, the
chunks whose data packets are out (chunk, unanswered packets, ATTEMPT, DCRC), and the time of the last progress. -/
structure SendLane where
  k : Nat
  lane : Nat
  peer : Nat
  dir : Nat
  isOpen : Bool
  dst : Nat
  next : Nat
  acked : Nat
  resend : List Nat
  flying : List (Nat × Nat × Nat × Nat)
  at_ : Nat
deriving DecidableEq, Repr

/-- The receiving side of a lane: the entry, the lane, the sender's rank, the direction, chunks verified in order and beyond, the count
last acknowledged, since when a verified chunk waits for its ACK, the chunks re-requested, the number of the chunk with LAST and its signal (clapper, increment), last progress. -/
structure RecvLane where
  k : Nat
  lane : Nat
  peer : Nat
  dir : Nat
  count : Nat
  beyond : List Nat
  told : Nat
  since : Option Nat
  asked : List Nat
  last : Option (Nat × Nat × Nat)
  at_ : Nat
deriving DecidableEq, Repr

/-- An entry of a running sheet (R394): its 64 bytes, its stage (0 idle, 1 armed, 2 fired, 3 DONE), when it was armed, requests of
a GET or SIGNAL that are unanswered, whether its - direction has added to the join clapper. -/
structure CollEntry where
  bytes : List Byte
  stage : Nat
  armedAt : Nat
  outst : Nat
  joined : Bool
deriving DecidableEq, Repr

/-- The running or failing collective of a group (R390-R404): its SEQ, its sheet's signal, its entries, its lanes, the reduced
data kept for forwarding (direction, chunk, bytes). -/
structure CollRun where
  seq : Nat
  sigClap : Nat
  sigInc : Nat
  entries : List CollEntry
  send : List SendLane
  recv : List RecvLane
  fwd : List (Nat × Nat × List (Byte × Bool))
deriving DecidableEq, Repr

/-- A group that has been used: its launches waiting for a context (SEQ and time), its running collective, the ring
entries completed (R410), the RTS messages held for a later SEQ or a lane in use (R397, R399), and the launches dropped that the take's discard marks
failed (R391). -/
structure CollGroup where
  waiting : List (Nat × Nat)
  run : Option CollRun
  rings : Nat
  heldRts : List (Nat × List Byte)
  starved : List Nat
deriving DecidableEq, Repr

/-- The collectives (R386-R417): groups in use, the member lists, messages in the inbox to take (engine, message), per engine the group that sent the
last chunk, and when COLL_STRAY was last logged. -/
structure Coll where
  groups : List (Nat × CollGroup)
  members : List (Nat × List Nat)
  msgs : List (Nat × Nat × List Byte)
  last : Vector Nat 2
  strayAt : Option Nat
deriving DecidableEq, Repr

/-- The HBM regulator (R148-R150): rate, depth and borrow bit of each class as of the last replenishment, the buckets that are not full by
stack * 8 + class, the classes in which a request waited since the last replenishment, and the requests waiting at the controllers with their
class, oldest first. -/
structure Regulator where
  rate : Vector Nat 5
  depth : Vector Nat 5
  borrow : Vector Bool 5
  tokens : List (Nat × Nat)
  held : List Nat
  wait : List (Nat × MemReq)
deriving DecidableEq, Repr

/-- The regulator after reset: every bucket full, the values at their defaults. -/
def Regulator.reset : Regulator :=
  { rate := #v[640, 256, 32, 64, 32], depth := Vector.replicate 5 4096, borrow := Vector.replicate 5 true, tokens := [], held := [], wait := [] }
/-- The timecode after reset. -/
def TimeSt.reset : TimeSt :=
  { frac := 0, nbr := Vector.replicate 6 none, thetas := [], good := 0, asked := none, holdSince := none, holdLogged := false,
    lastParent := 0xFF, delay := 0, bareSince := none, bareLogged := none, rep := Vector.replicate 24 (0, false) }
/-- A port after reset: DISABLED until boot trains it. -/
def FabPort.reset : FabPort :=
  { step := 0, stepAt := 0, trainAt := 0, backoffAt := 0, held := false, identity := none, eq := 0, laneRev := false, laneInv := 0, expSeq := 0, nak := false,
    freed := Vector.replicate 8 0, rxPart := Vector.replicate 4 [], rxCtl := [], txSeq := 0, acked := 0xFFF, retry := [], replay := [],
    replayAck := none, replayAt := none, replays := 0, nakSeen := false, ret := Vector.replicate 8 0, sent := Vector.replicate 8 0,
    txq := [], txPart := Vector.replicate 4 [], ctl := [], wrr := Vector.replicate 4 0, lastIn := Vector.replicate 4 6, corr := 0,
    fecWarnAt := none }
/-- The fabric after reset. -/
def Fabric.reset : Fabric :=
  { port := Vector.replicate 6 FabPort.reset, route := [], queue := [], inbox := [], dropAt := [], tags := [],
    eccCorr := Vector.replicate 2 0 }
/-- The collectives after reset. -/
def Coll.reset : Coll := { groups := [], members := [], msgs := [], last := Vector.replicate 2 0, strayAt := none }

/-! Dailies. -/

/-- An order in the send queue of a queue pair (R425, R426): its 64 bytes, its binding and its tracker; for a page or seal whose first transmission began,
the slate or seal and the trailer as composed, the first PSN, the packets sent once and all packets. -/
structure DlyMsg where
  order : List Byte
  binding : Nat
  trk : Option Nat
  head : List Byte
  trailer : List Byte
  psn : Nat
  sent : Nat
  total : Nat
deriving DecidableEq, Repr

/-- A queue pair (R419-R423, R437, R438): its send queue, oldest first, with the messages not fully acknowledged; the oldest
unacknowledged PSN; the unacknowledged packets with their time of transmission; the PSN to send again from; retries since an advance;
the RNR wait (its end and PSN); the last cut and CNP mark of R438; the token bucket with its last fill. -/
structure Qp where
  msgs : List DlyMsg
  una : Nat
  unacked : List (Nat × Nat)
  again : Option Nat
  tries : Nat
  rnrTries : Nat
  rnr : Option (Nat × Nat)
  lastCut : Nat
  cnpSeen : Bool
  tokens : Nat
  tokensAt : Nat
deriving DecidableEq, Repr

/-- A sequence tracker (R433, R434): its number, pages counted and acknowledged, the running CRC of PAGE_SUM, bytes written, whether a page was
poisoned, the first slate's timecode, whether its SEAL order is queued, whether a discard orphaned it (R439). -/
structure Tracker where
  id : Nat
  qp : Nat
  seq : Nat
  count : Nat
  acked : Nat
  crc : Nat
  bytes : Nat
  bad : Bool
  firstTc : Nat
  sealed : Bool
  orphan : Bool
deriving DecidableEq, Repr

/-- An order that binding b holds (R426): its slot in the reel (none once a discard emptied the reel), its bytes, and whether it has a
place at a tracker, and which. -/
structure DlyHeld where
  b : Nat
  slot : Option Nat
  order : List Byte
  got : Bool
  trk : Option Nat
deriving DecidableEq, Repr

/-- A PTP master that has sent an Announce: its port identity, its data set as one number (less is better), and when it was heard (R441). -/
structure PtpPeer where
  ident : Nat
  rank : Nat
  heard : Nat
deriving DecidableEq, Repr

/-- The IEEE 1588 clock of E0 (R441): the messages that wait, with their arrival by the timecode; the masters heard; the clock's lead over the
timecode in ns, unknown before the first measurement; the mean path delay; the last Sync whose Follow_Up is awaited (its sequence number, its
arrival, its correction); the last Sync's origin and arrival; the last Delay_Req (its sequence number, its departure). -/
structure Ptp where
  rx : List (Nat × List Byte)
  peers : List PtpPeer
  lead : Option Int
  path : Option Int
  open_ : Option (Nat × Int × Int)
  sync : Option (Int × Int)
  ask : Option (Nat × Int)
deriving DecidableEq, Repr

/-- The clock of E0 while it is off. -/
def Ptp.reset : Ptp := { rx := [], peers := [], lead := none, path := none, open_ := none, sync := none, ask := none }

/-- The dailies (R418-R444): queue pairs in use, trackers, the order each binding holds with its slot (R426), the last binding served and the
last queue pair that sent per engine; the clock of E0: consecutive intervals within 100 ns, the time of the last Sync, the master (R441); the last congestion period (R438). -/
structure Dailies where
  qps : List (Nat × Qp)
  trackers : List Tracker
  nextTrk : Nat
  held : List DlyHeld
  lastBinding : Vector Nat 2
  lastQp : Vector Nat 2
  ptpGood : Nat
  ptpAt : Nat
  ptpMaster : Nat
  ptp : Ptp
  ccAt : Nat
deriving DecidableEq, Repr

/-- The dailies after reset. -/
def Dailies.reset : Dailies :=
  { qps := [], trackers := [], nextTrk := 0, held := [], lastBinding := Vector.replicate 2 0, lastQp := Vector.replicate 2 0, ptpGood := 0, ptpAt := 0,
    ptpMaster := 0, ptp := Ptp.reset, ccAt := 0 }

/-! The dictionary, DAP and the director. -/

/-- Where a dictionary access comes from (R478): mailbox m (64: the JTAG mailbox), or a DAP transaction. -/
inductive DictSrc where
  | mailbox (m : Nat)
  | dap (client tid : Nat)
deriving DecidableEq, Repr

/-- An access completely received (R478, R491, R500): node is 0 or the crew node to proxy to. -/
structure DictReq where
  src : DictSrc
  write : Bool
  ix : Nat
  sub : Nat
  flags : Nat
  node : Nat
  data : List Byte
deriving DecidableEq, Repr

/-- A mailbox (R500): its header fields and its data buffer. -/
structure Mailbox where
  status : Nat
  index : Nat
  sub : Nat
  flags : Nat
  node : Nat
  length : Nat
  resultLen : Nat
  abort : Nat
  data : List (Nat × Byte)
deriving DecidableEq, Repr

/-- An open DAP transaction (R493-R495): the request's fields, the bytes received or to send, the segment number expected or to send
next, the start of the block, how many BLOCK_ACKs in a row named one number, the phase (0 at the dictionary engine, 1 receiving
segments, 2 sending segments), the time of its last frame, and since when its client waits for an answer. -/
structure DapTx where
  client : Nat
  tid : Nat
  cmd : Nat
  ix : Nat
  sub : Nat
  flags : Nat
  node : Nat
  size : Nat
  data : List Byte
  next : Nat
  block : Nat
  same : Nat
  phase : Nat
  at_ : Nat
  since : Nat
deriving DecidableEq, Repr

/-- A proxied access at the director (R502): whether its request has been sent to the crew node, and since when it waits. -/
structure Proxy where
  req : DictReq
  sent : Bool
  at_ : Nat
deriving DecidableEq, Repr

/-- A held value (R476): the object, the value, the interface of the write, and whether it is a committed ST value. -/
structure Held where
  ix : Nat
  sub : Nat
  val : List Byte
  via : Iface
  st : Bool
deriving DecidableEq, Repr

/-- The dictionary engine and the DAP server: mailboxes that have been used, accesses in the order received, transactions, proxied
accesses, held values, the staged set (every staged value that differs from its default), and the end of the trial period. -/
structure Dict where
  mbox : List (Nat × Mailbox)
  queue : List DictReq
  txs : List DapTx
  proxies : List Proxy
  held : List Held
  staged : List (Nat × Nat)
  trialEnd : Option Nat
deriving DecidableEq, Repr

/-- The director logic (R498, R502-R504, R532, R534): when a frame of node 0 was last heard and the MODULE of its last heartbeat, when this
module's last heartbeat was sent, when each crew node was heard, the crew event ring, the beacon's sequence number, the timecode at
the previous beacon and its time; the beacon last received (sequence number and local timecode). -/
structure Director where
  heard : Nat
  module : Nat
  hbAt : Option Nat
  crewAt : List (Nat × Nat)
  crewLog : List (List Byte)
  beaconSeq : Nat
  beaconTc : Nat
  beaconAt : Option Nat
  rxBeacon : Option (Nat × Nat)
deriving DecidableEq, Repr

/-! Flash, boot, power, security. -/

/-- A cut in a slot (R481, R484): number, state (1 TRIAL, 2 CONFIRMED, 3 TRIAL_EXPIRED, 4 REJECTED), whether it has been booted, and
the values that differ from the defaults. -/
structure Cut where
  num : Nat
  state : Nat
  booted : Bool
  vals : List (Nat × Nat)
deriving DecidableEq, Repr

/-- The on-module flash beside the objects kept in it: the two cut slots and the slot in effect (none: cut 0), SHUTDOWN_LOG (R559), and
the bytes of the image slots that are not erased (R565, R568; none: the image of manufacture, log entry 36). -/
structure Flash where
  slots : Vector (Option Cut) 2
  cur : Option (Fin 2)
  shutdowns : List (List Byte)
  image : Vector (Option (List (Nat × Byte))) 2
deriving DecidableEq, Repr

/-- Start-up (R524-R531, R593, R594): when S0 began, the ms at the end of each step that has ended, by step, when S3 ended, whether S4 to S6 have ended; the
kind of reset that boots (0 power-on, 1 module, 2 warm, 3 wake from STANDBY; 4 OFF, 5 only the always-on island powered); the unit that failed S4 or S5; a requested reset with its
time; MOD_RESET_N and PERST_N low; the latched CAN_TERM_N strap (R593); the SVN of the image that was booted (R567, R568). -/
structure Boot where
  startAt : Nat
  times : List (Nat × Nat)
  s3At : Nat
  s5 : Bool
  s6 : Bool
  kind : Nat
  failed : Option Nat
  due : Option (Nat × Nat)
  held : Bool
  perst : Bool
  canTerm : Bool
  svn : Nat
deriving DecidableEq, Repr

/-- Clocks, power and thermal (R541-R561): the power transition under way (state asked for, cause, since when); the limiter's target, since
when P100 has been above POWER_LIMIT and below its release, its last raise, its episode (0 none, 1 limited, 2 at 600 MHz); per die the
thermal target, its last change and whether an episode runs; per die the samples in a row at SHUTDOWN_TJ; per stack whether its
rates are halved; COOLANT_WARN reported; the P100 of the last second, newest first, and a tenth of a mJ count; a protective shutdown's
cause (R559); the powered seconds of protective shutdowns; a refused recovery; per island the
source before a switch and its start, and failed locks in a row. -/
structure Power where
  want : Option (Nat × Nat × Nat)
  target : Nat
  above : Option Nat
  below : Option Nat
  raised : Nat
  limited : Nat
  thermal : Vector Nat 4
  thermalAt : Vector Nat 4
  throttled : Vector Bool 4
  hot : Vector Nat 6
  hbmHot : Vector Bool 12
  coolant : Bool
  pins : List Nat
  energy : Nat
  prot : Option Nat
  protAt : List Nat
  refused : Bool
  pll : Vector (Option (Nat × Nat)) 24
  pllFails : Vector Nat 24
deriving DecidableEq, Repr

/-- Security and debug (R566, R570, R573, R579): the challenges drawn and the value of SEC_CHALLENGE, a held debug request (level, partition, duration, by a token,
interface), the end of the session and whether a token opened it; the instruction register and the loaded data of the TAP. -/
structure Security where
  challenge : Nat
  challengeVal : Nat
  held : Option (Nat × Nat × Nat × Bool × Iface)
  ends : Option Nat
  token : Bool
  ir : Nat
  dr : Nat
deriving DecidableEq, Repr

/-- Fuses (R507, R564): SERIAL_NUMBER and the digests of the public keys of slots 0 to 3. -/
structure Fuses where
  serial : Nat
  keys : Vector (List Byte) 4
deriving DecidableEq, Repr

/-- The dictionary after reset. -/
def Dict.reset : Dict := { mbox := [], queue := [], txs := [], proxies := [], held := [], staged := [], trialEnd := none }
/-- The director logic after reset. -/
def Director.reset : Director :=
  { heard := 0, module := 0xFFFFFFFF, hbAt := none, crewAt := [], crewLog := [], beaconSeq := 0, beaconTc := 0, beaconAt := none, rxBeacon := none }
/-- Flash of a part that has never been written (log entry 4). -/
def Flash.reset : Flash := { slots := Vector.replicate 2 none, cur := none, shutdowns := [], image := Vector.replicate 2 none }
/-- Start-up at S0. -/
def Boot.reset : Boot :=
  { startAt := 0, times := [], s3At := 0, s5 := false, s6 := false, kind := 0, failed := none, due := none, held := false, perst := false, canTerm := false, svn := 0 }
/-- Clocks and power after reset. -/
def Power.reset : Power :=
  { want := none, target := 1800, above := none, below := none, raised := 0, limited := 0, thermal := Vector.replicate 4 1800,
    thermalAt := Vector.replicate 4 0, throttled := Vector.replicate 4 false, hot := Vector.replicate 6 0, hbmHot := Vector.replicate 12 false,
    coolant := false, pins := [], energy := 0, prot := none, protAt := [], refused := false, pll := Vector.replicate 24 none,
    pllFails := Vector.replicate 24 0 }
/-- Security after reset. -/
def Security.reset : Security := { challenge := 0, challengeVal := Config.challenge 0, held := none, ends := none, token := false, ir := 1, dr := 0 }
/-- The fuses of one part: free values. -/
def Fuses.reset : Fuses := { serial := Config.serialNumber, keys := Vector.ofFn fun k => Config.keyDigest k.val }

/-! The module. -/

/-- The state of the module. meshHits: the granules whose data a mesh link has hit on their way (R20): unit, whether it writes them, and granule. -/
structure State where
  pending : List Instr
  now : Nat
  fresh : Nat
  outs : List Out
  tc : Nat
  obj : List (Nat × Nat)
  mem : List Host.Cell
  pz : List (Nat × Bool)
  cl : Vector Cluster 8
  clapVal : List (Nat × Word)
  clapPz : List (Nat × Bool)
  waiters : List Waiter
  freed : List Who
  clapOps : List ClapMsg
  clapRes : List (Fin 8 × Nat × Word × Nat)
  hf : Vector HostFn 8
  faults : List FaultRep
  evlog : List EvRec
  logs : Logs
  unsync : Bool
  reqs : List Req
  tm : TimeSt
  fab : Fabric
  coll : Coll
  reg : Regulator
  digestQ : List (Fin 8 × Nat)
  dly : Dailies
  dict : Dict
  dir : Director
  flash : Flash
  boot : Boot
  pow : Power
  sec : Security
  fuses : Fuses
  meshHits : List (Nat × Bool × Nat)
deriving DecidableEq, Repr

/-- Reasons to stop. The module answers every command with a next state, so no meaning faults: the spec describes what each
fault of the part leaves behind. -/
inductive Fault where
  | none
deriving DecidableEq, Repr

/-- Refusals: `notModelled` stands for a command that has no meaning yet (safe: the run stops). -/
inductive Refusal where
  | notModelled (mnemonic : String)
deriving DecidableEq, Repr

/-! Reset. -/

/-- A clapper request with no content. -/
def ClapReq.empty : ClapReq := { op := 0, target := 0, val := 0, cmp := 0, rd := 0 }
/-- A range register after reset (R91, R94). -/
def RangeReg.reset : RangeReg := { amax := [], valid := false, gran := 0, cold := true }
/-- An unconfigured register or plane (R160). -/
def TReg.reset : TReg := { fmt := 0, rows := 0, cols := 0, draw := 0, el := [], poison := [] }
/-- A control core before its first take (log entry 4). -/
def Core.reset : Core :=
  { x := Vector.replicate 32 0, pc := 0, cyc := 0, instret := 0, status := .stopped, resv := none, awaits := [],
    wstores := [], halted := false, step := false }
/-- A cluster after reset. -/
def Cluster.reset : Cluster :=
  { core := Core.reset, clm := [], clmDraw := 0, nextId := 0, mq := [], vq := [], yq := [], sq := Vector.replicate 4 [], flights := [],
    reg := Vector.replicate 10 TReg.reset, mma := [], progs := [], drainBuf := Vector.replicate 2 none, sendBuf := [], sendStall := [],
    streams := Vector.replicate 4 none, reels := Vector.replicate 32 { resv := [], claims := [] },
    rr := Vector.replicate 16 RangeReg.reset, egress := [] }
/-- A host function after reset (R529). -/
def HostFn.reset : HostFn :=
  { tail := Vector.replicate 4 0, head := Vector.replicate 4 0, fetching := Vector.replicate 4 false,
    fetched := Vector.replicate 4 none, rr := 0, gate := none, run := none, compl := [], cqHead := 0,
    cqTail := 0, phase := true, cqFresh := true, lastTake := 0, refusedAt := [], msix := [] }

/-- The logs with no history. -/
def Logs.reset : Logs :=
  { incidents := [], cont := [], flashMinute := 0, flashCount := 0, contLostAt := none, evSecond := 0, evSent := 0,
    stamps := [] }

/-- The module right after reset: every object at its default and the image slots VALID (log entry 36), nothing queued, nothing running, memory empty. -/
def State.reset : State :=
  { pending := [], now := 0, fresh := 0, outs := [], tc := 0, obj := [(okey 0x8020 1, 1), (okey 0x8020 2, 1)], mem := [], pz := [],
    cl := Vector.replicate 8 Cluster.reset, clapVal := [], clapPz := [], waiters := [], freed := [], clapOps := [], clapRes := [],
    hf := Vector.replicate 8 HostFn.reset, faults := [], evlog := [], logs := Logs.reset, unsync := true, reqs := [], tm := TimeSt.reset, fab := Fabric.reset,
    coll := Coll.reset, reg := Regulator.reset, digestQ := [], dly := Dailies.reset, dict := Dict.reset, dir := Director.reset,
    flash := Flash.reset, boot := Boot.reset, pow := Power.reset, sec := Security.reset, fuses := Fuses.reset, meshHits := [] }

end Sys2Proof.Machine
end

