-- ==== Sys2Proof/Machine/Ops.lean ====
section
/-! DEFINITION. Machine/Ops.lean: the named operations over the state: objects, clusters, memory with poison (R119-R126),
addresses (R119, R120), protection regions (R577), time and free values. -/

namespace Sys2Proof.Machine

/-- A vector with element i replaced. -/
def vset {A : Type} {n : Nat} (v : Vector A n) (i : Fin n) (a : A) : Vector A n := v.set i.val a i.isLt
/-- A vector with f applied to element i. -/
def vmod {A : Type} {n : Nat} (v : Vector A n) (i : Fin n) (f : A → A) : Vector A n := vset v i (f v[i])
/-- The elements of `Fin n`, in order. -/
def fins (n : Nat) : List (Fin n) := List.finRange n

/-! Objects of the dictionary: the values in effect. -/

/-- The value in effect of the object (ix, sub). -/
def oget (s : State) (ix sub : Nat) : Nat := mget (objDefault ix sub) s.obj (okey ix sub)
/-- The state with the object (ix, sub) at v. -/
def oset (s : State) (ix sub v : Nat) : State := { s with obj := mset (objDefault ix sub) s.obj (okey ix sub) v }
/-- The largest value of an object's type. -/
def objMax (ix sub : Nat) : Nat :=
  match objRow ix sub with
  | some r => 256 ^ r.ty.size - 1
  | none => 0
/-- A counter object raised by d; it stops at its largest value (R154, R469). -/
def obump (s : State) (ix sub d : Nat) : State := oset s ix sub (min (oget s ix sub + d) (objMax ix sub))
/-- An object of cluster c: the cluster objects lie 0x100 apart (R68). -/
def cobj (c : Fin 8) (ix : Nat) : Nat := ix + 0x100 * c.val
/-- The value of a cluster object. -/
def cget (s : State) (c : Fin 8) (ix sub : Nat) : Nat := oget s (cobj c ix) sub
/-- The state with a cluster object at v. -/
def cset (s : State) (c : Fin 8) (ix sub v : Nat) : State := oset s (cobj c ix) sub v
/-- A cluster's counter raised by d. -/
def cbump (s : State) (c : Fin 8) (ix sub d : Nat) : State := obump s (cobj c ix) sub d

/-! Clusters, partitions, modes. -/

/-- The state with f applied to cluster c. -/
def modC (s : State) (c : Fin 8) (f : Cluster → Cluster) : State := { s with cl := vmod s.cl c f }
/-- The state with f applied to the control core of cluster c. -/
def modCore (s : State) (c : Fin 8) (f : Core → Core) : State := modC s c (fun k => { k with core := f k.core })
/-- The state with f applied to host function p. -/
def modF (s : State) (p : Fin 8) (f : HostFn → HostFn) : State := { s with hf := vmod s.hf p f }

/-- A natural number as a cluster or partition number. -/
def toFin8 (n : Nat) : Fin 8 := ⟨n % 8, Nat.mod_lt _ (by decide)⟩
/-- The partition of a cluster (R32). -/
def partOf (s : State) (c : Fin 8) : Fin 8 := toFin8 (cget s c 0x4001 0)
/-- The clusters of a partition. -/
def clustersOf (s : State) (p : Fin 8) : List (Fin 8) := (fins 8).filter (fun c => partOf s c == p)
/-- The running take of a partition. -/
def takeOf (s : State) (p : Fin 8) : Option TakeRun := s.hf[p].run
/-- The identifier of the take of cluster c, 0 if none runs. -/
def takeId (s : State) (c : Fin 8) : Nat := match takeOf s (partOf s c) with
  | some t => t.ent.id
  | none => 0
/-- CHECK_MODE in effect (R445): 0 OFF, 1 CHECKED, 2 PAIRED. -/
def checkMode (s : State) : Nat := oget s 0x7001 0
/-- The module runs in PAIRED mode (R445). -/
def paired (s : State) : Bool := checkMode s == 2
/-- The leader of the pair of cluster c: the lower cluster number (R447). -/
def leader (c : Fin 8) : Fin 8 := toFin8 (c.val / 2 * 2)
/-- The other cluster of the pair. -/
def mirrorOf (c : Fin 8) : Fin 8 := toFin8 (if c.val % 2 = 0 then c.val + 1 else c.val - 1)
/-- MODULE_NUMBER in effect (R28). -/
def modNum (s : State) : Nat := oget s 0x1010 0
/-- The module has no number (R4). -/
def unnumbered (s : State) : Bool := modNum s == 0xFFFFFF
/-- The module is DRAINED (R469). -/
def drained (s : State) : Bool := oget s 0x7002 0 == 1
/-- CLUSTER_STATE (R68). -/
def clusterState (s : State) (c : Fin 8) : Nat := cget s c 0x4002 0
/-- Takes, launches and shipping orders may start (R549, R574): ACTIVE or IDLE, no entry to PARK or STANDBY under way, and no debug session
of level 3 open or held. -/
def mayStart (s : State) : Bool :=
  decide (oget s 0x2001 0 ≤ 1) && s.pow.want.isNone && oget s 0x8010 0 != 3 && !s.sec.held.any (fun h => h.1 == 3)
/-- JOB_KEY of a partition (R577). -/
def jobKey (s : State) (p : Fin 8) : Nat := oget s 0x8030 (p.val + 1)

/-! The cut in effect (R480-R487). -/

/-- The slot that does not hold the cut in effect. -/
def otherSlot (s : State) : Fin 2 := match s.flash.cur with
  | some i => if i = 0 then 1 else 0
  | none => 0
/-- The cut in effect, none for cut 0. -/
def curCut (s : State) : Option Cut := s.flash.cur.bind (fun i => s.flash.slots[i])
/-- The cut that a ROLLBACK or an abandonment would take: the valid cut of the previous slot, unless it is REJECTED. -/
def prevCut (s : State) : Option (Fin 2 × Cut) :=
  match s.flash.cur with
  | none => none
  | some _ =>
    let i := otherSlot s
    match s.flash.slots[i] with
    | some c => if c.state = 4 then none else some (i, c)
    | none => none
/-- CUT_NUMBER (R483, R506): 0 for the defaults. -/
def cutNumber (s : State) : Nat := ((curCut s).map (fun c => c.num)).getD 0

/-! Free values. -/

/-- The next free value, and the state that has drawn it (log entry 5). -/
def draw (s : State) : Nat × State := (Config.free s.fresh, { s with fresh := s.fresh + 1 })

/-! Addresses (R119-R121). -/

/-- What a local address is (R119). -/
inductive Region where
  | hbm (stack : Nat) | sp (c : Fin 8) | clap (n : Nat) | dict | none
deriving DecidableEq, Repr

/-- The base of the scratchpad of cluster c. -/
def spBase (c : Fin 8) : Nat := 0x10000000000 + c.val * 0x8000000
/-- The size of a scratchpad, 128 MiB. -/
def spSize : Nat := 0x8000000
/-- The size of the HBM, 192 GiB. -/
def hbmSize : Nat := 0x3000000000
/-- The base of the clapper range. -/
def clapBase : Nat := 0x20000000000
/-- The base of the dictionary window. -/
def dictBase : Nat := 0x30000000000

/-- The region of a local address (R119). -/
def region (a : Nat) : Region :=
  if a < hbmSize then .hbm (a / 0x400000000)
  else if 0x10000000000 ≤ a ∧ a < 0x10040000000 then .sp (toFin8 ((a - 0x10000000000) / spSize))
  else if clapBase ≤ a ∧ a < clapBase + 0x100000 then .clap ((a - clapBase) / 64)
  else if dictBase ≤ a ∧ a < dictBase + 0x4000000 then .dict
  else .none

/-- The local part of a global address (R120). -/
def localPart (g : Nat) : Nat := g % 2 ^ 48
/-- The module part of a global address (R120). -/
def modulePart (g : Nat) : Nat := bits g 48 15
/-- A global address names this module: its number, or any while unnumbered (R120). -/
def isLocal (s : State) (g : Nat) : Bool := unnumbered s || modulePart g == modNum s
/-- A module number lies in the torus of the module (R24). -/
def validModule (s : State) (m : Nat) : Bool :=
  decide (m < 32768) && decide (m % 32 < oget s 0x1011 1) && decide (m / 32 % 32 < oget s 0x1011 2) &&
    decide (m / 1024 < oget s 0x1011 3)
/-- The bytes [a, a + n) lie in the HBM. -/
def inHbm (a n : Nat) : Bool := decide (a + n ≤ hbmSize)
/-- The bytes [a, a + n) lie in the scratchpad of cluster c. -/
def inSp (c : Fin 8) (a n : Nat) : Bool := decide (spBase c ≤ a) && decide (a + n ≤ spBase c + spSize)
/-- The bytes [a, a + n) lie in HBM or in one scratchpad. -/
def inMem (a n : Nat) : Bool := inHbm a n || (fins 8).any (fun c => inSp c a n)

/-! Protection regions (R577). -/

/-- An access of [a, a + n) on behalf of job key k with the right of PERM bit b. -/
def protKey (s : State) (k a n b : Nat) : Bool :=
  decide (k ≠ 0) && (List.range 128).any (fun r =>
    decide (oget s (0x8100 + r) 3 = k) && decide (oget s (0x8100 + r) 1 ≤ a) && decide (a + n ≤ oget s (0x8100 + r) 2) &&
      bit (oget s (0x8100 + r) 4) b)
/-- A local read (write) of [a, a + n) by a take of partition p. -/
def protOk (s : State) (p : Fin 8) (a n : Nat) (write : Bool) : Bool := protKey s (jobKey s p) a n (if write then 1 else 0)

/-! Memory with poison per 64-byte granule (R123, R126). An unlisted byte reads 0 (log entry 6). -/

/-- The byte at local address a. -/
def rdByte (s : State) (a : Nat) : Byte := mget 0 s.mem a
/-- The n bytes at a. -/
def rdBytes (s : State) (a : Nat) : Nat → List Byte
  | 0 => []
  | n + 1 => rdByte s a :: rdBytes s (a + 1) n
/-- The unsigned little-endian value of the n bytes at a. -/
def rdLE (s : State) (a n : Nat) : Nat := ofLE (rdBytes s a n)
/-- The granule of a is poisoned. -/
def granBad (s : State) (g : Nat) : Bool := mget false s.pz g
/-- Some granule of [a, a + n) is poisoned. -/
def anyBad (s : State) (a n : Nat) : Bool :=
  decide (n ≠ 0) && (List.range ((a + n - 1) / 64 - a / 64 + 1)).any (fun i => granBad s (a / 64 + i))
/-- The n bytes at a, each with its granule's poison. -/
def rdMarked (s : State) (a n : Nat) : List (Byte × Bool) :=
  (List.range n).map (fun i => (rdByte s (a + i), granBad s ((a + i) / 64)))
/-- The memory after the bytes l are written from a up. -/
def memPut : List Host.Cell → Nat → List Byte → List Host.Cell
  | m, _, [] => m
  | m, a, b :: t => memPut (mset 0 m a b) (a + 1) t
/-- The poison of granule g after marked bytes l are written at a: the bits that arrive with a whole granule replace its
poison; a partial write keeps it (R123, R126). -/
def granAfter (s : State) (a : Nat) (l : List (Byte × Bool)) (g : Nat) : Bool :=
  let lo := max a (g * 64)
  let hi := min (a + l.length) (g * 64 + 64)
  ((l.drop (lo - a)).take (hi - lo)).any (fun x => x.2) || (decide (hi - lo < 64) && granBad s g)
/-- The state after the marked bytes l are written at local address a. -/
def wrMarked (s : State) (a : Nat) (l : List (Byte × Bool)) : State :=
  let n := l.length
  if n = 0 then s else
  let gs := (List.range ((a + n - 1) / 64 - a / 64 + 1)).map (fun i => a / 64 + i)
  { s with mem := memPut s.mem a (l.map (fun x => x.1)),
           pz := gs.foldl (fun m g => mset false m g (granAfter s a l g)) s.pz }
/-- The state after the bytes l are written at local address a, unpoisoned. -/
def wrBytes (s : State) (a : Nat) (l : List Byte) : State := wrMarked s a (l.map (fun b => (b, false)))

/-- The address that cluster c's own access to local address a reaches: in PAIRED mode the scratchpads of its pair are its own
(R448). -/
def ownAddr (s : State) (c : Fin 8) (a : Nat) : Nat :=
  if paired s then
    match region a with
    | .sp d => if leader d = leader c then spBase c + (a - spBase d) else if d = leader d then a else spBase (leader d) + (a - spBase d)
    | _ => a
  else a
/-! Data on its way over the mesh (R20): a granule that a link has hit arrives poisoned at the unit that reads it, or at the memory that it writes. -/

/-- Granule g on its way from (to, if w) memory, read (written) by unit u, has been hit. -/
def hitAt (s : State) (u : Nat) (w : Bool) (g : Nat) : Bool := s.meshHits.contains (u, w, g)
/-- The n bytes at a as they arrive at unit u. -/
def rdMesh (s : State) (u a n : Nat) : List (Byte × Bool) :=
  (rdMarked s a n).zipIdx.map (fun x => (x.1.1, x.1.2 || hitAt s u false ((a + x.2) / 64)))
/-- Some granule of [a, a + n) arrives poisoned at unit u. -/
def anyMesh (s : State) (u a n : Nat) : Bool :=
  anyBad s a n || s.meshHits.any (fun h => h.1 == u && !h.2.1 && decide (n ≠ 0) && decide (a / 64 ≤ h.2.2) && decide (h.2.2 ≤ (a + n - 1) / 64))
/-- The hit granules of [a, a + n) have arrived. -/
def meshDone (s : State) (u : Nat) (w : Bool) (a n : Nat) : State :=
  { s with meshHits := s.meshHits.filter (fun h => !(h.1 == u && h.2.1 == w && decide (n ≠ 0) && decide (a / 64 ≤ h.2.2) && decide (h.2.2 ≤ (a + n - 1) / 64))) }
/-- The bytes l that unit u writes at a, as they arrive. -/
def meshMarked (s : State) (u a : Nat) (l : List (Byte × Bool)) : List (Byte × Bool) :=
  if s.meshHits.isEmpty then l else l.zipIdx.map (fun x => (x.1.1, x.1.2 || hitAt s u true ((a + x.2) / 64)))
/-- The state after unit u has written the marked bytes l at a. -/
def wrMesh (s : State) (u a : Nat) (l : List (Byte × Bool)) : State := meshDone (wrMarked s a (meshMarked s u a l)) u true a l.length

/-- The regulator with the values in force and every bucket full, as after a reset (R149). -/
def fullBuckets (s : State) : State :=
  { s with reg := { rate := Vector.ofFn (fun c => oget s 0x3030 (c.val + 1)), depth := Vector.ofFn (fun c => oget s 0x3031 (c.val + 1)),
                    borrow := Vector.ofFn (fun c => oget s 0x3032 (c.val + 1) == 1), tokens := [], held := [], wait := [] } }

/-- The address that a unit outside the clusters reads for a: a pair's scratchpad is served from the leader (R448). -/
def outerAddr (s : State) (a : Nat) : Nat :=
  if paired s then
    match region a with
    | .sp d => spBase (leader d) + (a - spBase d)
    | _ => a
  else a
/-- A write by a unit outside the pair: in PAIRED mode performed in both clusters of a scratchpad's pair (R448). -/
def wrOuter (s : State) (a : Nat) (l : List (Byte × Bool)) : State :=
  if paired s then
    match region a with
    | .sp d => wrMarked (wrMarked s (spBase d + (a - spBase d)) l) (spBase (mirrorOf d) + (a - spBase d)) l
    | _ => wrMarked s a l
  else wrMarked s a l
/-- A write by unit u outside the pair, as it arrives. -/
def wrOuterMesh (s : State) (u a : Nat) (l : List (Byte × Bool)) : State := meshDone (wrOuter s a (meshMarked s u a l)) u true a l.length

/-! Clappers (R294-R296, R308). -/

/-- The value of clapper n. -/
def clapGet (s : State) (n : Nat) : Word := mget 0 s.clapVal n
/-- The poison bit of clapper n. -/
def clapBad (s : State) (n : Nat) : Bool := mget false s.clapPz n
/-- The home cluster of clapper n (R294). -/
def clapHome (n : Nat) : Fin 8 := toFin8 (n / 2048)
/-- The local address of the block of clapper n (R295). -/
def clapAddr (n : Nat) : Nat := clapBase + 64 * n
/-- The value after operation op of R307 with operands x and c on v (R296). -/
def clapApply (op : Nat) (v x c : Word) : Word :=
  match op with
  | 1 => x
  | 2 => v + x
  | 3 => if v.toNat < x.toNat then x else v
  | 4 => v + x
  | 5 => x
  | 6 => if v = c then x else v
  | _ => v
/-- The operation returns the old value (R296). -/
def clapReturns (op : Nat) : Bool := op == 0 || op == 4 || op == 5 || op == 6

/-! Time (R311). -/

/-- The timecode of the module: the master's. -/
def tcNow (s : State) : Nat := s.tc
/-- The timecode that the replica of island i reads (R311). -/
def tcAt (s : State) (i : Nat) : Nat := s.tc + ((s.tm.rep[i]?).map (fun x => x.1)).getD 0
/-- A time in microseconds has passed since t. -/
def elapsedUs (s : State) (t us : Nat) : Bool := decide (t + us * 1000 ≤ s.now)

end Sys2Proof.Machine
end

