-- ==== Sys2Proof/Machine/Events.lean ====
section
/-! DEFINITION. Machine/Events.lean: event records (R8-R12, R466), EVENT frames (R496), MSI-X messages of events (R522),
continuity records (R462-R465) and the incident history (R456). -/

namespace Sys2Proof.Machine

/-- A payload: each (byte position, value) of the record, positions 16 to 63, little-endian (R8). -/
def payOf (l : List (Nat × Nat)) : Nat := l.foldl (fun a x => a + x.2 * 256 ^ (x.1 - 16)) 0
/-- A signed value as n bytes. -/
def i2n (n : Nat) (x : Int) : Nat := wrapN (8 * n) x
/-- The SOURCE of a unit (R4): the module number in [31:8]. -/
def sourceOf (s : State) (unit : Nat) : Nat := (modNum s % 2 ^ 24) * 256 + unit
/-- The 64 bytes of a record (R8). -/
def recBytes (r : EvRec) : List Byte := toLE 8 r.tc ++ toLE 4 r.src ++ toLE 2 r.code ++ toLE 2 r.flags ++ toLE 48 r.pay

/-! Units (R310, R14, R21). -/

/-- The die of a unit (R14): 0-3 D0-D3, 4 N, 5 S. Of a mesh link that joins two dies it is the lower compute die, die N or S where the link ends there,
and N for L11; the input power stage and the thermal monitor count to die N (DESIGN CHOICE, log entry 82). -/
def dieOf (unit : Nat) : Nat :=
  if unit < 0x80 then unit / 16 / 2
  else if unit = 0x81 ∨ unit = 0x83 ∨ (0x8B ≤ unit ∧ unit ≤ 0x8D) ∨ unit = 0x8F then 5
  else if unit < 0x90 then 4
  else if unit < 0xA0 then (unit - 0x90) / 3
  else if unit < 0xA3 then unit - 0xA0
  else if unit < 0xA7 then 4
  else if unit < 0xAB then 5
  else if unit = 0xAB then 4
  else if unit < 0xB0 then 4
  else if unit < 0xB6 then unit - 0xB0
  else if 0xD8 ≤ unit ∧ unit ≤ 0xDB then unit - 0xD8
  else if 0xDC ≤ unit ∧ unit ≤ 0xDF then unit - 0xDC
  else if unit = 0xE1 ∨ unit = 0xE3 then 5
  else 4
/-- The suspect lies in die N or S, with the links L3-L11 and island 20 (R31). -/
def inIoDie (unit : Nat) : Bool :=
  decide (4 ≤ dieOf unit) && decide (unit ≠ 0xFF)
/-- The island of a unit (R21): of a mesh link, that of the die `dieOf` names (DESIGN CHOICE, log entry 82). -/
def islandOf (unit : Nat) : Nat :=
  if unit < 0x80 then unit / 16
  else if unit = 0x80 ∨ unit = 0x84 ∨ unit = 0x85 then 16
  else if unit = 0x81 then 17
  else if unit = 0x82 ∨ unit = 0x83 ∨ unit = 0x8E ∨ unit = 0x8F then 20
  else if unit ≤ 0x8A then 18
  else if unit ≤ 0x8D then 19
  else if unit < 0xA0 then 12 + (unit - 0x90) / 3
  else if unit < 0xA3 then 8 + (unit - 0xA0)
  else if unit < 0xA7 ∨ unit = 0xAB then 16
  else if unit < 0xB0 then 17
  else if unit < 0xB4 then 8 + (unit - 0xB0)
  else if unit = 0xB4 then 16
  else if unit = 0xB5 then 17
  else if unit = 0xC0 then 21
  else if 0xC1 ≤ unit ∧ unit ≤ 0xC6 then 22
  else if 0xD8 ≤ unit ∧ unit ≤ 0xE7 then unit - 0xD0
  else 23

/-- The timecode that a unit stamps next: strictly above its previous one (R312). -/
def stampTc (s : State) (unit : Nat) : Nat :=
  match mfind s.logs.stamps unit with
  | some t => max (tcAt s (islandOf unit)) (t + 1)
  | none => tcAt s (islandOf unit)
/-- The state after a unit has stamped t. -/
def stamped (s : State) (unit t : Nat) : State :=
  { s with logs := { s.logs with stamps := mput s.logs.stamps unit t } }

/-- DAP_NODE in effect: its default is BOARD_SLOT + 1 (R507). -/
def dapNode (s : State) : Nat := if oget s 0x1200 0 = 0 then oget s 0x1012 1 + 1 else oget s 0x1200 0
/-- The module holds the director role, strapped (1) or acting (2) (R532). -/
def isDirector (s : State) : Bool := oget s 0xA020 0 != 0
/-- The node number the module answers as: a director answers as node 0 (R489). -/
def myNode (s : State) : Nat := if isDirector s then 0 else dapNode s
/-- DAP is up: DAP_STATE is error-active or error-passive (R499). -/
def dapUp (s : State) : Bool := oget s 0x1206 0 == 1 || oget s 0x1206 0 == 2
/-- The state after a CAN frame is sent, and counted in DAP_COUNTERS (R490, R507). -/
def sendCan (s : State) (id : Nat) (data : List Byte) : State :=
  if dapUp s then obump { s with outs := s.outs ++ [Out.can id data] } 0x1205 1 1 else s

/-- A range mask selects a code: bit k selects 0x0k00-0x0kFF, bit 0 also the engine faults (R496). -/
def maskSelects (mask code : Nat) : Bool := bit mask (code / 256)

/-- A logged record goes out as an EVENT frame when the mask and the rate allow; MODULE_DRAINED and CUT_ABANDONED always do
(R496). -/
def eventFrame (s : State) (r : EvRec) : State :=
  let sec := s.now / 1000000000
  let sent := if s.logs.evSecond = sec then s.logs.evSent else 0
  let always := r.code == 0x0604 || r.code == 0x0706
  if dapUp s && (always || (maskSelects (oget s 0x1202 0) r.code && decide (sent < oget s 0x1203 0))) then
    sendCan { s with logs := { s.logs with evSecond := sec, evSent := sent + 1 } } (0x100 + myNode s) (recBytes r)
  else obump s 0x1205 5 1

/-- MSI-X vector v of function p (R522). -/
def msix (s : State) (p : Fin 8) (v : Nat) : State := { s with outs := s.outs ++ [Out.msix p.val v] }
/-- Vector 2 on the functions whose HOST_EVENT_MASK selects the record, and always for MODULE_DRAINED, HOST_QUEUE_ERROR and
DIRECTOR_ROLE (R522). -/
def eventMsix (s : State) (code : Nat) : State :=
  (fins 8).foldl (fun s p =>
    if code == 0x0604 || code == 0x0802 || code == 0x0806 || maskSelects (oget s (0x9100 + p.val) 0x0C) code then msix s p 2
    else s) s

/-- The flags that the log itself sets: UNSYNC, DRAINED, LOST (R9). -/
def logFlags (s : State) (fl : Nat) (lost : Bool) : Nat :=
  fl ||| (if s.unsync then 1 else 0) ||| (if drained s then 4 else 0) ||| (if lost then 0x8000 else 0)

/-- The record written at a timecode that its unit has stamped (R8-R10, R466). -/
def logEvAt (s : State) (t unit code fl pay : Nat) : State :=
  let w := oget s 0x7020 0
  let lost := decide (1024 ≤ w) && decide (oget s 0x7021 0 ≤ w - 1024)
  let r : EvRec := { tc := t, src := sourceOf s unit, code := code, flags := logFlags s fl lost, pay := pay }
  let s1 := obump s 0x7020 0 1
  let s2 := if lost then obump s1 0x7022 0 1 else s1
  let s3 := { s2 with evlog := (s2.evlog ++ [r]).drop (s2.evlog.length + 1 - 1024) }
  eventMsix (eventFrame s3 r) code

/-- A unit logs an event now. -/
def logEv (s : State) (unit code fl pay : Nat) : State :=
  let t := stampTc s unit
  logEvAt (stamped s unit t) t unit code fl pay

/-! Incidents and continuity records. -/

/-- The incidents of one class and unit, newest first. -/
def incidentsOf (s : State) (cls unit : Nat) : List Incident :=
  (s.logs.incidents.filter (fun i => i.cls == cls && i.unit == unit)).reverse
/-- The incidents of a class and unit within SUSPECT_WINDOW of powered time. -/
def incidentCount (s : State) (cls unit : Nat) : Nat :=
  ((incidentsOf s cls unit).filter (fun i => decide (oget s 0x7007 0 ≤ i.sec + oget s 0x7011 0))).length
/-- The unit is suspect: its last L incidents of the class all fall within SUSPECT_WINDOW; a limit of 0 disables (R456). -/
def suspectNow (s : State) (cls unit : Nat) : Bool :=
  decide (oget s 0x7010 cls ≠ 0) && decide (oget s 0x7010 cls ≤ incidentCount s cls unit)
/-- The incident is added to the history, and SUSPECT_WARN is logged at L - 1 (R456). -/
def countIncident (s : State) (cls unit : Nat) : State :=
  let s1 := { s with logs := { s.logs with incidents := s.logs.incidents ++ [⟨cls, unit, oget s 0x7007 0⟩] } }
  let n := incidentCount s1 cls unit
  if n + 1 = oget s1 0x7010 cls then logEv s1 unit 0x0605 0 (payOf [(16, sourceOf s1 unit), (20, cls), (24, n)]) else s1

/-- The 16 bytes of a GUID: its first three parts little-endian, the last eight bytes as written. -/
def guid (d1 d2 d3 d4 : Nat) : List Byte := toLE 4 d1 ++ toLE 2 d2 ++ toLE 2 d3 ++ toBE 8 d4

/-- A continuity record (R463, R464): the CPER header, one section descriptor and the vendor section. The offsets of the
standard's fields are PRESUMED from UEFI appendix N (log entry 14). -/
def contRecord (s : State) (unit sev count flags take instr : Nat) (er : List Byte) : List Byte :=
  let isl := islandOf unit
  let head := "CPER".toUTF8.data.toList.map (fun b => BitVec.ofNat 8 b.toNat) ++ toLE 2 0x0101 ++ toLE 4 0xFFFFFFFF ++ toLE 2 1 ++
    toLE 4 sev ++ toLE 4 1 ++ toLE 4 328 ++ zeros 8 ++
    (toLE 4 (modNum s) ++ toLE 2 0x4C47 ++ toLE 2 0x4142 ++ toLE 8 s.fuses.serial) ++ zeros 16 ++
    guid 0x3E6A1D52 0x0C94 0x4B71 0xA8E25F0D7C19B364 ++ guid 0x7B42E8C0 0x91A5 0x4F3D 0xB6C720E4D8A1F957 ++
    toLE 8 (oget s 0x7030 0) ++ zeros 24
  let desc := toLE 4 200 ++ toLE 4 128 ++ toLE 2 0x0100 ++ zeros 2 ++ toLE 4 1 ++
    guid 0xC81F0B34 0x6D27 0x4E95 0x9A1CE37B5024D6A8 ++ zeros 16 ++ toLE 4 sev ++
    ("ODEUS AB1".toUTF8.data.toList.map (fun b => BitVec.ofNat 8 b.toNat)) ++ zeros 11
  let sect := er ++ zeros 8 ++ toLE 8 (oget s 0x7007 0) ++ toLE 4 count ++ toLE 4 (cutNumber s) ++ toLE 1 flags ++
    toLE 1 (checkMode s) ++ toLE 2 (oget s 0x2013 (isl + 1)) ++ toLE 2 (oget s 0x2042 0) ++
    toLE 2 (oget s 0x2040 (dieOf unit + 1)) ++ toLE 2 (oget s 0x2035 (isl + 1)) ++ toLE 2 (oget s 0x2030 0) ++ toLE 4 instr ++
    toLE 8 s.fuses.serial ++ toLE 8 take ++ zeros 8
  head ++ desc ++ sect

/-- A continuity record is stored: the last 256 in RAM, at most 16 a minute in flash; one that overwrites an unacknowledged
record is counted in CONT_LOST, logged at most once per 60 s (R465). -/
def storeCont (s : State) (bytes : List Byte) : State :=
  let minute := s.now / 60000000000
  let used := if s.logs.flashMinute = minute then s.logs.flashCount else 0
  let s1 := if used < 16 then { s with logs := { s.logs with flashMinute := minute, flashCount := used + 1 } }
    else obump s 0x7033 0 1
  let w := oget s1 0x7030 0
  let lost := decide (256 ≤ w) && decide (oget s1 0x7031 0 ≤ w - 256)
  let s2 := obump { s1 with logs := { s1.logs with cont := (s1.logs.cont ++ [(bytes, decide (used < 16))]).drop (s1.logs.cont.length + 1 - 256) } } 0x7030 0 1
  if lost then
    let s3 := obump s2 0x7032 0 1
    let due := match s3.logs.contLostAt with
      | some t => decide (t + 60000000000 ≤ s3.now)
      | none => true
    if due then logEv { s3 with logs := { s3.logs with contLostAt := some s3.now } } 0xC1 0x0608 0 (payOf [(16, oget s3 0x7032 0)])
    else s3
  else s2

/-- An event with its continuity record (R462): the record carries CONT, then the continuity record is stored. sev is its
severity, cls the class whose count it states (0 none), flags its FLAGS, take and instr as R464. -/
def logCont (s : State) (t unit code fl pay sev cls cflags take instr : Nat) : State :=
  let s1 := logEvAt s t unit code (fl ||| 8) pay
  let er := match s1.evlog.getLast? with
    | some r => recBytes r
    | none => zeros 64
  storeCont s1 (contRecord s1 unit sev (if cls = 0 then 0 else incidentCount s1 cls unit) cflags take instr er)

/-! Engine faults (R12, R58-R64). -/

/-- The unit number of an engine of a cluster (R310), or of a unit outside the clusters. -/
def faultUnit (f : FaultRep) : Nat :=
  if f.cluster < 8 then (if f.engine = 11 then 0x84 else 16 * f.cluster + f.engine)
  else if f.engine = 9 then 0x80 + f.sub else if f.engine = 10 then 0x82 + f.sub else 0x85
/-- The payload of an engine-fault record (R12): the digest engine lies outside the clusters (R310). -/
def faultPay (f : FaultRep) (take : Nat) : Nat :=
  payOf [(16, take), (24, f.part), (25, if f.engine = 11 then 0xFF else f.cluster), (26, f.engine), (28, f.detail), (32, f.addr), (40, f.pc)]
/-- The four DETAIL bytes 28 to 31. -/
def det (b28 b29 b30 b31 : Nat) : Nat := b28 + 256 * b29 + 65536 * b30 + 16777216 * b31
/-- A fault of a cluster's engine is raised: it is stamped now and set on its way to the take controller (R58, R63). -/
def raiseF (s : State) (f : FaultRep) : State :=
  let t := stampTc s (faultUnit f)
  { stamped s (faultUnit f) t with faults := s.faults ++ [{ f with time := t }] }
/-- The report of a fault of cluster c's engine on behalf of the operation issued at pc. -/
def repOf (s : State) (c : Fin 8) (engine pc instr code addr detail : Nat) : FaultRep :=
  { part := (partOf s c).val, code := code, time := 0, cluster := c.val, engine := engine, pc := pc, addr := addr,
    detail := detail, cold := false, instr := instr, cflags := 0 }

/-! Sticky flags (R79-R83). -/

/-- The flags fl are recorded in set i of cluster c (1 MATRIX, 2 VECTOR, 3 STREAM) and in TAKE_FLAGS (R81, R83). -/
def setFlags (s : State) (c : Fin 8) (i fl : Nat) : State :=
  let s1 := cset s c 0x4010 i (cget s c 0x4010 i ||| fl)
  cset s1 c 0x4011 i (cget s1 c 0x4011 i ||| fl)

/-- A cold use of range register n of cluster c by an engine (R94): COLD_COUNT rises by one, unless the operation has counted one of it before; the
first since the register became cold is logged as SCALE_COLD with COLD_SCALE set. -/
def coldUse (s : State) (c : Fin 8) (n engine : Nat) (counted : Bool) : State :=
  let s1 := if counted then s else cbump s c 0x4017 (n + 1) 1
  match ((s1.cl[c]).rr)[n]? with
  | some r =>
    if r.cold then
      let s2 := modC s1 c (fun k => { k with rr := if h : n < 16 then k.rr.set n { r with cold := false } h else k.rr })
      logEv s2 (16 * c.val + engine) 0x0601 2
        (payOf [(16, c.val), (17, n), (18, engine), (20, cget s2 c 0x4017 (n + 1)), (24, takeId s2 c)])
    else s1
  | none => s1

end Sys2Proof.Machine
end

