-- ==== Sys2Proof/Machine/Emit.lean ====
section
/-! DEFINITION. Machine/Emit.lean: how an effect leaves a cluster: a write (R46, R54), a clapper operation (R297), a request over
the fabric (R304, R367-R371), each through the pair's egress comparison in PAIRED mode (R448, R450). -/

namespace Sys2Proof.Machine

/-- A tag that no outstanding request of the unit carries (R368): the next after its last one, so that the tag of an abandoned request comes again only
after all others (R380). -/
def newTag (s : State) (unit : Nat) : Nat :=
  let used := (s.reqs.filter (fun r => r.pkt.srcUnit == unit)).map (fun r => r.pkt.tag)
  let next := (mfind s.fab.tags unit).getD 0
  (((List.range (used.length + 1)).map (fun i => (next + i) % 65536)).find? (fun t => !used.contains t)).getD 0

/-- The packet is injected at this module's router, and its issuer waits for the response until FAB_RESP_TIMEOUT (R380). -/
def inject (s : State) (p : Packet) (why : Purpose) : State :=
  let q := { p with tag := newTag s p.srcUnit, srcModule := modNum s }
  { s with reqs := s.reqs ++ [{ pkt := q, due := s.now + oget s 0x5002 0 * 1000, why := why }], 
           fab := { s.fab with queue := s.fab.queue ++ [(6, q)], tags := mput s.fab.tags p.srcUnit ((q.tag + 1) % 65536) } }

/-- A request packet of a unit (R367): its type, target module and local address, length, operation code, job key, data with
poison bits of the granules of its 2,048-byte block. -/
def reqPacket (type unit g len opc job : Nat) (l : List (Byte × Bool)) : Packet :=
  { type := type, cls := false, detour := false, dest := modulePart g, srcModule := 0, srcUnit := unit, tag := 0,
    addr := localPart g, len := len, opc := opc,
    poison := (List.range l.length).foldl (fun a i =>
      match l[i]? with
      | some (_, true) => a ||| 2 ^ ((localPart g + i) % 2048 / 64)
      | _ => a) 0,
    job := job, hops := 0, data := l.map (fun x => x.1) }

/-- A request of cluster c leaves it: a write or a CLAP of a pair is compared first (R448). -/
def sendReq (s : State) (c : Fin 8) (f : FaultRep) (p : Packet) (why : Purpose) : State :=
  if paired s && p.type != 2 then modC s c (fun k => { k with egress := k.egress ++ [.packet p why s.now f] })
  else inject s p why

/-- A write by cluster c at a local address leaves its pair and waits for the comparison (R448). -/
def leaves (s : State) (c : Fin 8) (a : Nat) : Bool :=
  paired s && (match region a with
    | .sp d => leader d != leader c
    | _ => true)
/-- A write by cluster c at a local address: into its own scratchpad (in PAIRED mode its own copy of its pair's), or out of the
cluster, through the comparison of a pair (R448, R450). -/
def emitWrite (s : State) (c : Fin 8) (f : FaultRep) (a : Nat) (l : List (Byte × Bool)) : State :=
  if paired s then
    match region a with
    | .sp d => if leader d = leader c then wrMarked s (spBase c + (a - spBase d)) l
        else modC s c (fun k => { k with egress := k.egress ++ [.write a l s.now f] })
    | _ => modC s c (fun k => { k with egress := k.egress ++ [.write a l s.now f] })
  else wrMesh s (16 * c.val + f.engine) a l

/-- A clapper operation sets out for its home (R297); the operation of a pair is compared first (R448). -/
def emitClap (s : State) (c : Fin 8) (f : FaultRep) (m : ClapMsg) : State :=
  if paired s then modC s c (fun k => { k with egress := k.egress ++ [.clap m s.now f] })
  else { s with clapOps := s.clapOps ++ [m] }

/-- The packets of a write of marked bytes to a global address of another module, split at 2,048-byte blocks (R368). -/
def writePackets (unit job g : Nat) : Nat → List (Byte × Bool) → List Packet
  | 0, _ => []
  | n + 1, l =>
    if l.isEmpty then [] else
    let k := 2048 - g % 2048
    reqPacket 1 unit g (l.take k).length 0 job (l.take k) :: writePackets unit job (g + k) n (l.drop k)

end Sys2Proof.Machine
end

