-- ==== Sys2Proof/Machine/Conv.lean ====
section
/-! DEFINITION. Machine/Conv.lean: the conversion of a view (R84-R97): its checks, scale selection with the range-register
snapshot, the converted elements with their flags, scale output and range update. Used by tile transfers, streams, the vector
engine and grade programs. -/

namespace Sys2Proof.Machine

/-- The conversion fields of R84. -/
structure CvtP where
  src : Nat
  dst : Nat
  round : Nat
  sat : Bool
  mode : Nat
  gran : Nat
  addr : Nat
  reg : Nat
  upd : Nat
  out : Nat
deriving DecidableEq, Repr

/-- The transfer is plain: it moves bits (R134, R167). -/
def CvtP.plain (p : CvtP) : Bool := p.src == p.dst && p.mode == 0 && p.upd == 0

/-- Range register n of cluster c. -/
def rrGet (s : State) (c : Fin 8) (n : Nat) : RangeReg := (s.cl[c].rr[n]?).getD RangeReg.reset
/-- The state with range register n of cluster c replaced. -/
def rrPut (s : State) (c : Fin 8) (n : Nat) (r : RangeReg) : State :=
  modC s c (fun k => { k with rr := if h : n < 16 then k.rr.set n r h else k.rr })

/-- GRAN differs from that of a register with history that the operation reads or updates (R92). -/
def granDiffers (s : State) (c : Fin 8) (p : CvtP) : Bool :=
  let r := rrGet s c p.reg
  r.valid && r.gran != p.gran && (p.mode == 2 || p.upd == 1)
/-- The conditions of R87 and R92 that fault a conversion with E_FORMAT. -/
def cvtBad (s : State) (c : Fin 8) (p : CvtP) : Bool :=
  (p.mode == 1 && !(isQuant p.src p.dst || isDequant p.src p.dst)) || (p.mode == 2 && !isQuant p.src p.dst) || p.mode == 3 ||
    (p.upd != 0 && !isFloatFmt p.src) || p.upd == 3 || p.gran == 3 ||
    granDiffers s c p

/-- The entry of element (row, column) at a granularity (R88, R91). -/
def entryOf (gran r j : Nat) : Nat := if gran = 1 then r else if gran = 2 then j else 0
/-- How many entries a view of rows × cols has (R84). -/
def entryCount (gran rows cols : Nat) : Nat := if gran = 1 then rows else if gran = 2 then cols else 1

/-- The scale choice of entry e from a snapshot (R93). -/
def scaleChoice (s : State) (c : Fin 8) (p : CvtP) (snap : RangeReg) (e : Nat) : Choice :=
  choose snap.valid (mget 0 snap.amax (e % 512)) (cget s c 0x4013 (p.reg + 1)) (qmax p.dst)
/-- The choices of the entries that a view uses. -/
def scaleChoices (s : State) (c : Fin 8) (p : CvtP) (snap : RangeReg) (rows cols : Nat) : List Choice :=
  (List.range (min 512 (entryCount p.gran rows cols))).map (scaleChoice s c p snap)
/-- The operation uses its register cold (R94). -/
def usesCold (s : State) (c : Fin 8) (p : CvtP) (snap : RangeReg) (rows cols : Nat) : Bool :=
  p.mode == 2 && (scaleChoices s c p snap rows cols).any (fun x => x.cold)
/-- A cold use is reported, and a use with history makes the register's next cold use a first one (R94: a register becomes cold again whenever an
operation finds it without usable history, and the event is logged for the first cold use since; log entry 88). -/
def reportCold (s : State) (c : Fin 8) (p : CvtP) (snap : RangeReg) (rows cols engine : Nat) (counted : Bool := false) : State :=
  if p.mode ≠ 2 then s
  else if usesCold s c p snap rows cols then coldUse s c p.reg engine counted
  else rrPut s c p.reg { rrGet s c p.reg with cold := true }

/-- The FP32 scale of entry e (R90, R93): from the vector at SCALE_ADDR in the cluster's scratchpad, or the chosen one. -/
def scaleOf (s : State) (c : Fin 8) (p : CvtP) (snap : RangeReg) (e : Nat) : Nat :=
  if p.mode = 1 then rdLE s (spBase c + p.addr + 4 * e) 4 else (scaleChoice s c p snap e).s
/-- The scale vector at SCALE_ADDR holds a poisoned granule. -/
def scaleBad (s : State) (c : Fin 8) (p : CvtP) (rows cols : Nat) : Bool :=
  p.mode == 1 && anyBad s (spBase c + p.addr) (4 * entryCount p.gran rows cols)

/-- One element converted under the fields, with the scale sc of its entry (R85, R86, R90). -/
def cvtOne (p : CvtP) (flush : Bool) (sc code : Nat) : Nat × Flags :=
  if p.mode = 0 then cvtElem p.src p.dst p.round p.sat flush code
  else
    let v := elemV flush p.src code
    if isFloatFmt p.src then
      let r := recipScale sc
      let q := quantV p.dst p.round p.sat flush v.1 r.1
      (q.1, v.2 ||| (if p.mode = 1 then r.2 else 0#8) ||| q.2)
    else
      let m := prodV v.1 (fdec fp32 sc)
      let q := cvtV p.dst p.round p.sat flush m.1
      (q.1, m.2 ||| q.2)

/-- The elements of a view, as (row, column, code), converted; with all the flags raised (R81, R94). -/
def cvtView (s : State) (c : Fin 8) (p : CvtP) (snap : RangeReg) (flush : Bool) (l : List (Nat × Nat × Nat)) :
    List (Nat × Nat × Nat) × Flags :=
  let q := l.map (fun x => (x.1, x.2.1, cvtOne p flush (if p.mode = 0 then 0 else scaleOf s c p snap (entryOf p.gran x.1 x.2.1)) x.2.2))
  (q.map (fun x => (x.1, x.2.1, x.2.2.1)), q.foldl (fun f x => f ||| x.2.2.2) 0#8)
/-- IV where a valid register's entry holds NaN or infinity (R94). -/
def snapFlags (s : State) (c : Fin 8) (p : CvtP) (snap : RangeReg) (rows cols : Nat) : Flags :=
  flagIf (p.mode == 2 && (scaleChoices s c p snap rows cols).any (fun x => x.iv)) fIV

/-- The scales used are written to SCALE_OUT (R90, R93). -/
def writeScales (s : State) (c : Fin 8) (p : CvtP) (snap : RangeReg) (rows cols : Nat) : State :=
  if p.out ≠ 0 ∧ p.mode ≠ 0 then
    let l := (List.range (entryCount p.gran rows cols)).flatMap (fun e => toLE 4 (scaleOf s c p snap e))
    wrBytes s (spBase c + p.out) l
  else s

/-- The maximum of |x| over the elements of entry e (R95). -/
def rangeMax (p : CvtP) (flush : Bool) (l : List (Nat × Nat × Nat)) (e : Nat) : FVal :=
  (l.filter (fun x => entryOf p.gran x.1 x.2.1 % 512 == e)).foldl
    (fun m x => maxV m (elemV flush p.src x.2.2).1.abs) (.zero false)
/-- The range register after an operation with RANGE_UPDATE (R95). -/
def rangeAfter (p : CvtP) (flush : Bool) (l : List (Nat × Nat × Nat)) (rows cols : Nat) (r : RangeReg) : RangeReg :=
  let es := List.range (min 512 (entryCount p.gran rows cols))
  let acc := p.upd = 1 ∧ r.valid
  { amax := es.foldl (fun m e =>
      let new := rangeMax p flush l e
      let v := if acc then maxV (fdec fp32 (mget 0 r.amax e)) new else new
      mset 0 m e (fenc32 false v).1) r.amax,
    valid := true, gran := if acc then r.gran else p.gran, cold := if r.valid then r.cold else true }
/-- The flags of a range update (R70, R77): FZ for a flushed element, IV for a signalling NaN among the elements and, where they take part, the old
entries. -/
def rangeFlags (p : CvtP) (flush : Bool) (l : List (Nat × Nat × Nat)) (rows cols : Nat) (r : RangeReg) : Flags :=
  let olds := if p.upd = 1 ∧ r.valid then (List.range (min 512 (entryCount p.gran rows cols))).map (fun e => fdec fp32 (mget 0 r.amax e)) else []
  l.foldl (fun f x => let v := elemV flush p.src x.2.2; f ||| v.2 ||| snanIV [v.1]) (snanIV olds)
/-- The state after the range update of a converting operation whose flag set is `set` (R95): a view with no rows or no columns updates nothing;
one of which every element is masked or poisoned gathers +0. -/
def rangeUpdate (s : State) (c : Fin 8) (set : Nat) (p : CvtP) (flush : Bool) (l : List (Nat × Nat × Nat)) (rows cols : Nat) : State :=
  if p.upd = 0 ∨ rows = 0 ∨ cols = 0 then s
  else
    let r := rrGet s c p.reg
    rrPut (setFlags s c set (rangeFlags p flush l rows cols r).toNat) c p.reg (rangeAfter p flush l rows cols r)

/-- FLUSH_MODE of a flag set of cluster c (R98): 1 MATRIX, 2 VECTOR, 3 STREAM. -/
def flushOf (s : State) (c : Fin 8) (set : Nat) : Bool := cget s c 0x4012 set == 1

end Sys2Proof.Machine
end

