-- ==== Sys2Proof/Machine/Rv.lean ====
section
/-! DEFINITION. Machine/Rv.lean: the control core's instructions (R36, R327-R334): RV64IMAC with the tile extension, decoded
from the bytes of core-local memory, and the arithmetic of the base encodings. The encodings of RV64IMAC are the standard's
(log entry 15). -/

namespace Sys2Proof.Machine

/-- The arithmetic of OP, OP-IMM and their 32-bit forms, and of the M extension. -/
inductive Alu where
  | add | sub | sll | slt | sltu | xor | srl | sra | or | and
  | mul | mulh | mulhsu | mulhu | div | divu | rem | remu
deriving DecidableEq, Repr

/-- A decoded instruction of the control core. Immediates are sign-extended words. -/
inductive RIns where
  | lui (rd : Nat) (imm : Word)
  | auipc (rd : Nat) (imm : Word)
  | jal (rd : Nat) (imm : Word)
  | jalr (rd rs1 : Nat) (imm : Word)
  | br (f3 rs1 rs2 : Nat) (imm : Word)
  | load (f3 rd rs1 : Nat) (imm : Word)
  | store (f3 rs1 rs2 : Nat) (imm : Word)
  | opi (w : Bool) (f : Alu) (rd rs1 : Nat) (imm : Word)
  | op (w : Bool) (f : Alu) (rd rs1 rs2 : Nat)
  | lr (d : Bool) (rd rs1 : Nat)
  | sc (d : Bool) (rd rs1 rs2 : Nat)
  | amo (f5 : Nat) (d : Bool) (rd rs1 rs2 : Nat)
  | fence
  | fenceI
  | ecall
  | ebreak
  | csr (rd num : Nat)
  | ob (k : OpKind) (rs1 blk : Nat)
  | clap (op rd rs1 rs2 rs3 : Nat)
  | cwait (eq : Bool) (rs1 rs2 : Nat)
  | tend
deriving DecidableEq, Repr

/-- An n-bit two's-complement field as a word. -/
def sxW (n x : Nat) : Word := BitVec.ofInt 64 (sext n x)

/-- The immediate of an I-type instruction. -/
def immI (w : Nat) : Word := sxW 12 (bits w 20 12)
/-- The immediate of an S-type instruction. -/
def immS (w : Nat) : Word := sxW 12 (bits w 25 7 * 32 + bits w 7 5)
/-- The immediate of a B-type instruction. -/
def immB (w : Nat) : Word := sxW 13 (bits w 31 1 * 4096 + bits w 7 1 * 2048 + bits w 25 6 * 32 + bits w 8 4 * 2)
/-- The immediate of a U-type instruction. -/
def immU (w : Nat) : Word := sxW 32 (bits w 12 20 * 4096)
/-- The immediate of a J-type instruction. -/
def immJ (w : Nat) : Word :=
  sxW 21 (bits w 31 1 * 1048576 + bits w 12 8 * 4096 + bits w 20 1 * 2048 + bits w 21 10 * 2)

/-- The base arithmetic named by funct3 and bit 30. -/
def aluOf (f3 : Nat) (alt : Bool) : Option Alu :=
  match f3, alt with
  | 0, false => some .add
  | 0, true => some .sub
  | 1, false => some .sll
  | 2, false => some .slt
  | 3, false => some .sltu
  | 4, false => some .xor
  | 5, false => some .srl
  | 5, true => some .sra
  | 6, false => some .or
  | 7, false => some .and
  | _, _ => none
/-- The M extension named by funct3. -/
def mulOf (f3 : Nat) : Alu :=
  match f3 with
  | 0 => .mul | 1 => .mulh | 2 => .mulhsu | 3 => .mulhu | 4 => .div | 5 => .divu | 6 => .rem | _ => .remu

/-- The CSRs of R39. -/
def csrKnown (n : Nat) : Bool := n == 0xC00 || n == 0xC01 || n == 0xC02 || (decide (0xCC0 ≤ n) && decide (n ≤ 0xCC7))

/-- The operations of the OB format (R329). -/
def obOf (grp op7 : Nat) : Option OpKind :=
  match grp, op7 with
  | 0, 0 => some .tcfg | 0, 1 => some .tld | 0, 2 => some .tst | 0, 3 => some .mma
  | 1, 0 => some .vec | 1, 1 => some .red
  | 2, 0 => some .stream | 2, 1 => some .gather | 2, 2 => some .tsend | 2, 3 => some .digest
  | _, _ => none

/-- OP-IMM and OP-IMM-32: shifts check the bits above the shift amount. -/
def decodeOpImm (w32 : Bool) (w : Nat) : Option RIns :=
  let f3 := bits w 12 3
  let rd := bits w 7 5
  let rs1 := bits w 15 5
  if f3 = 1 then
    if bits w (if w32 then 25 else 26) (if w32 then 7 else 6) = 0 then
      some (.opi w32 .sll rd rs1 (BitVec.ofNat 64 (bits w 20 (if w32 then 5 else 6)))) else none
  else if f3 = 5 then
    let sh := BitVec.ofNat 64 (bits w 20 (if w32 then 5 else 6))
    let hi := if w32 then bits w 25 7 else bits w 26 6 * 2
    if hi = 0 then some (.opi w32 .srl rd rs1 sh) else if hi = 32 then some (.opi w32 .sra rd rs1 sh) else none
  else if w32 ∧ f3 ≠ 0 then none
  else (aluOf f3 false).map (fun f => .opi w32 f rd rs1 (immI w))

/-- OP and OP-32. -/
def decodeOp (w32 : Bool) (w : Nat) : Option RIns :=
  let f3 := bits w 12 3
  let rd := bits w 7 5
  let rs1 := bits w 15 5
  let rs2 := bits w 20 5
  let f7 := bits w 25 7
  if f7 = 1 then
    if w32 ∧ (f3 = 1 ∨ f3 = 2 ∨ f3 = 3) then none else some (.op w32 (mulOf f3) rd rs1 rs2)
  else if f7 = 0 ∨ f7 = 32 then
    if w32 ∧ ¬(f3 = 0 ∨ f3 = 1 ∨ f3 = 5) then none
    else (aluOf f3 (f7 == 32)).map (fun f => .op w32 f rd rs1 rs2)
  else none

/-- The A extension: LR, SC and the nine AMOs in words and doublewords; aq and rl have no effect on one core. -/
def decodeAmo (w : Nat) : Option RIns :=
  let f3 := bits w 12 3
  let rd := bits w 7 5
  let rs1 := bits w 15 5
  let rs2 := bits w 20 5
  let f5 := bits w 27 5
  if f3 = 2 ∨ f3 = 3 then
    let d := f3 == 3
    if f5 = 2 then (if rs2 = 0 then some (.lr d rd rs1) else none)
    else if f5 = 3 then some (.sc d rd rs1 rs2)
    else if f5 = 0 ∨ f5 = 1 ∨ f5 = 4 ∨ f5 = 8 ∨ f5 = 12 ∨ f5 = 16 ∨ f5 = 20 ∨ f5 = 24 ∨ f5 = 28 then
      some (.amo f5 d rd rs1 rs2)
    else none
  else none

/-- The SYSTEM opcode: ECALL, EBREAK and the CSR reads of R36; nothing else. -/
def decodeSystem (w : Nat) : Option RIns :=
  let f3 := bits w 12 3
  let rs1 := bits w 15 5
  if w = 0x73 then some .ecall
  else if w = 0x100073 then some .ebreak
  else if (f3 = 2 ∨ f3 = 3 ∨ f3 = 6 ∨ f3 = 7) ∧ rs1 = 0 ∧ csrKnown (bits w 20 12) then
    some (.csr (bits w 7 5) (bits w 20 12))
  else none

/-- custom-0, the OB format (R328, R329). -/
def decodeOb (w : Nat) : Option RIns :=
  if bits w 7 5 = 0 then (obOf (bits w 12 3) (bits w 25 7)).map (fun k => .ob k (bits w 15 5) (bits w 20 5)) else none

/-- custom-1, the CY format (R331-R334). -/
def decodeCy (w : Nat) : Option RIns :=
  let rs3 := bits w 27 5
  let f2 := bits w 25 2
  let rs2 := bits w 20 5
  let rs1 := bits w 15 5
  let f3 := bits w 12 3
  let rd := bits w 7 5
  if f2 = 0 then
    if f3 = 7 ∨ (f3 = 0 ∧ rs2 ≠ 0) ∨ (f3 ≠ 6 ∧ rs3 ≠ 0) ∨ ((f3 = 1 ∨ f3 = 2 ∨ f3 = 3) ∧ rd ≠ 0) then none
    else some (.clap f3 rd rs1 rs2 rs3)
  else if f2 = 1 then
    if f3 / 2 = 0 ∧ rd = 0 ∧ rs3 = 0 then some (.cwait (f3 == 1) rs1 rs2) else none
  else if f2 = 2 then (if w = 0x0400002B then some .tend else none)
  else none

/-- A 32-bit encoding. -/
def decode32 (w : Nat) : Option RIns :=
  let f3 := bits w 12 3
  let rd := bits w 7 5
  let rs1 := bits w 15 5
  let rs2 := bits w 20 5
  match bits w 0 7 with
  | 0x37 => some (.lui rd (immU w))
  | 0x17 => some (.auipc rd (immU w))
  | 0x6F => some (.jal rd (immJ w))
  | 0x67 => if f3 = 0 then some (.jalr rd rs1 (immI w)) else none
  | 0x63 => if f3 = 2 ∨ f3 = 3 then none else some (.br f3 rs1 rs2 (immB w))
  | 0x03 => if f3 = 7 then none else some (.load f3 rd rs1 (immI w))
  | 0x23 => if 4 ≤ f3 then none else some (.store f3 rs1 rs2 (immS w))
  | 0x13 => decodeOpImm false w
  | 0x1B => decodeOpImm true w
  | 0x33 => decodeOp false w
  | 0x3B => decodeOp true w
  | 0x2F => decodeAmo w
  | 0x0F => if f3 = 0 then some .fence else if f3 = 1 then some .fenceI else none
  | 0x73 => decodeSystem w
  | 0x0B => decodeOb w
  | 0x2B => decodeCy w
  | _ => none

/-- A compressed register field x8-x15. -/
def cReg (w lo : Nat) : Nat := 8 + bits w lo 3
/-- The 6-bit immediate of CI and CB forms. -/
def cImm6 (w : Nat) : Nat := bits w 12 1 * 32 + bits w 2 5

/-- Quadrant 0 of the C extension. -/
def decodeC0 (w : Nat) : Option RIns :=
  let ofsD := bits w 10 3 * 8 + bits w 5 2 * 64
  let ofsW := bits w 10 3 * 8 + bits w 6 1 * 4 + bits w 5 1 * 64
  match bits w 13 3 with
  | 0 =>
    let n := bits w 11 2 * 16 + bits w 7 4 * 64 + bits w 6 1 * 4 + bits w 5 1 * 8
    if n = 0 then none else some (.opi false .add (cReg w 2) 2 (BitVec.ofNat 64 n))
  | 2 => some (.load 2 (cReg w 2) (cReg w 7) (BitVec.ofNat 64 ofsW))
  | 3 => some (.load 3 (cReg w 2) (cReg w 7) (BitVec.ofNat 64 ofsD))
  | 6 => some (.store 2 (cReg w 7) (cReg w 2) (BitVec.ofNat 64 ofsW))
  | 7 => some (.store 3 (cReg w 7) (cReg w 2) (BitVec.ofNat 64 ofsD))
  | _ => none

/-- The offset of C.J. -/
def cJ (w : Nat) : Word :=
  sxW 12 (bits w 12 1 * 2048 + bits w 11 1 * 16 + bits w 9 2 * 256 + bits w 8 1 * 1024 + bits w 7 1 * 64 +
    bits w 6 1 * 128 + bits w 3 3 * 2 + bits w 2 1 * 32)
/-- The offset of C.BEQZ and C.BNEZ. -/
def cB (w : Nat) : Word :=
  sxW 9 (bits w 12 1 * 256 + bits w 10 2 * 8 + bits w 5 2 * 64 + bits w 3 2 * 2 + bits w 2 1 * 32)

/-- C.SRLI, C.SRAI, C.ANDI and the register forms of quadrant 1. -/
def decodeC1Alu (w : Nat) : Option RIns :=
  let rd := cReg w 7
  let sh := BitVec.ofNat 64 (cImm6 w)
  match bits w 10 2 with
  | 0 => some (.opi false .srl rd rd sh)
  | 1 => some (.opi false .sra rd rd sh)
  | 2 => some (.opi false .and rd rd (sxW 6 (cImm6 w)))
  | _ => match bits w 12 1, bits w 5 2 with
    | 0, 0 => some (.op false .sub rd rd (cReg w 2))
    | 0, 1 => some (.op false .xor rd rd (cReg w 2))
    | 0, 2 => some (.op false .or rd rd (cReg w 2))
    | 0, 3 => some (.op false .and rd rd (cReg w 2))
    | 1, 0 => some (.op true .sub rd rd (cReg w 2))
    | 1, 1 => some (.op true .add rd rd (cReg w 2))
    | _, _ => none

/-- Quadrant 1 of the C extension. -/
def decodeC1 (w : Nat) : Option RIns :=
  let rd := bits w 7 5
  match bits w 13 3 with
  | 0 => some (.opi false .add rd rd (sxW 6 (cImm6 w)))
  | 1 => if rd = 0 then none else some (.opi true .add rd rd (sxW 6 (cImm6 w)))
  | 2 => some (.opi false .add rd 0 (sxW 6 (cImm6 w)))
  | 3 =>
    if rd = 2 then
      let n := bits w 12 1 * 512 + bits w 6 1 * 16 + bits w 5 1 * 64 + bits w 3 2 * 128 + bits w 2 1 * 32
      if n = 0 then none else some (.opi false .add 2 2 (sxW 10 n))
    else if cImm6 w = 0 then none else some (.lui rd (sxW 18 (cImm6 w * 4096)))
  | 4 => decodeC1Alu w
  | 5 => some (.jal 0 (cJ w))
  | 6 => some (.br 0 (cReg w 7) 0 (cB w))
  | _ => some (.br 1 (cReg w 7) 0 (cB w))

/-- Quadrant 2 of the C extension. -/
def decodeC2 (w : Nat) : Option RIns :=
  let rd := bits w 7 5
  let rs2 := bits w 2 5
  match bits w 13 3 with
  | 0 => some (.opi false .sll rd rd (BitVec.ofNat 64 (cImm6 w)))
  | 2 => if rd = 0 then none else
      some (.load 2 rd 2 (BitVec.ofNat 64 (bits w 12 1 * 32 + bits w 4 3 * 4 + bits w 2 2 * 64)))
  | 3 => if rd = 0 then none else
      some (.load 3 rd 2 (BitVec.ofNat 64 (bits w 12 1 * 32 + bits w 5 2 * 8 + bits w 2 3 * 64)))
  | 4 =>
    if bits w 12 1 = 0 then
      if rs2 = 0 then (if rd = 0 then none else some (.jalr 0 rd 0)) else some (.op false .add rd 0 rs2)
    else if rs2 = 0 then (if rd = 0 then some .ebreak else some (.jalr 1 rd 0))
    else some (.op false .add rd rd rs2)
  | 6 => some (.store 2 2 rs2 (BitVec.ofNat 64 (bits w 9 4 * 4 + bits w 7 2 * 64)))
  | 7 => some (.store 3 2 rs2 (BitVec.ofNat 64 (bits w 10 3 * 8 + bits w 7 3 * 64)))
  | _ => none

/-- A 16-bit encoding. -/
def decode16 (w : Nat) : Option RIns :=
  match bits w 0 2 with
  | 0 => decodeC0 w
  | 1 => decodeC1 w
  | 2 => decodeC2 w
  | _ => none

/-! The arithmetic. -/

/-- Signed division of the M extension: by zero -1, overflow wraps. -/
def divS {n : Nat} (a b : BitVec n) : BitVec n := if b = 0 then BitVec.ofInt n (-1) else BitVec.ofInt n (a.toInt.tdiv b.toInt)
/-- Signed remainder: by zero the dividend. -/
def remS {n : Nat} (a b : BitVec n) : BitVec n := if b = 0 then a else BitVec.ofInt n (a.toInt.tmod b.toInt)

/-- An operation on n-bit values; shifts take the low sb bits of b. -/
def aluN {n : Nat} (sb : Nat) (f : Alu) (a b : BitVec n) : BitVec n :=
  match f with
  | .add => a + b
  | .sub => a - b
  | .sll => a <<< (b.toNat % 2 ^ sb)
  | .slt => if a.toInt < b.toInt then 1 else 0
  | .sltu => if a.toNat < b.toNat then 1 else 0
  | .xor => a ^^^ b
  | .srl => a >>> (b.toNat % 2 ^ sb)
  | .sra => a.sshiftRight (b.toNat % 2 ^ sb)
  | .or => a ||| b
  | .and => a &&& b
  | .mul => a * b
  | .mulh => BitVec.ofInt n (a.toInt * b.toInt / (2 ^ n : Nat))
  | .mulhsu => BitVec.ofInt n (a.toInt * b.toNat / (2 ^ n : Nat))
  | .mulhu => BitVec.ofNat n (a.toNat * b.toNat / 2 ^ n)
  | .div => divS a b
  | .divu => if b = 0 then BitVec.ofInt n (-1) else BitVec.ofNat n (a.toNat / b.toNat)
  | .rem => remS a b
  | .remu => if b = 0 then a else BitVec.ofNat n (a.toNat % b.toNat)

/-- The result of OP and OP-IMM; the W forms work on the low 32 bits and sign-extend. -/
def alu (w : Bool) (f : Alu) (a b : Word) : Word :=
  if w then (aluN 5 f (a.truncate 32) (b.truncate 32)).signExtend 64 else aluN 6 f a b

/-- The condition of a branch. -/
def brTaken (f3 : Nat) (a b : Word) : Bool :=
  match f3 with
  | 0 => a == b
  | 1 => a != b
  | 4 => decide (a.toInt < b.toInt)
  | 5 => decide (b.toInt ≤ a.toInt)
  | 6 => decide (a.toNat < b.toNat)
  | _ => decide (b.toNat ≤ a.toNat)

/-- The value an AMO stores (RV64A). -/
def amoVal {n : Nat} (f5 : Nat) (old x : BitVec n) : BitVec n :=
  match f5 with
  | 0 => old + x
  | 1 => x
  | 4 => old ^^^ x
  | 8 => old ||| x
  | 12 => old &&& x
  | 16 => if old.toInt < x.toInt then old else x
  | 20 => if old.toInt < x.toInt then x else old
  | 24 => if old.toNat < x.toNat then old else x
  | _ => if old.toNat < x.toNat then x else old

/-- The registers that an instruction reads (R50). -/
def readsOf : RIns → List Nat
  | .jalr _ a _ => [a]
  | .br _ a b _ => [a, b]
  | .load _ _ a _ => [a]
  | .store _ a b _ => [a, b]
  | .opi _ _ _ a _ => [a]
  | .op _ _ _ a b => [a, b]
  | .lr _ _ a => [a]
  | .sc _ _ a b => [a, b]
  | .amo _ _ _ a b => [a, b]
  | .ob _ a _ => [a]
  | .clap op _ a b c => if op = 0 then [a] else if op = 6 then [a, b, c] else [a, b]
  | .cwait _ a b => [a, b]
  | _ => []
/-- The register that an instruction writes (R332). -/
def writesOf : RIns → List Nat
  | .lui rd _ => [rd]
  | .auipc rd _ => [rd]
  | .jal rd _ => [rd]
  | .jalr rd _ _ => [rd]
  | .load _ rd _ _ => [rd]
  | .opi _ _ rd _ _ => [rd]
  | .op _ _ rd _ _ => [rd]
  | .lr _ rd _ => [rd]
  | .sc _ rd _ _ => [rd]
  | .amo _ _ rd _ _ => [rd]
  | .csr rd _ => [rd]
  | .clap _ rd _ _ _ => [rd]
  | _ => []

end Sys2Proof.Machine
end

