-- ==== Sys2Proof/Machine/CoreIns.lean ====
section
/-! DEFINITION. Machine/CoreIns.lean: the control cores (R36-R41, R58-R61): fetch, core faults, the base instructions,
core-local memory, window loads and stores, fences, CSR reads and the debug halt (R575). -/

namespace Sys2Proof.Machine

/-- Register r of the core of cluster c; x0 reads 0. -/
def xget (s : State) (c : Fin 8) (r : Nat) : Word := if r = 0 then 0 else (s.cl[c].core.x[r]?).getD 0
/-- The core with register r at v; x0 stays 0. -/
def xput (k : Core) (r : Nat) (v : Word) : Core := if h : r < 32 then (if r = 0 then k else { k with x := k.x.set r v h }) else k

/-- The byte of core-local memory at a: undefined since a discard until it is written (R67, log entry 10). -/
def clmByte (k : Cluster) (a : Nat) : Byte :=
  match mfind k.clm a with
  | some b => b
  | none => if k.clmDraw = 0 then 0 else BitVec.ofNat 8 (Config.freeElem k.clmDraw a)
/-- The n bytes of core-local memory at a. -/
def clmRd (k : Cluster) (a n : Nat) : List Byte := (List.range n).map (fun i => clmByte k (a + i))
/-- Core-local memory after a write: with defined contents it keeps its canonical form. -/
def clmPut (draw : Nat) (m : List (Nat × Byte)) : Nat → List Byte → List (Nat × Byte)
  | _, [] => m
  | a, b :: t => clmPut draw (if draw = 0 then mset 0 m a b else mput m a b) (a + 1) t

/-- What the core finds at its pc: an instruction with its length and word, or the cause of the exception (R60). -/
inductive Fetched where
  | ins (i : RIns) (len word : Nat)
  | bad (cause word : Nat)
deriving DecidableEq, Repr

/-- The instruction at the pc of cluster c (R36, R37, R60). -/
def fetch (s : State) (c : Fin 8) : Fetched :=
  let k := s.cl[c]
  let pc := k.core.pc.toNat
  if pc % 2 = 1 then .bad 0 0
  else if 0x10000 < pc + 2 then .bad 1 0
  else
    let lo := ofLE (clmRd k pc 2)
    if lo % 4 ≠ 3 then
      match decode16 lo with
      | some i => .ins i 2 lo
      | none => .bad 2 lo
    else if 0x10000 < pc + 4 then .bad 1 lo
    else
      let w := ofLE (clmRd k pc 4)
      match decode32 w with
      | some i => .ins i 4 w
      | none => .bad 2 w

/-- The core may execute: it runs, and is not halted but for a single step (R575). -/
def coreRuns (k : Core) : Bool := k.status == .running && (!k.halted || k.step)

/-- The code of a cause (R60, R303). -/
def causeCode (cause : Nat) : Nat :=
  if cause = 0 ∨ cause = 4 ∨ cause = 6 ∨ cause = 24 then 5
  else if cause = 2 ∨ cause = 3 ∨ cause = 8 then 14
  else if cause = 27 then 7
  else if cause = 28 ∨ cause = 30 ∨ cause = 31 then 12
  else 6

/-- A core fault with a code (R59-R61): the core stops, and the report sets out for the take controller. -/
def coreFaultCode (s : State) (c : Fin 8) (cause code addr instr : Nat) : State :=
  let pc := s.cl[c].core.pc.toNat
  raiseF (modCore s c (fun k => { k with status := .faulted })) (repOf s c 0 pc instr code addr (det cause 0 0 0))
/-- A core fault (R60). -/
def coreFault (s : State) (c : Fin 8) (cause addr instr : Nat) : State :=
  coreFaultCode s c cause (causeCode cause) addr instr

/-- DEBUG_HALT (R582): cause 0 request, 1 EBREAK, 2 step done. -/
def logHalt (s : State) (c : Fin 8) (cause : Nat) : State :=
  logEv s 0xC6 0x0907 0 (payOf [(16, c.val), (17, cause), (18, s.cl[c].core.pc.toNat % 65536)])

/-- A debug session of level 2 on the partition of cluster c is open (R573). -/
def debugOn (s : State) (c : Fin 8) : Bool := oget s 0x8010 0 == 2 && oget s 0x8013 0 == (partOf s c).val

/-- The instruction retires: the pc moves to npc, instret counts it, and a single step halts again (R575). -/
def retire (s : State) (c : Fin 8) (npc : Word) : State :=
  let stepped := s.cl[c].core.step
  let s1 := modCore s c (fun k => { k with pc := npc, instret := k.instret + 1, step := false })
  if stepped then logHalt s1 c 2 else s1
/-- The instruction writes rd and retires to the next one. -/
def retireRd (s : State) (c : Fin 8) (len rd : Nat) (v : Word) : State :=
  retire (modCore s c (fun k => xput k rd v)) c (s.cl[c].core.pc + BitVec.ofNat 64 len)
/-- The instruction retires to the next one. -/
def retireNext (s : State) (c : Fin 8) (len : Nat) : State := retire s c (s.cl[c].core.pc + BitVec.ofNat 64 len)

/-- No register of the instruction awaits the result of a CLAP (R50, R332). -/
def regsReady (k : Core) (i : RIns) : Bool := (readsOf i ++ writesOf i).all (fun r => r == 0 || !k.awaits.contains r)

/-- The core of cluster c executes the instruction at its pc when f takes it; else the command is not enabled and nothing
changes (log entry 2). -/
def withIns (s : State) (c : Fin 8) (f : RIns → Nat → Nat → Option State) : State :=
  if coreRuns s.cl[c].core then
    match fetch s c with
    | .ins i len w => if regsReady s.cl[c].core i then (f i len w).getD s else s
    | .bad _ _ => s
  else s

/-! Base instructions. -/

/-- The effect of an instruction that touches neither memory nor the tile extension (R36). -/
def execBase (s : State) (c : Fin 8) (i : RIns) (len : Nat) : Option State :=
  let pc := s.cl[c].core.pc
  let nxt := pc + BitVec.ofNat 64 len
  match i with
  | .lui rd imm => some (retireRd s c len rd imm)
  | .auipc rd imm => some (retireRd s c len rd (pc + imm))
  | .jal rd imm => some (retire (modCore s c (fun k => xput k rd nxt)) c (pc + imm))
  | .jalr rd a imm =>
    some (retire (modCore s c (fun k => xput k rd nxt)) c ((xget s c a + imm) &&& 0xFFFFFFFFFFFFFFFE#64))
  | .br f3 a b imm => some (retire s c (if brTaken f3 (xget s c a) (xget s c b) then pc + imm else nxt))
  | .opi w f rd a imm => some (retireRd s c len rd (alu w f (xget s c a) imm))
  | .op w f rd a b => some (retireRd s c len rd (alu w f (xget s c a) (xget s c b)))
  | _ => none

/-- BASE_INSTRUCTION (R36, R60): any other RV64IMAC instruction, or the exception of a fetch or of an illegal encoding. -/
def baseInstruction (s : State) (c : Fin 8) : State :=
  if coreRuns s.cl[c].core then
    match fetch s c with
    | .bad cause w => coreFault s c cause 0 w
    | .ins _ _ _ => withIns s c (fun i len _ => execBase s c i len)
  else s

/-! Core-local memory (R37, R38). -/

/-- The value that a load of funct3 f3 gives for its bytes. -/
def loadVal (f3 : Nat) (l : List Byte) : Word :=
  if f3 < 4 then sxW (8 * l.length) (ofLE l) else BitVec.ofNat 64 (ofLE l)
/-- The width in bytes of a load or store. -/
def accWidth (f3 : Nat) : Nat := 2 ^ (f3 % 4)
/-- An access lies in core-local memory. -/
def inClm (a n : Nat) : Bool := decide (a + n ≤ 0x10000)
/-- A store to core-local memory. -/
def clmStore (s : State) (c : Fin 8) (a : Nat) (l : List Byte) : State :=
  modC s c (fun k => { k with clm := clmPut k.clmDraw k.clm a l })

/-- LR, SC and AMO (R37): natural alignment first (log entry 16), then the address. -/
def execAtomic (s : State) (c : Fin 8) (i : RIns) (len w : Nat) : Option State :=
  match i with
  | .lr d rd a =>
    let n := if d then 8 else 4
    let ad := (xget s c a).toNat
    some (if ad % n ≠ 0 then coreFault s c 4 ad w
      else if !inClm ad n then coreFault s c 5 ad w
      else
        let v := loadVal (if d then 3 else 2) (clmRd s.cl[c] ad n)
        retireRd (modCore s c (fun k => { k with resv := some (ad, n) })) c len rd v)
  | .sc d rd a b =>
    let n := if d then 8 else 4
    let ad := (xget s c a).toNat
    some (if ad % n ≠ 0 then coreFault s c 6 ad w
      else if !inClm ad n then coreFault s c 7 ad w
      else
        let ok := s.cl[c].core.resv == some (ad, n)
        let s1 := if ok then clmStore s c ad (toLE n (xget s c b).toNat) else s
        retireRd (modCore s1 c (fun k => { k with resv := none })) c len rd (if ok then 0 else 1))
  | .amo f5 d rd a b =>
    let n := if d then 8 else 4
    let ad := (xget s c a).toNat
    some (if ad % n ≠ 0 then coreFault s c 6 ad w
      else if !inClm ad n then coreFault s c 7 ad w
      else
        let l := clmRd s.cl[c] ad n
        let v := if d then (amoVal f5 (BitVec.ofNat 64 (ofLE l)) (xget s c b)).toNat
          else (amoVal f5 (BitVec.ofNat 32 (ofLE l)) ((xget s c b).truncate 32)).toNat
        retireRd (clmStore s c ad (toLE n v)) c len rd (loadVal (if d then 3 else 2) l))
  | _ => none

/-- CLM_ACCESS (R37): a load or store outside the window, or an atomic anywhere: in core-local memory it has its effect, at any
alignment for loads and stores; outside it is an access fault. -/
def clmAccess (s : State) (c : Fin 8) (i : RIns) (len w : Nat) : Option State :=
  match i with
  | .load f3 rd a imm =>
    let ad := (xget s c a + imm).toNat
    if ad < 2 ^ 63 then
      some (if inClm ad (accWidth f3) then retireRd s c len rd (loadVal f3 (clmRd s.cl[c] ad (accWidth f3)))
        else coreFault s c 5 ad w)
    else none
  | .store f3 a b imm =>
    let ad := (xget s c a + imm).toNat
    if ad < 2 ^ 63 then
      some (if inClm ad (accWidth f3) then retireNext (clmStore s c ad (toLE (accWidth f3) (xget s c b).toNat)) c len
        else coreFault s c 7 ad w)
    else none
  | _ => execAtomic s c i len w

/-! The global window (R37, R46). -/

/-- WINDOW_LOAD (R37): alignment, then the protection regions for a local address; a local load waits for its response, a remote
one is sent as a READ of class CTRL. -/
def windowLoad (s : State) (c : Fin 8) (i : RIns) (_len w : Nat) : Option State :=
  match i with
  | .load f3 rd a imm =>
    let ad := (xget s c a + imm).toNat
    if ad < 2 ^ 63 then none else
    let g := ad - 2 ^ 63
    let n := accWidth f3
    let wait (r : Bool) : CoreStatus := .winLoad rd n (decide (f3 < 4)) g r none
    some (if ad % n ≠ 0 then coreFault s c 4 ad w
      else if isLocal s g then
        if protOk s (partOf s c) (localPart g) n false then modCore s c (fun k => { k with status := wait false })
        else coreFault s c 5 ad w
      else
        sendReq (modCore s c (fun k => { k with status := wait true })) c (repOf s c 0 s.cl[c].core.pc.toNat w 9 ad (det 0xE1 0 0 0))
          (reqPacket 2 (16 * c.val) g n 0 (jobKey s (partOf s c)) []) (.winLoad c))
  | _ => none

/-- WINDOW_STORE (R37, R46, R59): alignment, the clapper range, then the protection regions for a local address; the store then
retires and is outstanding until its destination acknowledges it. -/
def windowStore (s : State) (c : Fin 8) (i : RIns) (len w : Nat) : Option State :=
  match i with
  | .store f3 a b imm =>
    let ad := (xget s c a + imm).toNat
    if ad < 2 ^ 63 then none else
    let g := ad - 2 ^ 63
    let n := accWidth f3
    let clapR := match region (localPart g) with
      | .clap _ => true
      | _ => false
    let data := toLE n (xget s c b).toNat
    let rep := repOf s c 0 s.cl[c].core.pc.toNat w 9 ad (det 0xE1 0 0 0)
    some (if ad % n ≠ 0 then coreFault s c 6 ad w
      else if clapR then coreFault s c 7 ad w
      else if isLocal s g then
        if protOk s (partOf s c) (localPart g) n true then
          retireNext (modCore s c (fun k => { k with wstores := k.wstores ++ [{ pc := k.pc.toNat, addr := g, data := data, remote := false, done := none }] })) c len
        else coreFault s c 7 ad w
      else
        let s1 := modCore s c (fun k => { k with wstores := k.wstores ++ [{ pc := k.pc.toNat, addr := g, data := data, remote := true, done := none }] })
        retireNext (sendReq s1 c rep (reqPacket 1 (16 * c.val) g n 0 (jobKey s (partOf s c)) (data.map (fun x => (x, false))))
          (.winStore c s.cl[c].core.pc.toNat g)) c len)
  | _ => none

/-- Where a window store goes: stores to one destination are performed in order (R18). -/
def storeDest (s : State) (g : Nat) : Nat :=
  if isLocal s g then
    match region (localPart g) with
    | .hbm k => k
    | .sp d => 16 + d.val
    | _ => 32
  else 64 + modulePart g

/-- WINDOW_STORE_ACK (R46, R59): the n-th outstanding store is performed at its destination and acknowledged, or the answer of
another module is taken; a store of a pair that leaves it is acknowledged when it has been compared and performed (R448); a refusal is reported with cause 7, with the store's address in ISSUE_PC and its data address, as
the core sees it, in ADDR (DEDUCED, log entry 84). -/
def windowStoreAck (s : State) (c : Fin 8) (n : Nat) : State :=
  let ws := s.cl[c].core.wstores
  match ws[n]? with
  | none => s
  | some w =>
    if (ws.take n).any (fun x => storeDest s x.addr == storeDest s w.addr) then s
    else
      let gone (s1 : State) : State := modCore s1 c (fun k => { k with wstores := dropAt k.wstores n })
      let rep := repOf s c 0 w.pc 0 9 (2 ^ 63 + w.addr) (det 0xE1 0 0 0)
      if w.remote then
        match w.done with
        | none => s
        | some code =>
          if code = 0 then gone s
          else raiseF (gone (modCore s c (fun k => { k with status := .faulted })))
            { rep with code := code, detail := det (if code = 12 then 31 else 7) 0 0 0 }
      else if w.done.isSome then s
      else
        let s1 := emitWrite s c rep (localPart w.addr) (w.data.map (fun x => (x, false)))
        if leaves s c (localPart w.addr) then
          modCore s1 c (fun k => { k with wstores := (k.wstores.zipIdx).map (fun y => if y.2 = n then { y.1 with done := some 0xFF } else y.1) })
        else gone s1

/-! FENCE, FENCE.I, ECALL, EBREAK, CSR reads. -/

/-- FENCE completes once every earlier window store is acknowledged (R36). -/
def fenceIns (s : State) (c : Fin 8) (i : RIns) (len _w : Nat) : Option State :=
  match i with
  | .fence => if s.cl[c].core.wstores.isEmpty then some (retireNext s c len) else none
  | _ => none
/-- FENCE.I completes at once and has no effect (R36, R38). -/
def fenceIIns (s : State) (c : Fin 8) (i : RIns) (len _w : Nat) : Option State :=
  match i with
  | .fenceI => some (retireNext s c len)
  | _ => none
/-- ECALL faults with cause 8 (R60). -/
def ecallIns (s : State) (c : Fin 8) (i : RIns) (_len w : Nat) : Option State :=
  match i with
  | .ecall => some (coreFault s c 8 0 w)
  | _ => none
/-- EBREAK faults with cause 3, or halts the core in a level 2 session of its partition (R60, R575; log entry 17). -/
def ebreakIns (s : State) (c : Fin 8) (i : RIns) (len w : Nat) : Option State :=
  match i with
  | .ebreak =>
    some (if debugOn s c then
        let s1 := modCore s c (fun k => { k with halted := true, step := false, pc := k.pc + BitVec.ofNat 64 len, instret := k.instret + 1 })
        logHalt s1 c 1
      else coreFault s c 3 0 w)
  | _ => none

/-- PRANK (R34): in PAIRED mode pairs are counted. -/
def prank (s : State) (c : Fin 8) : Nat :=
  let l := (clustersOf s (partOf s c)).filter (fun d => decide (d.val < c.val))
  if paired s then (l.filter (fun d => leader d != leader c && d == leader d)).length else l.length
/-- PSIZE (R34). -/
def psize (s : State) (p : Fin 8) : Nat :=
  let l := clustersOf s p
  if paired s then (l.filter (fun d => d == leader d)).length else l.length
/-- QFREE (R40). -/
def qfree (k : Cluster) : Nat :=
  (16 - k.mq.length) + 256 * (32 - k.vq.length) + 0x10000 * (16 - k.sq[0].length) + 0x1000000 * (16 - k.sq[1].length) +
    2 ^ 32 * (16 - k.sq[2].length) + 2 ^ 40 * (16 - k.sq[3].length) + 2 ^ 48 * (32 - k.yq.length)
/-- The value of a CSR (R39). -/
def csrVal (s : State) (c : Fin 8) (n : Nat) : Nat :=
  let k := s.cl[c]
  match n with
  | 0xC00 => k.core.cyc / 2000
  | 0xC01 => tcAt s c.val
  | 0xC02 => k.core.instret
  | 0xCC0 => takeId s c
  | 0xCC1 => match takeOf s (partOf s c) with
    | some t => t.ent.targ
    | none => 0
  | 0xCC2 => prank s c
  | 0xCC3 => psize s (partOf s c)
  | 0xCC4 => c.val
  | 0xCC5 => (partOf s c).val
  | 0xCC6 => modNum s
  | _ => qfree k
/-- CSR_READ (R36, R39). -/
def csrIns (s : State) (c : Fin 8) (i : RIns) (len _w : Nat) : Option State :=
  match i with
  | .csr rd n => some (retireRd s c len rd (BitVec.ofNat 64 (csrVal s c n)))
  | _ => none

/-! The commands. -/

/-- ECALL. -/
def execEcall (c : Fin 8) (s : State) : Host.Outcome State Fault Refusal := .next (withIns s c (ecallIns s c))
/-- EBREAK. -/
def execEbreak (c : Fin 8) (s : State) : Host.Outcome State Fault Refusal := .next (withIns s c (ebreakIns s c))
/-- FENCE. -/
def execFence (c : Fin 8) (s : State) : Host.Outcome State Fault Refusal := .next (withIns s c (fenceIns s c))
/-- FENCE_I. -/
def execFenceI (c : Fin 8) (s : State) : Host.Outcome State Fault Refusal := .next (withIns s c (fenceIIns s c))
/-- CSR_READ. -/
def execCsrRead (c : Fin 8) (s : State) : Host.Outcome State Fault Refusal := .next (withIns s c (csrIns s c))
/-- CLM_ACCESS. -/
def execClmAccess (c : Fin 8) (s : State) : Host.Outcome State Fault Refusal := .next (withIns s c (clmAccess s c))
/-- WINDOW_LOAD. -/
def execWindowLoad (c : Fin 8) (s : State) : Host.Outcome State Fault Refusal := .next (withIns s c (windowLoad s c))
/-- WINDOW_STORE. -/
def execWindowStore (c : Fin 8) (s : State) : Host.Outcome State Fault Refusal := .next (withIns s c (windowStore s c))
/-- BASE_INSTRUCTION. -/
def execBaseInstruction (c : Fin 8) (s : State) : Host.Outcome State Fault Refusal := .next (baseInstruction s c)
/-- WINDOW_STORE_ACK. -/
def execWindowStoreAck (c : Fin 8) (n : Nat) (s : State) : Host.Outcome State Fault Refusal := .next (windowStoreAck s c n)

end Sys2Proof.Machine
end

