-- ==== Sys2Proof/Machine/Issue.lean ====
section
/-! DEFINITION. Machine/Issue.lean: the issue path of the tile extension (R43-R46, R62, R328-R333): op blocks into the engine
queues, CLAP into YQ, CWAIT, TEND, the resumption of a stalled issue, the result of a CLAP, and the issue trace (R576). -/

namespace Sys2Proof.Machine

/-- The entries of a queue. -/
def qGet (k : Cluster) : QSel → List QEntry
  | .mq => k.mq
  | .vq => k.vq
  | .yq => k.yq
  | .sq e => k.sq[e]
/-- The cluster with a queue replaced. -/
def qPut (k : Cluster) (q : QSel) (l : List QEntry) : Cluster :=
  match q with
  | .mq => { k with mq := l }
  | .vq => { k with vq := l }
  | .yq => { k with yq := l }
  | .sq e => { k with sq := vset k.sq e l }
/-- The capacity of a queue (R43). -/
def qCap : QSel → Nat
  | .mq => 16
  | .vq => 32
  | .yq => 32
  | .sq _ => 16

/-- The queue of an operation; group 2 names its engine in bits [113:112] (R329, R330). -/
def qOf (k : OpKind) (b : OpBlock) : QSel :=
  match k with
  | .vec => .vq | .red => .vq
  | .stream => .sq ⟨fld b 112 2 % 4, Nat.mod_lt _ (by decide)⟩
  | .gather => .sq ⟨fld b 112 2 % 4, Nat.mod_lt _ (by decide)⟩
  | .tsend => .sq ⟨fld b 112 2 % 4, Nat.mod_lt _ (by decide)⟩
  | .digest => .sq ⟨fld b 112 2 % 4, Nat.mod_lt _ (by decide)⟩
  | .clap => .yq
  | .prepA => .vq | .prepB => .vq | .grade => .vq
  | _ => .mq

/-- The prep and grade slots that an operation takes in VQ (R45, R330). -/
def slotsOf (k : OpKind) (b : OpBlock) : List OpKind :=
  if k = .mma then
    (if fld b 420 20 ≠ 0 then [.prepA] else []) ++ (if fld b 440 20 ≠ 0 then [.prepB] else []) ++
      (if fld b 460 20 ≠ 0 then [.grade] else [])
  else []

/-- A queue entry as issue makes it. -/
def newEntry (id : Nat) (k : OpKind) (pc instr : Nat) (b : OpBlock) (mma : Nat) : QEntry :=
  { id := id, kind := k, pc := pc, instr := instr, blk := b, mma := mma, clap := ClapReq.empty, waitSince := none, slot := none, dslot := none, reelSince := none, checked := false }

/-- The entry with the operands of a CLAP. -/
def withClap (e : QEntry) (r : ClapReq) : QEntry := { e with clap := r }

/-- The issue trace (R576): one 16-byte entry per tile-extension instruction issued while a debug session is open. -/
def traceIssue (s : State) (c : Fin 8) (w : Nat) : State :=
  let size := oget s 0x8041 0
  if oget s 0x8010 0 ≠ 0 ∧ size ≠ 0 ∧ oget s 0x2001 0 ≤ 1 then
    let n := oget s 0x8042 0
    obump (wrBytes s (localPart (oget s 0x8040 0) + n % (size / 16) * 16)
      (toLE 1 c.val ++ toLE 1 (partOf s c).val ++ toLE 2 s.cl[c].core.pc.toNat ++ toLE 4 w ++ toLE 8 (tcAt s c.val))) 0x8042 0 1
  else s

/-- The core stalls at issue (R43, R46). -/
def stallIssue (s : State) (c : Fin 8) : State := modCore s c (fun k => { k with status := .stalled })

/-- The operation and its slots enter their queues: prep slots before the MMA and the grade slot after it in issue order
(R44, R45, R240). -/
def enqueue (k : Cluster) (kind : OpKind) (pc instr : Nat) (b : OpBlock) : Cluster :=
  let sl := slotsOf kind b
  let pre := sl.filter (fun x => x != .grade)
  let own := k.nextId + pre.length
  let slots := sl.map (fun x =>
    newEntry (match x with
      | .prepA => k.nextId
      | .prepB => own - 1
      | _ => own + 1) x pc instr b own)
  let q := qOf kind b
  let k1 := qPut k q (qGet k q ++ [newEntry own kind pc instr b own])
  { k1 with vq := k1.vq ++ slots, nextId := own + 2 }

/-- The issue of an op block (R44-R46, R62): address checks, then room in its queues and no window store outstanding, else the
core stalls; the block is copied and the instruction retires. -/
def issueOb (s : State) (c : Fin 8) (kind : OpKind) (rs1 blk len w : Nat) : State :=
  let a := (xget s c rs1 + BitVec.ofNat 64 (64 * blk)).toNat
  if a % 64 ≠ 0 then coreFault s c 24 a w
  else if 0x10000 < a + 64 then coreFault s c 25 a w
  else
    let k := s.cl[c]
    let b : OpBlock := BitVec.ofNat 512 (ofLE (clmRd k a 64))
    let q := qOf kind b
    if !k.core.wstores.isEmpty || decide (qCap q ≤ (qGet k q).length) ||
        decide (32 < k.vq.length + (slotsOf kind b).length) then stallIssue s c
    else
      let s1 := traceIssue s c w
      retireNext (modC s1 c (fun k => enqueue k kind k.core.pc.toNat w b)) c len

/-- The meaning of an op-block instruction of one kind at the pc. -/
def obIns (s : State) (c : Fin 8) (kind : OpKind) (i : RIns) (len w : Nat) : Option State :=
  match i with
  | .ob k rs1 blk => if k = kind then some (issueOb s c kind rs1 blk len w) else none
  | _ => none

/-- The issue of a CLAP (R296, R298, R332): its operands are read, and the register that a returned value will write awaits
it. -/
def issueClap (s : State) (c : Fin 8) (op rd a b d len w : Nat) : State :=
  let k := s.cl[c]
  if !k.core.wstores.isEmpty || decide (32 ≤ k.yq.length) then stallIssue s c
  else
    let r : ClapReq :=
      { op := op, target := xget s c a, val := if op = 0 then 0 else xget s c b, cmp := if op = 6 then xget s c d else 0,
        rd := rd }
    let s1 := traceIssue s c w
    let s2 := modC s1 c (fun k =>
      { k with yq := k.yq ++ [withClap (newEntry k.nextId .clap k.core.pc.toNat w 0 0) r], nextId := k.nextId + 1 })
    let s3 := if clapReturns op && rd != 0 then modCore s2 c (fun k => { k with awaits := k.awaits ++ [rd] }) else s2
    retireNext s3 c len
/-- The meaning of a CLAP of one operation at the pc. -/
def clapIns (s : State) (c : Fin 8) (op : Nat) (i : RIns) (len w : Nat) : Option State :=
  match i with
  | .clap o rd a b d => if o = op then some (issueClap s c op rd a b d len w) else none
  | _ => none

/-- CWAIT (R50, R303, R333): the protection check, then the core waits; it retires when it is released. -/
def cwaitIns (s : State) (c : Fin 8) (i : RIns) (_len w : Nat) : Option State :=
  match i with
  | .cwait eq a b =>
    let n := (xget s c a).toNat % 16384
    some (if !s.cl[c].core.wstores.isEmpty then stallIssue s c
      else if !protOk s (partOf s c) (clapAddr n) 64 false then coreFault s c 26 (2 ^ 48 * (modNum s % 32768) + clapAddr n) w
      else modCore (traceIssue s c w) c (fun k => { k with status := .cwait n eq (xget s c b) s.now }))
  | _ => none

/-- TEND (R57): the core stops and the cluster is ENDING. -/
def tendIns (s : State) (c : Fin 8) (i : RIns) (_len w : Nat) : Option State :=
  match i with
  | .tend =>
    some (if !s.cl[c].core.wstores.isEmpty then stallIssue s c
      else
        let s1 := traceIssue s c w
        cset (modCore s1 c (fun k => { k with status := .ended, instret := k.instret + 1 })) c 0x4002 0 3)
  | _ => none

/-- ISSUE_RESUME (R43, R46): an instruction that stalled at issue tries again; with its queues still full it stays stalled. -/
def issueResume (s : State) (c : Fin 8) : State :=
  if s.cl[c].core.status = .stalled then
    let s1 := modCore s c (fun k => { k with status := .running })
    withIns s1 c (fun i len w =>
      match i with
      | .ob k rs1 blk => some (issueOb s1 c k rs1 blk len w)
      | .clap op rd a b d => some (issueClap s1 c op rd a b d len w)
      | .cwait _ _ _ => cwaitIns s1 c i len w
      | .tend => tendIns s1 c i len w
      | _ => some s1)
  else s

/-- CLAP_RESULT_ARRIVAL (R50): the n-th value on its way to the core of cluster c reaches its register. Values from one home return in order
(R18). -/
def clapResultArrival (s : State) (c : Fin 8) (n : Nat) : State :=
  let own := s.clapRes.filter (fun r => r.1 == c)
  match own[n]? with
  | none => s
  | some r =>
    if (own.take n).any (fun x => x.2.2.2 == r.2.2.2) then s else
    let i := (findIdx (fun x => x == r) s.clapRes 0).getD 0
    modCore { s with clapRes := dropAt s.clapRes i } c (fun k =>
      { xput k r.2.1 r.2.2.1 with awaits := k.awaits.erase r.2.1 })

/-- TCFG. -/
def execTcfg (c : Fin 8) (s : State) : Host.Outcome State Fault Refusal := .next (withIns s c (obIns s c .tcfg))
/-- TLD. -/
def execTld (c : Fin 8) (s : State) : Host.Outcome State Fault Refusal := .next (withIns s c (obIns s c .tld))
/-- TST. -/
def execTst (c : Fin 8) (s : State) : Host.Outcome State Fault Refusal := .next (withIns s c (obIns s c .tst))
/-- MMA. -/
def execMma (c : Fin 8) (s : State) : Host.Outcome State Fault Refusal := .next (withIns s c (obIns s c .mma))
/-- VEC. -/
def execVec (c : Fin 8) (s : State) : Host.Outcome State Fault Refusal := .next (withIns s c (obIns s c .vec))
/-- RED. -/
def execRed (c : Fin 8) (s : State) : Host.Outcome State Fault Refusal := .next (withIns s c (obIns s c .red))
/-- STREAM. -/
def execStream (c : Fin 8) (s : State) : Host.Outcome State Fault Refusal := .next (withIns s c (obIns s c .stream))
/-- GATHER. -/
def execGather (c : Fin 8) (s : State) : Host.Outcome State Fault Refusal := .next (withIns s c (obIns s c .gather))
/-- TSEND. -/
def execTsend (c : Fin 8) (s : State) : Host.Outcome State Fault Refusal := .next (withIns s c (obIns s c .tsend))
/-- DIGEST. -/
def execDigest (c : Fin 8) (s : State) : Host.Outcome State Fault Refusal := .next (withIns s c (obIns s c .digest))
/-- CLAP_READ. -/
def execClapRead (c : Fin 8) (s : State) : Host.Outcome State Fault Refusal := .next (withIns s c (clapIns s c 0))
/-- CLAP_SET. -/
def execClapSet (c : Fin 8) (s : State) : Host.Outcome State Fault Refusal := .next (withIns s c (clapIns s c 1))
/-- CLAP_ADD. -/
def execClapAdd (c : Fin 8) (s : State) : Host.Outcome State Fault Refusal := .next (withIns s c (clapIns s c 2))
/-- CLAP_MAX. -/
def execClapMax (c : Fin 8) (s : State) : Host.Outcome State Fault Refusal := .next (withIns s c (clapIns s c 3))
/-- CLAP_FADD. -/
def execClapFadd (c : Fin 8) (s : State) : Host.Outcome State Fault Refusal := .next (withIns s c (clapIns s c 4))
/-- CLAP_SWAP. -/
def execClapSwap (c : Fin 8) (s : State) : Host.Outcome State Fault Refusal := .next (withIns s c (clapIns s c 5))
/-- CLAP_CAS. -/
def execClapCas (c : Fin 8) (s : State) : Host.Outcome State Fault Refusal := .next (withIns s c (clapIns s c 6))
/-- CWAIT. -/
def execCwait (c : Fin 8) (s : State) : Host.Outcome State Fault Refusal := .next (withIns s c (cwaitIns s c))
/-- TEND. -/
def execTend (c : Fin 8) (s : State) : Host.Outcome State Fault Refusal := .next (withIns s c (tendIns s c))
/-- ISSUE_RESUME. -/
def execIssueResume (c : Fin 8) (s : State) : Host.Outcome State Fault Refusal := .next (issueResume s c)
/-- CLAP_RESULT_ARRIVAL. -/
def execClapResultArrival (c : Fin 8) (n : Nat) (s : State) : Host.Outcome State Fault Refusal :=
  .next (clapResultArrival s c n)

end Sys2Proof.Machine
end

