-- ==== Sys2Proof/Machine/Reels.lean ====
section
/-! DEFINITION. Machine/Reels.lean: reels (R141-R144, R600): configuration, reservation, commit, claim and release of slots, and the reels that dailies bindings name (R424). -/

namespace Sys2Proof.Machine

/-- The object index of reel r of cluster c (R155). -/
def reelIx (c : Fin 8) (r : Nat) : Nat := 0x3100 + 0x20 * c.val + r % 32
/-- A value of reel r of cluster c (R155). -/
def rlGet (s : State) (c : Fin 8) (r sub : Nat) : Nat := oget s (reelIx c r) sub
/-- The state with a value of a reel replaced. -/
def rlSet (s : State) (c : Fin 8) (r sub v : Nat) : State := oset s (reelIx c r) sub v
/-- SLOT_SIZE of a reel. -/
def rlSize (s : State) (c : Fin 8) (r : Nat) : Nat := rlGet s c r 2
/-- SLOTS of a reel. -/
def rlSlots (s : State) (c : Fin 8) (r : Nat) : Nat := rlGet s c r 3
/-- CONSUMER of a reel (R141). -/
def rlConsumer (s : State) (c : Fin 8) (r : Nat) : Nat := rlGet s c r 4
/-- The local address of slot i of a reel (R141). -/
def slotAddr (s : State) (c : Fin 8) (r i : Nat) : Nat := spBase c + rlGet s c r 1 + i * rlSize s c r
/-- The bytes of a reel's whole ring. -/
def ringBytes (s : State) (c : Fin 8) (r : Nat) : Nat := rlSlots s c r * rlSize s c r
/-- A reel number as an index. -/
def toReel (r : Nat) : Fin 32 := ⟨r % 32, Nat.mod_lt _ (by decide)⟩
/-- The state with f applied to the lists of a reel. -/
def modReel (s : State) (c : Fin 8) (r : Nat) (f : Reel → Reel) : State :=
  modC s c (fun k => { k with reels := vmod k.reels (toReel r) f })
/-- The lists of a reel. -/
def reelOf (s : State) (c : Fin 8) (r : Nat) : Reel := s.cl[c].reels[toReel r]

/-- A slot at the tail can be reserved (R142). -/
def reelFree (s : State) (c : Fin 8) (r : Nat) : Bool := decide (rlGet s c r 7 < rlSlots s c r)
/-- The slot at the tail is reserved (R142, 1). -/
def reelReserve (s : State) (c : Fin 8) (r : Nat) : State :=
  let t := rlGet s c r 6
  modReel (rlSet (rlSet s c r 6 ((t + 1) % rlSlots s c r)) c r 7 (rlGet s c r 7 + 1)) c r
    (fun l => { l with resv := l.resv ++ [(t, false)] })
/-- The first reservation takes its commit effect (R142, 2). -/
def reelCommitHead (s : State) (c : Fin 8) (r : Nat) : State :=
  let s1 := rlSet s c r 8 (rlGet s c r 8 + 1)
  modReel (rlSet s1 c r 9 (rlGet s1 c r 9 + 1)) c r (fun l => { l with resv := l.resv.tail })
/-- A reservation of a slot is still uncommitted. -/
def reelHolds (s : State) (c : Fin 8) (r i : Nat) : Bool := (reelOf s c r).resv.any (fun x => x.1 == i)
/-- The writes of slot i are complete: it commits, unless an earlier reservation has not committed (R142, 2). -/
def reelCommit (s : State) (c : Fin 8) (r i : Nat) : State :=
  match (reelOf s c r).resv with
  | (j, false) :: _ => if j = i then reelCommitHead s c r else modReel s c r (fun l => { l with resv := l.resv.map (fun x => if x.1 = i then (i, true) else x) })
  | _ => modReel s c r (fun l => { l with resv := l.resv.map (fun x => if x.1 = i then (i, true) else x) })
/-- The oldest committed slot that no consumer has claimed. -/
def reelNext (s : State) (c : Fin 8) (r : Nat) : Nat := (rlGet s c r 5 + (reelOf s c r).claims.length) % rlSlots s c r
/-- A committed slot is ready (R142, 3). -/
def reelReady (s : State) (c : Fin 8) (r : Nat) : Bool := decide (0 < rlGet s c r 8)
/-- The oldest committed slot is claimed (R142, 3). -/
def reelClaim (s : State) (c : Fin 8) (r : Nat) : State :=
  modReel (rlSet s c r 8 (rlGet s c r 8 - 1)) c r (fun l => { l with claims := l.claims ++ [(reelNext s c r, false)] })
/-- The first claim is released (R142, 4). -/
def reelReleaseHead (s : State) (c : Fin 8) (r : Nat) : State :=
  modReel (rlSet (rlSet s c r 5 ((rlGet s c r 5 + 1) % rlSlots s c r)) c r 7 (rlGet s c r 7 - 1)) c r
    (fun l => { l with claims := l.claims.tail })
/-- A consumer has made its last read of slot i: the slot is released, unless an earlier claim is not (R142, 4). -/
def reelRelease (s : State) (c : Fin 8) (r i : Nat) : State :=
  match (reelOf s c r).claims with
  | (j, false) :: _ => if j = i then reelReleaseHead s c r else modReel s c r (fun l => { l with claims := l.claims.map (fun x => if x.1 = i then (i, true) else x) })
  | _ => modReel s c r (fun l => { l with claims := l.claims.map (fun x => if x.1 = i then (i, true) else x) })
/-- REEL_COMMIT (R142): the first reservation, whose writes are complete, commits. -/
def reelCommitNext (s : State) (c : Fin 8) (r : Nat) : State :=
  match (reelOf s c r).resv with
  | (_, true) :: _ => reelCommitHead s c r
  | _ => s
/-- REEL_RELEASE (R142): the first claim, whose reads are complete, is released. -/
def reelReleaseNext (s : State) (c : Fin 8) (r : Nat) : State :=
  match (reelOf s c r).claims with
  | (_, true) :: _ => reelReleaseHead s c r
  | _ => s
/-- REEL_EMPTY (R600): the pointers and counts of a reel return to 0. -/
def reelEmpty (s : State) (c : Fin 8) (r : Nat) : State :=
  modReel ([5, 6, 7, 8].foldl (fun s sub => rlSet s c r sub 0) s) c r (fun _ => { resv := [], claims := [] })

/-! The bindings of the dailies (R424, R426). -/

/-- The cluster of binding b (R424). -/
def bindCluster (s : State) (b : Nat) : Fin 8 := toFin8 (bits (oget s 0x6010 (b + 1)) 5 3)
/-- DLY_BINDING of binding b (R424). -/
def bindWord (s : State) (b : Nat) : Nat := oget s 0x6010 (b + 1)
/-- Its engine. -/
def bindEngine (s : State) (b : Nat) : Nat := bits (bindWord s b) 8 1
/-- Its reel. -/
def bindReel (s : State) (b : Nat) : Nat := bits (bindWord s b) 0 5
/-- Its partition: that of its cluster (R424). -/
def bindPart (s : State) (b : Nat) : Fin 8 := partOf s (bindCluster s b)
/-- The cluster whose reel the engine reads: in PAIRED mode the leader's (R448). -/
def bindReader (s : State) (b : Nat) : Fin 8 := if paired s then leader (bindCluster s b) else bindCluster s b
/-- The clusters whose reels follow a claim, reservation or commit of binding b: both of a pair (R448). -/
def bindBoth (s : State) (b : Nat) : List (Fin 8) :=
  let c := bindReader s b
  if paired s then [c, mirrorOf c] else [c]
/-- The slot of a claimed order is released (R426, 3). -/
def slotDone (s : State) (b : Nat) (slot : Option Nat) : State :=
  match slot with
  | some i => (bindBoth s b).foldl (fun s c => reelRelease s c (bindReel s b) i) s
  | none => s

end Sys2Proof.Machine
end

