-- ==== Sys2Proof/Machine/Score.lean ====
section
/-! DEFINITION. Machine/Score.lean: the fields shared by every op block (R336, R337), signals (R48), faults of a queued operation
(R63), the fields of the matrix queue's blocks (R339-R342), the registers that an operation reads and writes, and the
scoreboard (R51-R53). -/

namespace Sys2Proof.Machine

/-! The header. -/

/-- GATE_EN. -/
def hGateEn (b : OpBlock) : Bool := fld b 79 1 == 1
/-- SIG_EN. -/
def hSigEn (b : OpBlock) : Bool := fld b 94 1 == 1
/-- GATE_CLAPPER. -/
def hGateClap (b : OpBlock) : Nat := fld b 64 14
/-- SIG_CLAPPER. -/
def hSigClap (b : OpBlock) : Nat := fld b 80 14
/-- SIG_INC. -/
def hSigInc (b : OpBlock) : Nat := fld b 96 16
/-- A reserved bit or value of the header (R336, R337): bit 95, or a signal with increment 0. -/
def hBad (b : OpBlock) : Bool := fld b 95 1 == 1 || (hSigEn b && hSigInc b == 0)
/-- Some bit of the listed fields (low bit, width) is set (R338). -/
def anySet (b : OpBlock) (l : List (Nat × Nat)) : Bool := l.any (fun x => fld b x.1 x.2 != 0)

/-- The ENGINE value of an operation (R12). -/
def engineOf (k : OpKind) (b : OpBlock) : Nat :=
  match k with
  | .mma => 1
  | .vec => 2 | .prepA => 2 | .prepB => 2 | .grade => 2
  | .red => 3
  | .stream => 4 + fld b 112 2 | .gather => 4 + fld b 112 2 | .tsend => 4 + fld b 112 2
  | .digest => 11
  | .clap => 8
  | _ => 12

/-- The global address of clapper n of this module. -/
def clapGlobal (s : State) (n : Nat) : Nat := 2 ^ 48 * (modNum s % 32768) + clapAddr n
/-- The report of a fault of an operation; COLD_SCALE is set for one in flight that used a range register cold (R9, R94). -/
def opRep (s : State) (c : Fin 8) (e : QEntry) (code addr detail : Nat) : FaultRep :=
  { repOf s c (engineOf e.kind e.blk) e.pc e.instr code addr detail with cold := s.cl[c].flights.any (fun f => f.e.id == e.id && f.cold) }
/-- An operation faults (R63). -/
def opFault (s : State) (c : Fin 8) (e : QEntry) (code addr detail : Nat) : State := raiseF s (opRep s c e code addr detail)

/-- The signals of one operation keep their order at every home (R135, R190): its number among all clusters' operations. -/
def sigGroup (c : Fin 8) (id : Nat) : Nat := 1 + 8 * id + c.val
/-- An ADD of a signal of operation id sets out (R48, R190); the report is that of a poisoned clapper (R302). -/
def sendSignal (s : State) (c : Fin 8) (f : FaultRep) (id engine clap inc : Nat) : State :=
  emitClap s c f { unit := 16 * c.val + engine, op := 2, clap := clap, val := BitVec.ofNat 64 inc, cmp := 0, ret := .none,
                   bad := some { f with code := 7, addr := clapGlobal s clap, detail := det 0xF1 0 0 0 }, grp := sigGroup c id }
/-- OP_SIGNAL (R48): the operation's own signal. -/
def opSignal (s : State) (c : Fin 8) (e : QEntry) : State :=
  if hSigEn e.blk then
    sendSignal s c (opRep s c e 0 0 0) e.id (if e.kind = .digest then 4 + fld e.blk 112 2 else engineOf e.kind e.blk) (hSigClap e.blk) (hSigInc e.blk)
  else s

/-! Registers. -/

/-- A register code as an index. -/
def toReg (n : Nat) : Fin 10 := ⟨n % 10, Nat.mod_lt _ (by decide)⟩
/-- Register n of cluster c. -/
def treg (s : State) (c : Fin 8) (n : Nat) : TReg := if n < 10 then s.cl[c].reg[toReg n] else TReg.reset
/-- The state with register n of cluster c replaced. -/
def putReg (s : State) (c : Fin 8) (n : Nat) (r : TReg) : State :=
  if n < 10 then modC s c (fun k => { k with reg := vset k.reg (toReg n) r }) else s
/-- The code of element (r, j): written, or undefined (R41, R160). -/
def TReg.at (t : TReg) (r j : Nat) : Nat := mget (Config.freeElem t.draw (r * 8192 + j) % 2 ^ fmtBits t.fmt) t.el (r * 8192 + j)
/-- The granule of column j (R159). -/
def granOfCol (fmt j : Nat) : Nat := j * fmtBits fmt / 512
/-- Element (r, j) lies in a poisoned granule. -/
def TReg.bad (t : TReg) (r j : Nat) : Bool := mget false t.poison (r * 8192 + granOfCol t.fmt j)
/-- Some granule of a region is poisoned. -/
def TReg.anyBad (t : TReg) (r0 c0 rows cols : Nat) : Bool :=
  decide (cols ≠ 0) && t.poison.any (fun p =>
    p.2 && decide (r0 ≤ p.1 / 8192) && decide (p.1 / 8192 < r0 + rows) &&
      decide (granOfCol t.fmt c0 ≤ p.1 % 8192) && decide (p.1 % 8192 ≤ (c0 + cols - 1) * fmtBits t.fmt / 512))
/-- The elements listed as (row, column, code, poison) are written (R159): a granule that the write fills, columns c0 to
c0 + n - 1 of its row, takes the poison of its source; one written in part keeps the old poison and gains the new. -/
def TReg.write (t : TReg) (c0 n : Nat) (l : List (Nat × Nat × Nat × Bool)) : TReg :=
  let el := l.foldl (fun m x => mput m (x.1 * 8192 + x.2.1) (x.2.2.1 % 2 ^ fmtBits t.fmt)) t.el
  let grans := (l.map (fun x => x.1 * 8192 + granOfCol t.fmt x.2.1)).eraseDups
  let per := 512 / fmtBits t.fmt
  let poison := grans.foldl (fun m g =>
    let lo := g % 8192 * per
    let hi := min (lo + per) t.cols
    let whole := decide (c0 ≤ lo) && decide (hi ≤ c0 + n)
    let new := l.any (fun x => x.1 * 8192 + granOfCol t.fmt x.2.1 == g && x.2.2.2)
    mset false m g (new || (!whole && mget false t.poison g))) t.poison
  { t with el := el, poison := poison }

/-- A region (row, column, rows, columns) lies inside a register (R164). -/
def inReg (t : TReg) (r0 c0 : Int) (rows cols : Nat) : Bool :=
  rows == 0 || cols == 0 ||
    (t.fmt != 0 && decide (0 ≤ r0) && decide (0 ≤ c0) && decide (r0 + rows ≤ t.rows) && decide (c0 + cols ≤ t.cols))

/-- A region of a register becomes undefined: each element a free value; its poison stays. -/
def undefReg (s : State) (c : Fin 8) (n r0 c0 rows cols : Nat) : State :=
  let t := treg s c n
  let l := (List.range rows).flatMap (fun r => (List.range cols).map (fun j =>
    (r0 + r, c0 + j, Config.free (s.fresh + r * cols + j), t.bad (r0 + r) (c0 + j))))
  putReg { s with fresh := s.fresh + rows * cols } c n (t.write c0 cols l)
/-- The n bytes at local address a become undefined: each a free value; their poison stays. -/
def undefMem (s : State) (a n : Nat) : State :=
  wrMarked { s with fresh := s.fresh + n } a
    ((List.range n).map (fun i => (BitVec.ofNat 8 (Config.free (s.fresh + i)), granBad s ((a + i) / 64))))

/-! Fields of the matrix queue's blocks. -/

/-- FMT_i, ROWS_i, COLS_i of a TCFG (R339). -/
def cfgOf (b : OpBlock) (i : Nat) : Nat × Nat × Nat := (fld b (128 + 32 * i + 28) 4, fld b (128 + 32 * i + 14) 14, fld b (128 + 32 * i) 14)
/-- The configuration (format, rows, columns) of a register; an unconfigured one has no rows and no columns (R160). -/
def curCfg (t : TReg) : Nat × Nat × Nat := (t.fmt, t.rows, t.cols)
/-- The configuration that a TCFG gives: format 0 ignores the counts (R161). -/
def newCfg (b : OpBlock) (i : Nat) : Nat × Nat × Nat := if (cfgOf b i).1 = 0 then (0, 0, 0) else cfgOf b i
/-- Register i is named in CFG_MASK. -/
def inMask (b : OpBlock) (i : Nat) : Bool := fld b (112 + i) 1 == 1

/-- The fields of an MMA (R341). -/
structure MmaF where
  aFmt : Nat
  bFmt : Nat
  acc : Nat
  accum : Bool
  resc : Bool
  passes : Nat
  sat : Bool
  alt : Bool
  chain : Bool
  qs : Bool
  m : Nat
  n : Nat
  k : Nat
  batch : Nat
deriving DecidableEq, Repr

/-- The fields of an MMA block that are not positions. -/
def mmaF (b : OpBlock) : MmaF :=
  { aFmt := fld b 112 4, bFmt := fld b 116 4, acc := 8 + fld b 120 1, accum := fld b 121 1 == 1, resc := fld b 122 1 == 1,
    passes := fld b 123 2, sat := fld b 125 1 == 1, alt := fld b 126 1 == 1, chain := fld b 127 1 == 1,
    qs := fld b 128 1 == 1, m := fld b 129 10, n := fld b 139 10, k := fld b 149 14, batch := fld b 163 16 }
/-- The register of element i's A operand (R183). -/
def aReg (b : OpBlock) (i : Nat) : Int := (fld b 179 3 : Nat) + i * sfld b 185 4
/-- The register of element i's B operand (R183). -/
def bReg (b : OpBlock) (i : Nat) : Int := (fld b 182 3 : Nat) + i * sfld b 189 4
/-- The origin of element i's A region (R183). -/
def aOrg (b : OpBlock) (i : Nat) : Int × Int := ((fld b 193 13 : Nat) + i * sfld b 245 14, (fld b 206 13 : Nat) + i * sfld b 259 14)
/-- The origin of element i's B region (R183). -/
def bOrg (b : OpBlock) (i : Nat) : Int × Int := ((fld b 219 13 : Nat) + i * sfld b 273 14, (fld b 232 13 : Nat) + i * sfld b 287 14)
/-- The index that steps the output of element i (R183). -/
def grpOf (b : OpBlock) (i : Nat) : Nat := if (mmaF b).qs then i / 4 else i
/-- The origin of element i's output within its quadrant (R183). -/
def cOrgQ (b : OpBlock) (i : Nat) : Int × Int :=
  ((fld b 301 9 : Nat) + grpOf b i * sfld b 319 10, (fld b 310 9 : Nat) + grpOf b i * sfld b 329 10)
/-- The origin of element i's output region (R183). -/
def cOrg (b : OpBlock) (i : Nat) : Int × Int :=
  let o := cOrgQ b i
  if (mmaF b).qs then (256 * (i % 4 / 2 : Nat) + o.1, 256 * (i % 4 % 2 : Nat) + o.2) else o
/-- The plane of element i (R183). -/
def planeOf (b : OpBlock) (i : Nat) : Nat :=
  let f := mmaF b
  if f.alt && grpOf b i % 2 == 1 then 17 - f.acc else f.acc
/-- The MMA moves nothing (R191). -/
def mmaEmpty (b : OpBlock) : Bool := let f := mmaF b; f.m == 0 || f.n == 0 || f.batch == 0
/-- The number of units of an MMA: elements, quadrant groups (R186), or one chain (R185) counted by its elements. -/
def mmaUnits (b : OpBlock) : Nat := let f := mmaF b; if f.qs then (f.batch + 3) / 4 else f.batch
/-- The elements of unit u. -/
def unitElems (b : OpBlock) (u : Nat) : List Nat :=
  let f := mmaF b
  if f.qs then (List.range 4).filterMap (fun q => if 4 * u + q < f.batch then some (4 * u + q) else none) else [u]

/-- Registers r, …, r + n - 1 of the tile registers. -/
def regRun (r : Int) (n : Nat) : List Nat :=
  (List.range n).filterMap (fun (i : Nat) => if 0 ≤ r + (i : Int) ∧ r + (i : Int) < 8 then some (r + (i : Int)).toNat else none)
/-- The A (B) registers that the elements from unit u on read. -/
def aRegs (b : OpBlock) (u : Nat) : List Nat :=
  ((List.range (mmaF b).batch).filter (fun i => decide (u ≤ grpOf b i))).flatMap (fun i => regRun (aReg b i) (mmaF b).passes) |>.eraseDups
def bRegs (b : OpBlock) (u : Nat) : List Nat :=
  ((List.range (mmaF b).batch).filter (fun i => decide (u ≤ grpOf b i))).flatMap (fun i => regRun (bReg b i) (mmaF b).passes) |>.eraseDups
/-- The planes that the elements write. -/
def planesOf (b : OpBlock) : List Nat := ((List.range (mmaF b).batch).map (planeOf b)).eraseDups

/-- The registers that an operation reads (R51). -/
def rdSet (e : QEntry) : List Nat :=
  let b := e.blk
  match e.kind with
  | .tst => [fld b 112 4]
  | .mma => if mmaEmpty b then [] else aRegs b 0 ++ bRegs b 0 ++ (if (mmaF b).accum then planesOf b else [])
  | .prepA => if mmaEmpty b then [] else aRegs b 0
  | .prepB => if mmaEmpty b then [] else bRegs b 0
  | .grade => if mmaEmpty b then [] else planesOf b
  | _ => []
/-- The registers that an operation other than a TCFG writes (R51). -/
def wrSet (e : QEntry) : List Nat :=
  let b := e.blk
  match e.kind with
  | .tld => (List.range (max 1 (fld b 123 2))).map (fun i => fld b 112 4 + i)
  | .mma => if mmaEmpty b then [] else planesOf b
  | .prepA => if mmaEmpty b then [] else aRegs b 0
  | .prepB => if mmaEmpty b then [] else bRegs b 0
  | _ => []

/-! The scoreboard. -/

/-- The configurations that the registers will have after the TCFGs of a list of waiting entries (R162). -/
def cfgAfter (k : Cluster) (l : List QEntry) (i : Nat) : Nat × Nat × Nat :=
  l.foldl (fun cur e => if e.kind = .tcfg && inMask e.blk i then newCfg e.blk i else cur) (curCfg (k.reg[toReg i]))
/-- The registers that a TCFG changes, after the TCFGs waiting before it (R162). -/
def cfgChanges (k : Cluster) (e : QEntry) : List Nat :=
  (List.range 10).filter (fun i =>
    inMask e.blk i && decide (newCfg e.blk i ≠ cfgAfter k (k.mq.filter (fun x => decide (x.id < e.id))) i))
/-- The planes that a grade slot has still to read (R52): those of elements whose drain has not been read. -/
def gradeRd (k : Cluster) (e : QEntry) : List Nat :=
  match k.mma.find? (fun r => r.id == e.mma), k.flights.find? (fun f => f.e.id == e.mma) with
  | some r, some _ =>
    ((List.range (mmaF e.blk).batch).filter (fun i => decide (r.next ≤ grpOf e.blk i)) ++
      (r.units.filter (fun u => decide (u.stage < 4))).flatMap (fun u => u.res.map (fun x => x.1))).map (planeOf e.blk) |>.eraseDups
  | _, _ => rdSet e
/-- The pending reads of a waiting entry. -/
def waitRd (k : Cluster) (e : QEntry) : List Nat := if e.kind = .grade then gradeRd k e else rdSet e
/-- The pending writes of a waiting entry. -/
def waitWr (k : Cluster) (e : QEntry) : List Nat := if e.kind = .tcfg then cfgChanges k e else wrSet e

/-- An earlier unfinished operation holds entry e back (R51, conditions 3 and 4; R53). -/
def held (k : Cluster) (e : QEntry) : Bool :=
  let rd := rdSet e
  let wr := waitWr k e
  let hits (r w : List Nat) : Bool := w.any (fun x => rd.contains x || wr.contains x) || r.any (fun x => wr.contains x)
  (k.mq ++ k.vq).any (fun x => decide (x.id < e.id) && hits (waitRd k x) (waitWr k x)) ||
    k.flights.any (fun f => decide (f.e.id < e.id) &&
      (hits f.rd f.wr || (e.kind == .tcfg && (rdSet f.e ++ wrSet f.e).any (fun x => wr.contains x))))

/-- A dispatched operation joins the flights. -/
def newFlight (e : QEntry) (snap : RangeReg) (cold : Bool) : Flight :=
  { e := e, rd := rdSet e, wr := wrSet e, snap := snap, cold := cold, outst := 0, phase := 0 }
/-- The state with f applied to the flight of operation id. -/
def modFlight (s : State) (c : Fin 8) (id : Nat) (f : Flight → Flight) : State :=
  modC s c (fun k => { k with flights := mapIf (fun x => x.e.id == id) f k.flights })
/-- The flight of operation id. -/
def flightOf (s : State) (c : Fin 8) (id : Nat) : Option Flight := s.cl[c].flights.find? (fun f => f.e.id == id)
/-- The operation retires. -/
def dropFlight (s : State) (c : Fin 8) (id : Nat) : State :=
  modC s c (fun k => { k with flights := k.flights.filter (fun f => f.e.id != id) })
/-- The waiter of a gate leaves its clapper. -/
def dropWaiter (s : State) (w : Who) : State :=
  { s with waiters := s.waiters.filter (fun x => x.who != w), freed := s.freed.filter (fun x => x != w) }
/-- An operation that runs faults and ends. -/
def flightFault (s : State) (c : Fin 8) (f : Flight) (code addr detail : Nat) : State :=
  dropFlight (raiseF s (opRep s c f.e code addr detail)) c f.e.id

/-! Windows and regions. -/

/-- The extent of a side from its window's base (R138): row bytes of the innermost run, and spans of the outer dimensions. -/
def extent (off cnt0 bits : Nat) (dims : List (Nat × Int)) : Int × Int :=
  dims.foldl (fun e d =>
    let span : Int := ((d.1 : Int) - 1) * d.2
    if span < 0 then (e.1 + span, e.2) else (e.1, e.2 + span)) ((off : Int), (off : Int) + ((cnt0 * bits + 7) / 8 : Nat))
/-- The extent lies in a window of size bytes (R138). -/
def inWindow (e : Int × Int) (size : Nat) : Bool := decide (0 ≤ e.1) && decide (e.2 ≤ size)
/-- The module (or none for another module) and local address of a global address. -/
def toLocal (s : State) (g : Nat) : Option Nat := if g < 2 ^ 63 ∧ isLocal s g then some (localPart g) else none
/-- The bytes [a, a + n) lie in memory and wholly inside one protection region of the job with the right. -/
def memOk (s : State) (c : Fin 8) (a n : Nat) (write : Bool) : Bool := inMem a n && protOk s (partOf s c) a n write

end Sys2Proof.Machine
end

