-- ==== Sys2Proof/Machine/Time.lean ====
section
/-! DEFINITION. Machine/Time.lean: the timecode tree (R311-R321): hop distance, candidate parents, the exchange, the first
synchronization, holdover, and the root's role. -/

namespace Sys2Proof.Machine

/-- The size of dimension d (R24). -/
def torus (s : State) (d : Nat) : Nat := oget s 0x1011 (d + 1)
/-- Coordinate d of module m (R24). -/
def coord (m d : Nat) : Nat := bits m (5 * d) 5
/-- The module whose coordinates are those of m, but a in dimension d. -/
def withCoord (m d a : Nat) : Nat := m - coord m d * 2 ^ (5 * d) + a * 2 ^ (5 * d)
/-- The neighbour of this module through port p (R24). -/
def neighbour (s : State) (p : Fin 6) : Nat :=
  let d := p.val % 3
  let t := torus s d
  let a := coord (modNum s) d
  withCoord (modNum s) d (if p.val < 3 then (a + 1) % t else (a + t - 1) % t)
/-- The hop distance of module m from TIME_ROOT (R313). -/
def hopDist (s : State) (m : Nat) : Nat :=
  (List.range 3).foldl (fun x d =>
    let t := torus s d
    let u := (coord m d + t - coord (oget s 0x1102 0)  d) % t
    x + min u (t - u)) 0
/-- This module is TIME_ROOT. -/
def isTimeRoot (s : State) : Bool := !unnumbered s && modNum s == oget s 0x1102 0
/-- TC_HOPS (R324). -/
def tcHops (s : State) : Nat := if unnumbered s then 0xFF else hopDist s (modNum s)
/-- FAB_PORT_STATE (R384). -/
def portState (s : State) (p : Fin 6) : Nat := oget s (0x5010 + p.val) 2
/-- Port p is UP. -/
def portUp (s : State) (p : Fin 6) : Bool := portState s p == 4
/-- TC_STATE. -/
def tcState (s : State) : Nat := oget s 0x1101 0
/-- TC_PARENT_PORT. -/
def tcParent (s : State) : Nat := oget s 0x1104 0
/-- The order of preference among parents (R313). -/
def parentOrder : List (Fin 6) := [0, 3, 1, 4, 2, 5]
/-- Port p leads to a candidate parent (R313). -/
def isCandidate (s : State) (p : Fin 6) : Bool :=
  !unnumbered s && !isTimeRoot s && portUp s p && hopDist s (neighbour s p) + 1 == hopDist s (modNum s)
/-- Port p leads to a candidate parent that is known to be SYNCED or ROOT. -/
def goodParent (s : State) (p : Fin 6) : Bool :=
  isCandidate s p && (match s.tm.nbr[p] with
    | some (st, _) => st == 2 || st == 4
    | none => false)
/-- The parent (R313, R319): the one there is while it is SYNCED or ROOT, else the first such candidate (log entry 95). -/
def bestParent (s : State) : Option (Fin 6) :=
  match (fins 6).find? (fun p => p.val == tcParent s && goodParent s p) with
  | some p => some p
  | none => parentOrder.find? (goodParent s)
/-- The state with f applied to the timecode's own state. -/
def modTm (s : State) (f : TimeSt → TimeSt) : State := { s with tm := f s.tm }
/-- The condition of TC_NO_PARENT holds (R321). -/
def bare (s : State) : Bool := !unnumbered s && !isTimeRoot s && (fins 6).any (portUp s) && (bestParent s).isNone
/-- Since when the condition of TC_NO_PARENT holds. -/
def noteBare (s : State) : State :=
  if bare s then modTm s (fun t => { t with bareSince := some (t.bareSince.getD s.now) })
  else modTm s (fun t => { t with bareSince := none, bareLogged := none })

/-- The module enters HOLDOVER (R319): it keeps its last rate correction; the event names its last parent port, and it is counted (R324). -/
def enterHoldover (s : State) (last : Nat) : State :=
  logEv (obump (modTm (oset s 0x1101 0 3) (fun t => { t with holdSince := some s.now, holdLogged := false })) 0x110B 0 1) 0xC4 0x0A02 0
    (payOf [(16, last)])
/-- The choice of a parent anew (R313, R319): a change of parent is logged as TC_PARENT_CHANGE and counted; a synchronized module
without a candidate enters HOLDOVER. A module that regains a parent reads ACQUIRING until it is SYNCED again (log entry 21). -/
def tcReparent (s : State) : State :=
  let old := tcParent s
  let new := match bestParent s with
    | some p => p.val
    | none => 0xFF
  if isTimeRoot s then s
  else if old = new then noteBare s
  else
    let s1 := modTm (oset s 0x1104 0 new) (fun t => { t with thetas := [], good := 0, lastParent := old })
    let st := tcState s
    noteBare (
      if new = 0xFF then
        if s.unsync then oset s1 0x1101 0 0
        else enterHoldover s1 old
      else if old ≠ 0xFF then logEv (obump s1 0x110B 0 1) 0xC4 0x0A05 0 (payOf [(16, old), (17, new)])
      else if st = 0 ∨ st = 3 ∨ st = 5 then oset s1 0x1101 0 1 else s1)

/-- The state with the timecode stepped by d ns; every replica follows. -/
def stepTc (s : State) (d : Int) : State :=
  modTm { s with tc := ((s.tc : Int) + d).toNat } (fun t => { t with rep := Vector.replicate 24 (0, false) })

/-- TC_FIRST_SYNC (R317): the one step, its record, and the end of UNSYNC. -/
def firstSync (s : State) (d : Int) (port hop : Nat) : State :=
  let s1 := oset (oset (stepTc s d) 0x1109 0 s.tc) 0x110A 0 (i2n 8 d)
  { logEv s1 0xC4 0x0A01 0 (payOf [(16, s.tc), (24, i2n 8 d), (32, port), (33, hop)]) with unsync := false }

/-- A rate correction within 200 ppm (R314), in units of 10^-12; its value is left open (log entry 5). -/
def slew (s : State) : State :=
  let d := draw s
  oset d.2 0x1107 0 (i2n 4 ((d.1 % 400000001 : Nat) - 200000000))

/-- The IEEE 1588 clock of E0 is off (R441): PTP_STATE reads 0, and nothing of the clock is left. -/
def ptpOff (s : State) : State :=
  { oset s 0x6042 0 0 with dly := { s.dly with ptpGood := 0, ptpMaster := 0, ptp := Ptp.reset } }
/-- The clock of E0 listens (R441). -/
def ptpListen (s : State) : State := oset (ptpOff s) 0x6042 0 1
/-- A module that is the root no more (R320): it reacquires a parent by slewing; with none it is in HOLDOVER, or UNSYNC when it has never
synchronized. -/
def deposed (s : State) : State :=
  match bestParent s with
  | some p => noteBare (modTm (oset (oset s 0x1104 0 p.val) 0x1101 0 1) (fun t => { t with thetas := [], good := 0 }))
  | none => noteBare (if s.unsync then oset s 0x1101 0 0 else enterHoldover s 0xFF)
/-- The role of this module in the time tree after TIME_ROOT or TC_SOURCE took effect (R317, R318, R320): a root with TC_SOURCE 0 is ROOT at
once; one with TC_SOURCE 1 waits for its first lock, unless its clock has locked already; another module's E0 has no clock. -/
def timeRole (s : State) : State :=
  if isTimeRoot s then
    let s1 := modTm (oset s 0x1104 0 0xFF) (fun t => { t with holdSince := none })
    if oget s 0x1103 0 = 0 then { oset (ptpOff s1) 0x1101 0 4 with unsync := false }
    else if oget s 0x6042 0 = 0 then oset (ptpListen s1) 0x1101 0 1
    else s1
  else
    let s1 := ptpOff s
    if tcState s = 4 ∨ (tcState s = 1 ∧ tcParent s = 0xFF) then deposed s1 else tcReparent s1

/-- A control message waits at port p (R369). -/
def sendCtl (s : State) (p : Fin 6) (m : List Byte) : State :=
  { s with fab := { s.fab with port := vmod s.fab.port p (fun x => { x with ctl := x.ctl ++ [m] }) } }
/-- The first control message of a type that port p has received, with its arrival time, and the state without it. -/
def takeCtl (s : State) (p : Fin 6) (ty : Nat) : Option ((Nat × List Byte) × State) :=
  let l := s.fab.port[p].rxCtl
  match findIdx (fun (x : Nat × List Byte) => ofLE (slice x.2 0 1) == ty) l 0 with
  | some i => (l[i]?).map (fun m => (m, { s with fab := { s.fab with port := vmod s.fab.port p (fun x => { x with rxCtl := dropAt x.rxCtl i }) } }))
  | none => none

/-- TC_REPLICA_CORRECT (R311): a replica is corrected from the master to lead it by 0 or 1 ns; a lead is given up at the next
nanosecond, so that reads never decrease. -/
def replicaCorrect (s : State) (i : Nat) (off : Bool) : State :=
  modTm s (fun t => { t with rep :=
    if h : i < 24 then t.rep.set i (if off then (1, false) else if t.rep[i].1 = 0 then (0, false) else (1, true)) h else t.rep })

/-- TIME_EXCHANGE_START (R314, R319): every 1 ms the child asks its parent, and each other candidate for its state. -/
def timeExchangeStart (s : State) : State :=
  let due := match s.tm.asked with
    | some t => decide (t + 1000000 ≤ s.now)
    | none => true
  if !due then s
  else
    let s1 := modTm s (fun t => { t with asked := some s.now })
    (fins 6).foldl (fun s p =>
      if portUp s p && (isCandidate s p || tcParent s == p.val) then sendCtl s p (toLE 1 2 ++ zeros 31) else s) s1

/-- TIME_REQ (R314, R369): the parent answers with its state, its hop distance, t1 and t2; t3 is written as the flit leaves. -/
def timeReq (s : State) (p : Fin 6) : State :=
  match takeCtl s p 2 with
  | none => s
  | some (m, s1) =>
    sendCtl s1 p (toLE 1 3 ++ toLE 1 (tcState s) ++ toLE 1 (tcHops s) ++ zeros 5 ++ slice m.2 8 8 ++ toLE 8 m.1 ++ zeros 8)

/-- TIME_RESP (R314, R315, R317, R319): the child learns the state of its neighbour; from its parent it computes θ, steps once after four
exchanges, and slews; it computes the path delay δ as well. -/
def timeResp (s : State) (p : Fin 6) : State :=
  match takeCtl s p 3 with
  | none => s
  | some (m, s0) =>
    let st := ofLE (slice m.2 1 1)
    let s1 := modTm s0 (fun t => { t with nbr := vset t.nbr p (some (st, ofLE (slice m.2 2 1))) })
    if tcParent s1 ≠ p.val then tcReparent s1
    else
      let t1 : Int := ofLE (slice m.2 8 8)
      let t2 : Int := ofLE (slice m.2 16 8)
      let t3 : Int := ofLE (slice m.2 24 8)
      let t4 : Int := m.1
      let th : Int := 500 * ((t2 - t1) - (t4 - t3)) - sext 32 (oget s (0x5010 + p.val) 7)
      let s2 := modTm (oset s1 0x1106 0 (i2n 4 th)) (fun t => { t with delay := 500 * ((t4 - t1) - (t3 - t2)) })
      if st ≠ 2 ∧ st ≠ 4 then tcReparent s2
      else if tcState s2 = 1 ∧ s2.unsync then
        let l := s2.tm.thetas ++ [th]
        if l.length < 4 then modTm s2 (fun t => { t with thetas := l })
        else firstSync (modTm s2 (fun t => { t with thetas := [] })) (l.foldl (· + ·) 0 / 4000) p.val (tcHops s2)
      else
        let s3 := match s2.tm.holdSince with
          | some h => logEv (modTm s2 (fun t => { t with holdSince := none })) 0xC4 0x0A03 0 (payOf [(16, s2.now - h), (24, i2n 4 th), (28, p.val)])
          | none => s2
        let good := if th.natAbs ≤ 1000 then s3.tm.good + 1 else 0
        let s4 := slew (modTm s3 (fun t => { t with good := min good 8 }))
        if 8 ≤ good then oset s4 0x1101 0 2 else s4

/-- TC_HOLDOVER_LIMIT (R319): logged once when the holdover has lasted longer than the limit. -/
def tcHoldoverLimit (s : State) : State :=
  match s.tm.holdSince with
  | some h =>
    if tcState s = 3 ∧ ¬ s.tm.holdLogged ∧ h + oget s 0x1108 0 * 1000000 < s.now then
      tcReparent (logEv (modTm s (fun t => { t with holdLogged := true })) 0xC4 0x0A04 0 (payOf [(16, s.now - h)]))
    else s
  | none => s

/-- TC_NO_PARENT (R321): no candidate parent for 10 s, and again every 60 s. -/
def tcNoParent (s : State) : State :=
  match s.tm.bareSince with
  | some b =>
    let due := match s.tm.bareLogged with
      | some t => decide (t + 60000000000 ≤ s.now)
      | none => decide (b + 10000000000 ≤ s.now)
    if bare s && due then
      let ports := (fins 6).foldl (fun x p => if isCandidate s p then x + 2 ^ p.val else x) 0
      logEv (modTm s (fun t => { t with bareLogged := some s.now })) 0xC4 0x0A09 0
        (payOf [(16, tcHops s), (17, ports), (20, oget s 0x1102 0), (24, tcState s)])
    else s
  | none => s

/-- TC_REPLICA_CORRECT. -/
def execTcReplicaCorrect (i : Nat) (off : Bool) (s : State) : Host.Outcome State Fault Refusal := .next (replicaCorrect s i off)
/-- TIME_EXCHANGE_START. -/
def execTimeExchangeStart (s : State) : Host.Outcome State Fault Refusal := .next (timeExchangeStart s)
/-- TIME_REQ. -/
def execTimeReq (p : Fin 6) (s : State) : Host.Outcome State Fault Refusal := .next (timeReq s p)
/-- TIME_RESP. -/
def execTimeResp (p : Fin 6) (s : State) : Host.Outcome State Fault Refusal := .next (timeResp s p)
/-- TC_HOLDOVER_LIMIT. -/
def execTcHoldoverLimit (s : State) : Host.Outcome State Fault Refusal := .next (tcHoldoverLimit s)
/-- TC_NO_PARENT. -/
def execTcNoParent (s : State) : Host.Outcome State Fault Refusal := .next (tcNoParent s)

end Sys2Proof.Machine
end

