-- ==== Sys2Proof/Machine/Links.lean ====
section
/-! DEFINITION. Machine/Links.lean: packets as bytes (R367, R368), ports (R358-R366), answers (R370) and the fall of a link (R366). -/

namespace Sys2Proof.Machine

/-! Packets. -/

/-- A packet type that asks for a response (R368). -/
def isRequest (p : Packet) : Bool := p.type == 1 || p.type == 2 || p.type == 3
/-- The virtual channel of a packet (R371). -/
def vcOf (p : Packet) : Nat :=
  if !isRequest p then 0 else if p.srcUnit = 0x80 ∨ p.srcUnit = 0x81 then 2 else if p.type = 1 then 3 else 1
/-- The credit pool of a packet (R362). -/
def poolOf (p : Packet) : Fin 8 := toFin8 (2 * (vcOf p % 4) + (if p.cls then 1 else 0))
/-- The size of a pool in 16-byte units (R372). -/
def poolSize (q : Fin 8) : Nat := if q.val / 2 = 0 then 1536 else if q.val / 2 = 1 then 512 else 5120
/-- The units that a packet takes (R367). -/
def unitsOf (p : Packet) : Nat := 2 + cdiv p.data.length 16
/-- The header of a packet (R367). -/
def headerOf (p : Packet) : Nat :=
  p.type + (if p.cls then 16 else 0) + (if p.detour then 32 else 0) + p.dest * 2 ^ 8 + p.srcModule * 2 ^ 23 + p.srcUnit * 2 ^ 38 +
    p.tag * 2 ^ 46 + p.addr * 2 ^ 64 + p.len * 2 ^ 112 + p.opc * 2 ^ 124 + p.poison * 2 ^ 128 + p.job * 2 ^ 160 + p.hops * 2 ^ 176
/-- A packet as bytes. -/
def packetBytes (p : Packet) : List Byte := toLE 32 (headerOf p) ++ p.data ++ zeros (16 * cdiv p.data.length 16 - p.data.length)
/-- The packet whose header is h, with no data. -/
def ofHeader (h : Nat) : Packet :=
  { type := bits h 0 4, cls := bit h 4, detour := bit h 5, dest := bits h 8 15, srcModule := bits h 23 15, srcUnit := bits h 38 8,
    tag := bits h 46 16, addr := bits h 64 48, len := bits h 112 12, opc := bits h 124 4, poison := bits h 128 32, job := bits h 160 16,
    hops := bits h 176 8, data := [] }
/-- The data bytes that follow a header (R368). -/
def dataLen (p : Packet) : Nat :=
  match p.type with
  | 1 => p.len
  | 3 => p.len
  | 8 => p.len
  | 9 => if p.opc = 0 then p.len else 0
  | _ => 0
/-- The packet obeys R368. -/
def packetOk (p : Packet) : Bool :=
  match p.type with
  | 1 => decide (1 ≤ p.len) && decide (p.len ≤ 2048) && decide (p.addr % 2048 + p.len ≤ 2048)
  | 2 => decide (1 ≤ p.len) && decide (p.len ≤ 2048) && decide (p.addr % 2048 + p.len ≤ 2048)
  | 3 => decide (p.len = 16) && decide (p.addr % 64 = 0) && decide (clapBase ≤ p.addr) && decide (p.addr < clapBase + 0x100000)
  | 8 => decide (p.len = 0) || decide (p.len = 8)
  | 9 => decide (1 ≤ p.len) && decide (p.len ≤ 2048) && decide (p.addr % 2048 + p.len ≤ 2048)
  | _ => false
/-- The data of a packet obey R368: CMP of a CLAP is zero unless it is a CAS. -/
def dataOk (p : Packet) : Bool := !(p.type == 3 && p.opc != 6 && ofLE (slice p.data 8 8) != 0)
/-- The packets that the bytes of a channel hold, the bytes of a packet not yet complete, and whether one breaks the protocol
(R366-R368). A PAD ends the stream; the area after its unit is zero (log entry 97). -/
def parsePackets : Nat → List Byte → List Packet → List Packet × List Byte × Bool
  | 0, b, acc => (acc, b, false)
  | n + 1, b, acc =>
    if b.isEmpty then (acc, [], false)
    else if bits (ofLE (b.take 1)) 0 4 = 0 then (acc, [], (b.drop 16).any (fun x => x != 0))
    else
      let p := ofHeader (ofLE (b.take 32))
      if b.length < 32 then (acc, b, false)
      else if !packetOk p then (acc, [], true)
      else
        let k := 32 + 16 * cdiv (dataLen p) 16
        if b.length < k then (acc, b, false)
        else
          let q := { p with data := (b.drop 32).take (dataLen p) }
          if dataOk q then parsePackets n (b.drop k) (acc ++ [q]) else (acc, [], true)

/-! Ports. -/

/-- A number as a port. -/
def toPort (n : Nat) : Fin 6 := ⟨n % 6, Nat.mod_lt _ (by decide)⟩
/-- The state with f applied to port p. -/
def modPort (s : State) (p : Fin 6) (f : FabPort → FabPort) : State := { s with fab := { s.fab with port := vmod s.fab.port p f } }
/-- A subindex of the object of port p (R384). -/
def pget (s : State) (p : Fin 6) (sub : Nat) : Nat := oget s (0x5010 + p.val) sub
/-- The state with it at v. -/
def pset (s : State) (p : Fin 6) (sub v : Nat) : State := oset s (0x5010 + p.val) sub v
/-- A port counter raised. -/
def pbump (s : State) (p : Fin 6) (sub d : Nat) : State := obump s (0x5010 + p.val) sub d
/-- The unit number of port p. -/
def portUnit (p : Fin 6) : Nat := 0x88 + p.val

/-- The buffer of an input port that a packet held is free again (R362); local injection holds none. -/
def freeUnits (s : State) (inp : Nat) (pool : Fin 8) (n : Nat) : State :=
  if inp < 6 then modPort s (toPort inp) (fun x => { x with freed := vmod x.freed pool (fun v => (v + n) % 65536) }) else s

/-- The response to a request (R368, R370): the tag and the issuing unit are echoed (log entry 22). -/
def respTo (s : State) (p : Packet) (status : Nat) (data : List Byte) (poison : Nat) : Packet :=
  { type := if p.type = 2 then 9 else 8, cls := false, detour := false, dest := p.srcModule, srcModule := modNum s % 32768,
    srcUnit := p.srcUnit, tag := p.tag, addr := if p.type = 2 then p.addr else 0, len := if p.type = 2 then p.len else data.length,
    opc := status, poison := poison, job := 0, hops := 0, data := data }
/-- A request is answered: its own module's at once, another's over the fabric. -/
def answer (s : State) (p : Packet) (status : Nat) (data : List Byte) (poison : Nat) : State :=
  let r := respTo s p status data poison
  if p.srcModule = modNum s then { s with fab := { s.fab with inbox := s.fab.inbox ++ [(6, r)] } }
  else { s with fab := { s.fab with queue := s.fab.queue ++ [(6, r)] } }

/-- The suspect unit lies in die N or S, so the links stay down (R31). -/
def linksBarred (s : State) : Bool := drained s && inIoDie (oget s 0x7003 0 % 256)
/-- Training begins at step 1 (R358), unless the links stay down (R31, R379). -/
def trainStart (s : State) (p : Fin 6) : State :=
  if linksBarred s then pset s p 2 1
  else modPort (pset s p 2 2) p (fun x => { x with step := 1, stepAt := s.now, trainAt := s.now, ctl := [], rxCtl := [] })
/-- The link state of a port at UP: sequence numbers, credits and buffers at their start (R362-R366). -/
def freshLink (x : FabPort) : FabPort :=
  { FabPort.reset with step := x.step, stepAt := x.stepAt, trainAt := x.trainAt, backoffAt := x.backoffAt, held := x.held, eq := x.eq,
                       laneRev := x.laneRev, laneInv := x.laneInv,
                       corr := x.corr, fecWarnAt := x.fecWarnAt }

/-- FAB_LINK_DOWN (R366): the port of a link that is UP or MISWIRED drops its retry buffer and partial packets, answers its queued
requests UNROUTABLE, resets its credits, logs the fall, and trains again unless it is disabled, held, or down for a power state or a
drain (reasons 5 and 6). The tree of time chooses anew (R319). -/
def linkDown (s : State) (p : Fin 6) (reason : Nat) : State :=
  let x := s.fab.port[p]
  let wasUp := portState s p == 4 || portState s p == 3
  let s1 := modPort s p (fun x => { freshLink x with step := 0 })
  let s2 := x.txq.foldl (fun s e =>
    let s := freeUnits s e.1 (toFin8 e.2.1) (unitsOf e.2.2)
    if isRequest e.2.2 then answer s e.2.2 4 [] 0 else s) s1
  let s3 := if wasUp then
      logEv (pbump s2 p 14 1) (portUnit p) 0x0302 0 (payOf [(16, p.val), (17, reason), (20, x.retry.length)])
    else s2
  let s4 := modTm s3 (fun t => { t with nbr := vset t.nbr p none })
  let s5 := if pget s4 p 1 = 0 then pset s4 p 2 0
    else if x.held || reason == 5 || reason == 6 then pset s4 p 2 1
    else trainStart s4 p
  tcReparent s5

/-- Every link goes down. -/
def linksDown (s : State) (reason : Nat) : State := (fins 6).foldl (fun s p => if pget s p 1 = 0 then s else linkDown s p reason) s

/-- REPLAY_START (R365): the buffered flits from ACK_SEQ + 1 on are sent again; at FAB_RETRY_LIMIT the link goes down. -/
def startReplay (s : State) (p : Fin 6) : State :=
  let s1 := modPort (pbump s p 13 1) p (fun x =>
    { x with replays := x.replays + 1, replay := x.retry.map (fun e => e.1), replayAck := some x.acked, replayAt := some s.now })
  if oget s 0x5003 0 ≤ s1.fab.port[p].replays then linkDown s1 p 1 else s1

end Sys2Proof.Machine
end

