-- ==== Sys2Proof/Machine/CollCore.lean ====
section
/-! DEFINITION. Machine/CollCore.lean: the routes (R374, R375), groups (R386-R388), call sheets (R393-R395), the division and the
schedules of the ring kinds (R411, R412), messages (R398) and failure (R403, R404, R407) of collectives. -/

namespace Sys2Proof.Machine

/-! Routes. -/

/-- An entry of the default route table (R375). -/
def defaultRoute (s : State) (dst : Nat) : Nat :=
  if unnumbered s then 7
  else if dst = modNum s then 6
  else
    let go (d : Nat) (rest : Nat) : Nat :=
      let t := torus s d
      let a := coord (modNum s) d
      let b := coord dst d
      if t ≤ b then 7
      else if a = b then rest
      else
        let up := (b + t - a) % t
        if up < t - up ∨ (up = t - up ∧ a % 2 = 0) then d else d + 3
    go 0 (go 1 (go 2 7))
/-- The entry of FAB_ROUTE for module m (R374). -/
def routeOf (s : State) (m : Nat) : Nat := (mfind s.fab.route m).getD (defaultRoute s m)
/-- The fabric engine on the die of the port that FAB_ROUTE names for module m (R410). -/
def engineFor (s : State) (m : Nat) : Nat := if bits (routeOf s m) 0 3 < 3 then 0 else 1

/-! Groups. -/

/-- An object of group g (R416). -/
def gget (s : State) (g sub : Nat) : Nat := oget s (0x5100 + g) sub
/-- The state with it at v. -/
def gset (s : State) (g sub v : Nat) : State := oset s (0x5100 + g) sub v
/-- The member list of group g. -/
def membersOf (s : State) (g : Nat) : List Nat := (mfind s.coll.members g).getD []
/-- P (R386). -/
def grpSize (s : State) (g : Nat) : Nat := (membersOf s g).length
/-- GRP_RANK (R386). -/
def grpRank (s : State) (g : Nat) : Nat := (findIdx (fun m => m == modNum s) (membersOf s g) 0).getD 0xFFFF
/-- GRP_HASH (R387). -/
def grpHash (s : State) (g : Nat) : Nat :=
  let l := membersOf s g
  crc32c (l.flatMap (toLE 2) ++ toLE 2 l.length ++ toLE 1 g ++ toLE 2 (gget s g 6))
/-- The partition of group g. -/
def grpPart (s : State) (g : Nat) : Fin 8 := toFin8 (gget s g 2)
/-- The job key of group g's packets (R388). -/
def grpJob (s : State) (g : Nat) : Nat := jobKey s (grpPart s g)
/-- A group never used. -/
def CollGroup.idle : CollGroup := { waiting := [], run := none, rings := 0, heldRts := [], starved := [] }
/-- The state of group g. -/
def groupOf (s : State) (g : Nat) : CollGroup := (mfind s.coll.groups g).getD CollGroup.idle
/-- The state with f applied to group g. -/
def modGrp (s : State) (g : Nat) (f : CollGroup → CollGroup) : State :=
  { s with coll := { s.coll with groups := mput s.coll.groups g (f (groupOf s g)) } }
/-- The state with f applied to the running collective of group g. -/
def modRun (s : State) (g : Nat) (f : CollRun → CollRun) : State := modGrp s g (fun x => { x with run := x.run.map f })
/-- The contexts in use (R391). -/
def contextsUsed (s : State) : Nat := (s.coll.groups.filter (fun x => x.2.run.isSome)).length
/-- A collective counter (R415). -/
def collBump (s : State) (i : Nat) : State := obump s 0x5026 i 1
/-- The module at a rank. -/
def moduleAt (s : State) (g r : Nat) : Nat := ((membersOf s g)[r]?).getD 0
/-- The engine that runs a direction of group g: 0 +, 1 -, 2 toward a peer (R410). -/
def dirEngine (s : State) (g dir peer : Nat) : Nat :=
  let n := grpSize s g
  let r := grpRank s g
  engineFor s (moduleAt s g (if dir = 0 then (r + 1) % n else if dir = 1 then (r + n - 1) % n else peer))

/-! Entries (R394). -/

/-- A field of an entry: n bytes at byte lo. -/
def eF (e : List Byte) (lo n : Nat) : Nat := ofLE (slice e lo n)
def eKind (e : List Byte) : Nat := eF e 15 1
def eFlag (e : List Byte) (i : Nat) : Bool := bit (eF e 14 1) i
def eFmt (e : List Byte) : Nat := eF e 20 1
def eCount (e : List Byte) : Nat := eF e 56 4
def eSrc (e : List Byte) : Nat := eF e 32 8
def eDst (e : List Byte) : Nat := eF e 40 8
def eAux (e : List Byte) : Nat := eF e 48 8
/-- A ring kind (R395). -/
def isRing (e : List Byte) : Bool := decide (8 ≤ eKind e) && decide (eKind e ≤ 11)
/-- The rank of the peer (R395). -/
def ePeer (s : State) (g : Nat) (e : List Byte) : Nat :=
  let p := eF e 24 2
  if eFlag e 2 then (((grpRank s g : Int) + sext 16 p) % (grpSize s g : Int)).toNat else p
/-- Bits per element: kinds 1, 3 and 4 count bytes. -/
def eBits (e : List Byte) : Nat := if eKind e = 1 ∨ eKind e = 3 then 8 else fmtBits (eFmt e)
/-- The bytes of n elements. -/
def eBytes (e : List Byte) (n : Nat) : Nat := (n * eBits e + 7) / 8
/-- The elements in 64 bytes (R411). -/
def eU (e : List Byte) : Nat := 512 / eBits e
/-- B (R411). -/
def eB (e : List Byte) (n : Nat) : Nat := eU e * cdiv (eCount e) (eU e * n)

/-- The elements of a part: block k, its + or - half, as first element and count (R411). ALLGATHER counts in the gathered data. -/
def partOfBlock (e : List Byte) (n k : Nat) (minus : Bool) : Nat × Nat :=
  let c := eCount e
  let cut (a fin h : Nat) : Nat × Nat :=
    let m := min (a + h) fin
    if minus then (m, fin - m) else (a, m - a)
  if eKind e = 8 ∨ eKind e = 9 then
    let b := eB e n
    cut (min (k * b) c) (min ((k + 1) * b) c) (eU e * cdiv b (2 * eU e))
  else
    let h := eU e * cdiv c (2 * eU e)
    if eKind e = 10 then cut (k * c) ((k + 1) * c) h else cut 0 c h

/-- A part that a direction sends (R412): its block and half, whether the receiver reduces it, whether it comes from SRC, else the
direction and number of the part received that it continues. -/
structure Item where
  blk : Nat
  minus : Bool
  red : Bool
  own : Bool
  fdir : Nat
  fidx : Nat
deriving DecidableEq, Repr

/-- The parts that rank r of n sends in direction dir, in order (R412). -/
def sendItems (e : List Byte) (n r dir : Nat) : List Item :=
  let at_ (x : Nat) : Nat := if dir = 0 then (r + 2 * n - x) % n else (r + x) % n
  let mk (j blk : Nat) (red : Bool) : Item := { blk := blk, minus := dir == 1, red := red, own := j == 0, fdir := dir, fidx := j - 1 }
  if n ≤ 1 then []
  else if eKind e = 8 ∧ eFlag e 3 then
    let all := (List.range n).flatMap (fun k => [(2 * k, k, false), (2 * k + 1, k, true)])
    if dir = 0 then
      if r + 1 < n then all.map (fun x => { blk := x.2.1, minus := x.2.2, red := true, own := r == 0, fdir := 0, fidx := x.1 }) else []
    else if 0 < r then
      all.map (fun x => { blk := x.2.1, minus := x.2.2, red := false, own := false, fdir := if r + 1 = n then 0 else 1, fidx := x.1 })
    else []
  else if eKind e = 8 then
    (List.range (2 * (n - 1))).map (fun j => if j < n - 1 then mk j (at_ (1 + j)) true else mk j (at_ (j - (n - 1))) false)
  else if eKind e = 9 then (List.range (n - 1)).map (fun j => mk j (at_ (1 + j)) true)
  else if eKind e = 10 then (List.range (n - 1)).map (fun j => mk j (at_ j) false)
  else
    let q := if dir = 0 then (r + n - eF e 30 2) % n else (eF e 30 2 + n - r) % n
    if q + 1 < n then [{ blk := 0, minus := dir == 1, red := false, own := q == 0, fdir := dir, fidx := 0 }] else []
/-- The parts that rank r receives in direction dir: what its neighbour sends. -/
def recvItems (e : List Byte) (n r dir : Nat) : List Item := sendItems e n (if dir = 0 then (r + n - 1) % n else (r + 1) % n) dir

/-- A chunk: the part it belongs to, its first element and its number of elements (R411). -/
structure Piece where
  idx : Nat
  item : Item
  start : Nat
  n : Nat
deriving DecidableEq, Repr

/-- The chunks of one part. -/
def piecesOf (e : List Byte) (idx : Nat) (it : Item) (start len : Nat) : List Piece :=
  let c := 2 ^ eF e 23 1 * 8 / eBits e
  (List.range (cdiv len c)).map (fun i => { idx := idx, item := it, start := start + i * c, n := min c (len - i * c) })
/-- The chunks of a list of parts, in order. -/
def piecesAll (e : List Byte) (n : Nat) (l : List Item) : List Piece :=
  (l.zipIdx).flatMap (fun x => let p := partOfBlock e n x.1.blk x.1.minus; piecesOf e x.2 x.1 p.1 p.2)
/-- The item of a PUT or REDUCE_PUT. -/
def putItem : Item := { blk := 0, minus := false, red := false, own := true, fdir := 0, fidx := 0 }
/-- The chunks that a lane of direction dir sends for an entry at rank r of n. -/
def sendPieces (e : List Byte) (n r dir : Nat) : List Piece :=
  if dir = 2 then piecesOf e 0 putItem 0 (eCount e) else piecesAll e n (sendItems e n r dir)
/-- The chunks that direction dir receives. -/
def recvPieces (e : List Byte) (n r dir : Nat) : List Piece := if dir = 2 then [] else piecesAll e n (recvItems e n r dir)

/-- The byte offset of a chunk within DST (R411); REDUCESCATTER lands at the chunk's place within its block (log entry 23). -/
def landOff (e : List Byte) (n : Nat) (p : Piece) : Nat :=
  if eKind e = 9 then eBytes e (p.start - p.item.blk * eB e n) else p.start * eBits e / 8
/-- The byte offset of a chunk within SRC. -/
def srcOff (e : List Byte) (p : Piece) : Nat := if eKind e = 10 then (p.start - p.item.blk * eCount e) * eBits e / 8 else p.start * eBits e / 8

/-! Reduction (R409). -/

/-- One element reduction x ⊕ y. -/
def collElem (fmt op : Nat) (sat flush : Bool) (x y : Nat) : Nat × BitVec 8 :=
  match fmtF fmt with
  | some F =>
    let a := fread flush F x
    let b := fread flush F y
    let r := if op = 1 then
        if a.1.isNan || b.1.isNan then (fnan F, snanIV [a.1, b.1])
        else if a.1.isInf && b.1.isInf && a.1.neg != b.1.neg then (fnan F, fIV)
        else fenc F 0 false flush (sumV a.1 b.1)
      else if op = 3 then ((fenc F 0 false false (maxV a.1 b.1)).1, snanIV [a.1, b.1])
      else ((fenc F 0 false false (minV a.1 b.1)).1, snanIV [a.1, b.1])
    (r.1, r.2 ||| a.2 ||| b.2)
  | none =>
    let a := intOf fmt x
    let b := intOf fmt y
    if op = 1 then intToInt fmt sat (a + b) else (codeOf fmt (if op = 3 then max a b else min a b), 0#8)
/-- A reduction of two runs of marked bytes: the result with the poison of either, and its flags. -/
def collReduce (e : List Byte) (flush : Bool) (x y : List (Byte × Bool)) : List (Byte × Bool) × BitVec 8 :=
  let w := fmtBits (eFmt e) / 8
  let n := min x.length y.length / max 1 w
  let r := (List.range n).map (fun i =>
    let xs := (x.drop (i * w)).take w
    let ys := (y.drop (i * w)).take w
    let v := collElem (eFmt e) (eF e 21 1) (eFlag e 4) flush (ofLE (xs.map (·.1))) (ofLE (ys.map (·.1)))
    ((toLE w v.1).map (fun b => (b, xs.any (·.2) || ys.any (·.2))), v.2))
  (r.flatMap (·.1), r.foldl (fun a v => a ||| v.2) 0#8)
/-- Flags go into FLAGS_FABRIC of engine eng (R409, R415). -/
def fabFlags (s : State) (eng : Nat) (fl : BitVec 8) : State := oset s 0x5023 (eng + 1) (oget s 0x5023 (eng + 1) ||| fl.toNat)
/-- FLUSH_MODE_FABRIC of engine eng. -/
def fabFlush (s : State) (eng : Nat) : Bool := oget s 0x5024 (eng + 1) == 1

/-! Messages (R398). -/

/-- The body of a message, completed with its MCRC. -/
def collMsg (s : State) (ty g lane seq k num : Nat) (flags len addr dcrc sigClap sigInc : Nat) : List Byte :=
  let b := zeros 8 ++ toLE 1 ty ++ toLE 1 g ++ toLE 1 lane ++ zeros 1 ++ toLE 1 flags ++ toLE 1 k ++ zeros 6 ++ toLE 8 (tcNow s) ++ zeros 2 ++
    toLE 2 sigClap ++ toLE 2 sigInc ++ toLE 2 (grpRank s g) ++ toLE 4 seq ++ toLE 4 num ++ toLE 4 len ++ toLE 8 addr ++ toLE 4 dcrc
  b ++ toLE 4 (crc32c b)
/-- A message goes to the inbox of the module at a rank (R397). -/
def sendMsg (s : State) (eng g seq k rank : Nat) (m : List Byte) : State :=
  let a := oget s 0x5020 0 + 256 * g + 64 * (eF m 10 1 % 4)
  inject s (reqPacket 1 (0x80 + eng) (moduleAt s g rank * 2 ^ 48 + a) 64 0 (grpJob s g) (m.map (fun b => (b, false)))) (.collMsg g seq k)

/-! Failure. -/

/-- The clapper waits of a group's collective seq end. -/
def dropCollWaits (s : State) (g seq : Nat) (status : Bool) : State :=
  let mine (w : Who) : Bool := match w with
    | .entry g' q _ => g' == g && q == seq
    | .status g' q => status && g' == g && q == seq
    | _ => false
  { s with waiters := s.waiters.filter (fun w => !mine w.who), freed := s.freed.filter (fun w => !mine w) }
/-- A clapper operation of fabric engine eng on a clapper of this module. -/
def engClap (s : State) (eng op clap v : Nat) (ret : ClapRet) : State :=
  { s with clapOps := s.clapOps ++ [{ unit := 0x80 + eng, op := op, clap := clap % 16384, val := BitVec.ofNat 64 v, cmp := 0, ret := ret, bad := none }] }
/-- A CLAP request of an engine to another module (R304). -/
def engRemote (s : State) (g eng m op clap v : Nat) (why : Purpose) : State :=
  inject s (reqPacket 3 (0x80 + eng) (m * 2 ^ 48 + clapAddr (clap % 16384)) 16 op (grpJob s g)
    ((toLE 8 v ++ zeros 8).map (fun b => (b, false)))) why
/-- COLL_FAIL_MARK (R403): MAX of SEQ + 1 on the status clapper of every member. -/
def failMark (s : State) (g seq eng : Nat) : State :=
  (membersOf s g).foldl (fun s m =>
    if m = modNum s then engClap s eng 3 (gget s g 6) (seq + 1) .none
    else engRemote s g eng m 3 (gget s g 6) (seq + 1) (.mark g seq)) s
/-- The running collective of a group fails: it stops issuing, is counted, and keeps its context until its requests are answered
(R393, R403, R404). -/
def runFails (s : State) (g : Nat) : State :=
  match (groupOf s g).run with
  | some r =>
    if gget s g 11 = 3 then s
    else dropCollWaits (obump (collBump (gset s g 11 3) 6) (0x5100 + g) 13 1) g r.seq false
  | none => s
/-- The report of a collective's fault (R407). -/
def collRep (s : State) (g eng code check side entry addr : Nat) : FaultRep :=
  { part := (grpPart s g).val, code := code, time := 0, cluster := 0xFF, engine := 9, pc := 0, addr := addr, detail := det check side entry g,
    cold := false, instr := 0, cflags := 0, sub := eng }
/-- A fault of the running collective of group g: reported, marked at every member, failed (R403, R406). -/
def collFault (s : State) (g eng code check side entry addr : Nat) : State :=
  match (groupOf s g).run with
  | some r =>
    if gget s g 11 = 3 then s
    else failMark (runFails (raiseF s (collRep s g eng code check side entry addr)) g) g r.seq eng
  | none => s
/-- COLL_POISON is logged (R417), with a continuity record when its cause is a second CRC failure (R462). -/
def logPoison (s : State) (g eng cause entry seq addr : Nat) : State :=
  let pay := payOf [(16, g), (17, cause), (18, entry), (20, seq), (24, addr)]
  let s1 := collBump s 5
  if cause = 0 then
    let t := stampTc s1 (0x80 + eng)
    logCont (stamped s1 (0x80 + eng) t) t (0x80 + eng) 0x0403 0 pay 0 0 2 0 0
  else logEv s1 (0x80 + eng) 0x0403 0 pay
/-- The groups that belong to a partition. -/
def groupsOf (s : State) (p : Fin 8) : List Nat := (s.coll.groups.map (fun x => x.1)).filter (fun g => grpPart s g == p)
/-- A launch dropped for want of a context is marked failed (R391, R404). -/
def starvedFails (s : State) (g seq : Nat) : State := failMark (obump (collBump s 6) (0x5100 + g) 13 1) g seq (dirEngine s g 0 0)
/-- R404: the collectives of a partition end when its take is discarded; the launches dropped before are marked failed as well. -/
def collDiscard (s : State) (p : Fin 8) : State :=
  (groupsOf s p).foldl (fun s g =>
    let x := groupOf s g
    let s1 := x.starved.foldl (fun s q => starvedFails s g q) (modGrp s g (fun x => { x with waiting := [], starved := [] }))
    match x.run with
    | some r => if gget s g 11 = 3 then s1 else failMark (runFails s1 g) g r.seq (dirEngine s g 0 0)
    | none => if x.waiting.isEmpty then s1 else gset s1 g 11 0) s
/-- The context of group g is free again (R390): the next launch waits, or the group is IDLE. -/
def releaseRun (s : State) (g : Nat) : State :=
  match (groupOf s g).run with
  | some r =>
    let s1 := dropCollWaits (modGrp s g (fun x => { x with run := none })) g r.seq true
    gset s1 g 11 (if (groupOf s g).waiting.isEmpty then 0 else 1)
  | none => s

/-! Memory as an engine reaches it. -/

/-- n bytes at local address a as fabric engine eng reads them. -/
def engRead (s : State) (eng a n : Nat) : List (Byte × Bool) := rdMesh s (0x80 + eng) (outerAddr s a) n
/-- What engine eng has read has arrived over the mesh. -/
def engDone (s : State) (eng : Nat) (l : List (Nat × Nat)) : State := l.foldl (fun s x => meshDone s (0x80 + eng) false (outerAddr s x.1) x.2) s
/-- Engine eng writes marked bytes at local address a. -/
def engWrite (s : State) (eng a : Nat) (l : List (Byte × Bool)) : State := wrOuterMesh s (0x80 + eng) a l

/-! The work of an entry. -/

/-- The verified state of chunk m of the receiving lane of a direction. -/
def landedOk (r : CollRun) (k dir m : Nat) : Bool :=
  r.recv.any (fun l => l.k == k && l.dir == dir && (decide (m < l.count) || l.beyond.contains m))
/-- The number of the chunk received that piece p of a sending lane continues. -/
def sourceChunk (e : List Byte) (n rank : Nat) (p : Piece) : Option Nat :=
  findIdx (fun q => q.idx == p.item.fidx && q.start == p.start) (recvPieces e n rank p.item.fdir) 0
/-- The data of chunk p can be built (R401). -/
def pieceReady (s : State) (g : Nat) (r : CollRun) (k : Nat) (e : List Byte) (p : Piece) : Bool :=
  p.item.own || (match sourceChunk e (grpSize s g) (grpRank s g) p with
    | some m => landedOk r k p.item.fdir m
    | none => false)
/-- The data of chunk p, with its poison, and the flags of its making: from SRC, AUX ⊕ SRC, the data kept of a REDUCESCATTER, or DST (R395,
R412). -/
def pieceData (s : State) (g : Nat) (r : CollRun) (eng : Nat) (e : List Byte) (p : Piece) : List (Byte × Bool) × BitVec 8 :=
  let n := eBytes e p.n
  if p.item.own then
    let x := engRead s eng (eSrc e + srcOff e p) n
    if eKind e = 2 then collReduce e (fabFlush s eng) (engRead s eng (eAux e + srcOff e p) n) x else (x, 0#8)
  else if eKind e = 9 then
    match sourceChunk e (grpSize s g) (grpRank s g) p with
    | some m => (((r.fwd.find? (fun f => f.1 == p.item.fdir && f.2.1 == m)).map (fun f => f.2.2)).getD [], 0#8)
    | none => ([], 0#8)
  else (engRead s eng (eDst e + landOff e (grpSize s g) p) n, 0#8)
/-- Where those bytes are read: address and length. -/
def pieceReads (s : State) (g : Nat) (e : List Byte) (p : Piece) : List (Nat × Nat) :=
  let n := eBytes e p.n
  if p.item.own then [(eSrc e + srcOff e p, n), (eAux e + srcOff e p, if eKind e = 2 then n else 0)]
  else [(eDst e + landOff e (grpSize s g) p, if eKind e = 9 then 0 else n)]
/-- The first poisoned granule of marked bytes at address a. -/
def firstPoison (a : Nat) (l : List (Byte × Bool)) : Option Nat := (findIdx (fun (x : Byte × Bool) => x.2) l 0).map (fun i => (a + i) / 64 * 64)

/-- A local copy or local reduction lands in DST (R395, R412). -/
def landLocal (s : State) (g eng k : Nat) (seq : Nat) (dst : Nat) (l : List (Byte × Bool)) (fl : BitVec 8) : State :=
  let s1 := engWrite (fabFlags s eng fl) eng dst l
  match firstPoison dst l with
  | some a => collFault (logPoison s1 g eng 1 k seq a) g eng 0x0A 7 0 k a
  | none => s1

/-- The lanes that an entry opens for sending: direction, lane at the receiver, rank of the receiver. -/
def lanesOut (s : State) (g : Nat) (e : List Byte) : List (Nat × Nat × Nat) :=
  let n := grpSize s g
  let r := grpRank s g
  if isRing e then
    ([(0, 0, (r + 1) % n), (1, 1, (r + n - 1) % n)] : List (Nat × Nat × Nat)).filter (fun x => !(sendPieces e n r x.1).isEmpty)
  else if (eKind e = 1 ∨ eKind e = 2) ∧ ePeer s g e ≠ r then [(2, bits (eF e 22 1) 0 2, ePeer s g e)] else []

/-- The READ packets of a GET (R395): source address, local destination, length. -/
def getReads : Nat → Nat → Nat → Nat → List (Nat × Nat × Nat)
  | 0, _, _, _ => []
  | f + 1, src, dst, n =>
    if n = 0 then [] else
    let k := min n (2048 - src % 2048)
    (src, dst, k) :: getReads f (src + k) (dst + k) (n - k)

/-- A held RTS is answered, or an RTS that has come: CTS with the receiver's DST of a ring entry and its hash (R399). -/
def answerRts (s : State) (g : Nat) (m : List Byte) : State :=
  match (groupOf s g).run with
  | none => s
  | some r =>
    let k := eF m 13 1
    let lane := eF m 10 1
    let peer := eF m 34 2
    let e := ((r.entries[k]?).map (fun x => x.bytes)).getD []
    let dir := if isRing e then lane else 2
    let eng := dirEngine s g dir peer
    let s1 := sendMsg s eng g r.seq k peer
      (collMsg s 3 g lane r.seq k 0 0 0 (if isRing e then eDst e else 0) (grpHash s g) 0 0)
    if eF m 56 4 ≠ grpHash s g then collFault s1 g eng 3 6 4 k 0
    else modRun s1 g (fun r => { r with recv := r.recv.filter (fun l => !(l.k == k && l.lane == lane)) ++
      [{ k := k, lane := lane, peer := peer, dir := dir, count := 0, beyond := [], told := 0, since := none, asked := [], last := none, at_ := s.now }] })

/-- The number of chunks a receiving lane expects, once it is known. -/
def laneTotal (s : State) (g : Nat) (r : CollRun) (l : RecvLane) : Option Nat :=
  match l.last with
  | some (m, _, _) => some (m + 1)
  | none => if l.dir = 2 then none else (r.entries[l.k]?).map (fun x => (recvPieces x.bytes (grpSize s g) (grpRank s g) l.dir).length)
/-- A lane still carries the chunks of a sender for an entry (R397). -/
def laneBusy (s : State) (g : Nat) (r : CollRun) (lane : Nat) : Bool := r.recv.any (fun l => l.lane == lane && laneTotal s g r l != some l.count)
/-- The RTS message b may be answered: its entry has started, and its lane is free (R397, R399). -/
def rtsReady (s : State) (g : Nat) (b : List Byte) : Bool :=
  match (groupOf s g).run with
  | some r => r.seq == eF b 36 4 && (r.entries[eF b 13 1]?).any (fun x => decide (2 ≤ x.stage)) && !laneBusy s g r (eF b 10 1)
  | none => false
/-- The RTS messages held are answered as far as they may be, in the order in which they came. -/
def answerHeld (s : State) (g : Nat) : State :=
  (groupOf s g).heldRts.foldl (fun s h =>
    if rtsReady s g h.2 then answerRts (modGrp s g (fun y => { y with heldRts := y.heldRts.filter (fun x => x != h) })) g h.2 else s) s
/-- An entry has fired (R394, R395): its lanes ask to send, its reads or signal go out, its local work is done; RTS messages held for it
are answered. -/
def startEntry (s : State) (g k : Nat) : State :=
  match (groupOf s g).run with
  | none => s
  | some r =>
    match r.entries[k]? with
    | none => s
    | some x =>
      let e := x.bytes
      let n := grpSize s g
      let rank := grpRank s g
      let set (s : State) (f : CollEntry → CollEntry) : State :=
        modRun s g (fun r => { r with entries := (r.entries.zipIdx).map (fun y => if y.2 = k then f y.1 else y.1) })
      let s1 := set s (fun y => { y with stage := 2 })
      let s2 := (lanesOut s g e).foldl (fun s o =>
        sendMsg (modRun s g (fun r => { r with send := r.send ++
          [{ k := k, lane := o.2.1, peer := o.2.2, dir := o.1, isOpen := false, dst := 0, next := 0, acked := 0, resend := [], flying := [], at_ := s.now }] }))
          (dirEngine s g o.1 o.2.2) g r.seq k o.2.2 (collMsg s 2 g o.2.1 r.seq k 0 0 0 0 (grpHash s g) 0 0)) s1
      let eng := dirEngine s g (if isRing e then 0 else 2) (ePeer s g e)
      let bytes := eBytes e (eCount e)
      let s3 :=
        if isRing e then
          if n ≤ 1 then
            if eSrc e = eDst e then s2 else landLocal s2 g eng k r.seq (eDst e) (engRead s eng (eSrc e) bytes) 0#8
          else if eKind e = 10 then
            landLocal s2 g eng k r.seq (eDst e + rank * bytes) (engRead s eng (eSrc e) bytes) 0#8
          else s2
        else if eKind e = 2 ∧ ePeer s g e = rank then
          let d := collReduce e (fabFlush s eng) (engRead s eng (eAux e) bytes) (engRead s eng (eSrc e) bytes)
          landLocal s2 g eng k r.seq (eDst e) d.1 d.2
        else if eKind e = 3 then
          if ePeer s g e = rank then landLocal s2 g eng k r.seq (eDst e) (engRead s eng (eSrc e) (eCount e)) 0#8
          else
            let l := getReads (eCount e / 64 + 2) (eSrc e) (eDst e) (eCount e)
            set (l.foldl (fun s q => inject s (reqPacket 2 (0x80 + eng) (moduleAt s g (ePeer s g e) * 2 ^ 48 + q.1) q.2.2 0 (grpJob s g) [])
              (.collGet g r.seq k q.2.1)) s2) (fun y => { y with outst := l.length })
        else if eKind e = 4 then
          let s4 := set s2 (fun y => { y with outst := 1 })
          if ePeer s g e = rank then engClap s4 eng 2 (eF e 26 2) (eF e 28 2) (.entry g r.seq k)
          else engRemote s4 g eng (moduleAt s g (ePeer s g e)) 2 (eF e 26 2) (eF e 28 2) (.collClap g r.seq k)
        else s2
      let local_ := decide (n ≤ 1) || eKind e == 10 || ((eKind e == 2 || eKind e == 3) && ePeer s g e == rank)
      answerHeld (if local_ then engDone s3 eng [(eSrc e, if eKind e = 3 then eCount e else bytes), (eAux e, if eKind e = 2 then bytes else 0)] else s3) g

/-- Entry k is armed (R394): without TRIG_EN it fires at once, and the next entry is armed in turn unless it waits for this one. -/
def armEntry : Nat → State → Nat → Nat → State
  | 0, s, _, _ => s
  | f + 1, s, g, k =>
    match ((groupOf s g).run).bind (fun r => r.entries[k]?) with
    | none => s
    | some x =>
      if x.stage ≠ 0 ∨ gget s g 11 ≠ 2 then s
      else
        let s1 := modRun s g (fun r => { r with entries := (r.entries.zipIdx).map (fun y => if y.2 = k then { y.1 with stage := 1, armedAt := s.now } else y.1) })
        if eFlag x.bytes 0 then s1
        else
          let s2 := startEntry s1 g k
          match ((groupOf s2 g).run).bind (fun r => r.entries[k + 1]?) with
          | some y => if eFlag y.bytes 1 then s2 else armEntry f s2 g (k + 1)
          | none => s2

/-- ENTRY_FIRE (R394): an armed entry's trigger is satisfied. -/
def fireEntry (s : State) (g seq k : Nat) : State :=
  match (groupOf s g).run with
  | none => s
  | some r =>
    match r.entries[k]? with
    | none => s
    | some x =>
      if r.seq ≠ seq ∨ x.stage ≠ 1 ∨ gget s g 11 ≠ 2 then s
      else
        let s1 := startEntry s g k
        match r.entries[k + 1]? with
        | some y => if eFlag y.bytes 1 then s1 else armEntry 256 s1 g (k + 1)
        | none => s1

/-- STATUS_TRIGGER_FIRE (R403): COLL_FAILED is logged; a running collective ends and its partition's take faults with E_CHUNK. -/
def statusFire (s : State) (g seq : Nat) : State :=
  match (groupOf s g).run with
  | none => s
  | some r =>
    if r.seq ≠ seq then s
    else
      let eng := dirEngine s g 0 0
      let s1 := logEv s (0x80 + eng) 0x0404 0
        (payOf [(16, g), (17, (grpPart s g).val), (20, seq), (24, (clapGet s (gget s g 6 % 16384)).toNat)])
      runFails (raiseF s1 (collRep s1 g eng 0x0A 7 5 0xFF 0)) g

end Sys2Proof.Machine
end

