-- ==== Sys2Proof/Machine/QpCore.lean ====
section
/-! DEFINITION. Machine/QpCore.lean: queue pairs and trackers: access, the ERROR state (R420), the fall of an Ethernet port, the end of
the dailies at a drain or power entry (R440), and what work is under way (R547). -/

namespace Sys2Proof.Machine

/-- A queue pair never used. -/
def Qp.idle : Qp :=
  { msgs := [], una := 0, unacked := [], again := none, tries := 0, rnrTries := 0, rnr := none, lastCut := 0, cnpSeen := false, tokens := 0,
    tokensAt := 0 }
/-- Queue pair q. -/
def qpOf (s : State) (q : Nat) : Qp := (mfind s.dly.qps q).getD Qp.idle
/-- The state with f applied to queue pair q. -/
def modQp (s : State) (q : Nat) (f : Qp → Qp) : State := { s with dly := { s.dly with qps := mput s.dly.qps q (f (qpOf s q)) } }
/-- An object of queue pair q (R443). -/
def qget (s : State) (q sub : Nat) : Nat := oget s (0x6100 + q) sub
/-- The state with it at v. -/
def qset (s : State) (q sub v : Nat) : State := oset s (0x6100 + q) sub v
/-- The engine of queue pair q (R419). -/
def qpEngine (q : Nat) : Nat := q / 512 % 2
/-- The unit of dailies engine e (R310). -/
def dlyUnit (e : Nat) : Nat := 0x82 + e
/-- The port of engine e is UP (R442). -/
def ethUp (s : State) (e : Nat) : Bool := oget s 0x6006 (e + 1) == 3

/-- DLY_QP_ERROR (R420): a queue pair in RTS enters ERROR; its orders are flushed and counted, and the event is logged. Its
trackers are freed (log entry 24). -/
def qpError (s : State) (q cause : Nat) : State :=
  if qget s q 1 ≠ 1 then s
  else
    let x := qpOf s q
    let n := x.msgs.length
    let s1 := modQp (obump (qset s q 1 2) (0x6100 + q) 17 n) q (fun x => { Qp.idle with lastCut := x.lastCut })
    let s2 := { s1 with dly := { s1.dly with trackers := s1.dly.trackers.filter (fun t => t.qp != q) } }
    logEv s2 (dlyUnit (qpEngine q)) 0x0501 0 (payOf [(16, q), (18, cause), (20, x.una), (24, n)])

/-- An Ethernet port goes down (R444): reason 0 lock lost, 1 disabled, 2 drain, 3 power state. -/
def ethDown (s : State) (e reason : Nat) : State :=
  if ethUp s e then logEv (oset s 0x6006 (e + 1) 1) (0x8E + e) 0x0506 0 (payOf [(16, e), (17, reason)])
  else if oget s 0x6006 (e + 1) = 2 then oset s 0x6006 (e + 1) 1 else s

/-- A claimed order that a binding holds is flushed (R420): counted, and its slot is released. -/
def flushHeld (s : State) (h : DlyHeld) : State := slotDone (obump s (0x6100 + eF h.order 12 2) 17 1) h.b h.slot
/-- R440: at a drain (cause 6, reason 2) or the entry to PARK or STANDBY (cause 7, reason 3) every queue pair enters ERROR, the orders that bindings hold
are flushed with it, the trackers are freed and the ports go down. -/
def dailiesEnd (s : State) (cause reason : Nat) : State :=
  let s1 := (s.dly.qps.map (fun x => x.1)).foldl (fun s q => qpError s q cause) s
  let s2 := s1.dly.held.foldl flushHeld s1
  let s3 := { s2 with dly := { s2.dly with trackers := [], held := [] } }
  ethDown (ethDown s3 0 reason) 1 reason

/-- The module has work that makes it ACTIVE (R547). -/
def hasWork (s : State) : Bool :=
  (fins 8).any (fun p => s.hf[p].run.isSome || s.hf[p].gate.isSome) ||
    s.coll.groups.any (fun x => x.2.run.isSome || !x.2.waiting.isEmpty) ||
    s.dly.qps.any (fun x => !x.2.msgs.isEmpty) || !s.dly.held.isEmpty ||
    (fins 8).any (fun c => s.cl[c].flights.any (fun f => f.e.kind == .digest) || (fins 4).any (fun e => s.cl[c].sq[e].any (fun x => x.kind == .digest)))
/-- ACTIVITY_CHANGE (R547): POWER_STATE moves between ACTIVE (0) and IDLE (1) as work starts and ends. Each is logged as POWER_STATE. -/
def activity (s : State) : State :=
  if oget s 0x2001 0 ≤ 1 then
    let n := if hasWork s then 0 else 1
    if oget s 0x2001 0 = n then s else logEv (oset s 0x2001 0 n) 0xEA 0x0101 0 (payOf [(16, 1 - n), (17, n), (18, 0)])
  else s

end Sys2Proof.Machine
end

