-- ==== Sys2Proof/Machine/DrainWork.lean ====
section
/-! DEFINITION. Machine/DrainWork.lean: completions of takes that never started (R517-R519, R521), and what takes, collectives, dailies
and links do when the module drains (R458, R522, R404, R440, R31). -/

namespace Sys2Proof.Machine

/-- TAKE_FLAGS of a completion (R517): the OR over the sets and clusters of the partition. -/
def takeFlagsOf (s : State) (p : Fin 8) : Nat :=
  (clustersOf s p).foldl (fun a c => a ||| cget s c 0x4011 1 ||| cget s c 0x4011 2 ||| cget s c 0x4011 3) 0 % 32
/-- The completion of a take that never started. -/
def idleCompl (s : State) (t : TakeEnt) (disp code : Nat) : Compl :=
  { id := t.id, code := code, disp := disp, q := t.q, startTc := 0, endTc := tcNow s, flags := 0, signalled := false, unsync := s.unsync,
    irq := bit t.flags 2 }
/-- A completion is handed over (R518). -/
def handOver (s : State) (p : Fin 8) (x : Compl) : State := modF s p (fun h => { h with compl := h.compl ++ [x] })
/-- A fetched take completes without starting. -/
def completeIdle (s : State) (p : Fin 8) (t : TakeEnt) (disp code : Nat) : State := handOver s p (idleCompl s t disp code)

/-- The fetched entries of function p that have not started, the one at its start gate among them. -/
def fetchedTakes (s : State) (p : Fin 8) : List TakeEnt :=
  s.hf[p].gate.toList ++ ((fins 4).map (fun q => s.hf[p].fetched[q].toList)).flatten
/-- Those of them that k selects complete with a disposition, E_DISCARD and no start (R521, R522). -/
def endFetched (s : State) (p : Fin 8) (disp : Nat) (k : TakeEnt → Bool) : State :=
  let gone := (fetchedTakes s p).filter k
  let gated := s.hf[p].gate.any k
  let s1 := modF s p (fun h =>
    { h with gate := h.gate.filter (fun t => !k t), fetched := h.fetched.map (fun x => x.filter (fun t => !k t)) })
  let s2 := if gated then
      { s1 with waiters := s1.waiters.filter (fun w => w.who != .start p), freed := s1.freed.filter (fun w => w != .start p) }
    else s1
  gone.foldl (fun s t => completeIdle s p t disp 0x0F) s2

/-- Step 3 and 4 of R458: every collective fails, every queue pair enters ERROR, and the links go down if `down` (R31). -/
def drainWork (s : State) (down : Bool) : State :=
  let s0 := (fins 8).foldl (fun s p => endFetched s p 2 (fun _ => true)) s
  let s1 := dailiesEnd ((fins 8).foldl collDiscard s0) 6 2
  if down then linksDown s1 6 else s1

end Sys2Proof.Machine
end

