-- ==== Sys2Proof/Machine/Reliab.lean ====
section
/-! DEFINITION. Machine/Reliab.lean: the start of a discard (R65), incidents and suspects (R456-R460), the drain of the module
(R458), and the packing of those events (R462, R470). -/

namespace Sys2Proof.Machine

/-! Discard. -/

/-- The remote window stores whose request has been injected: those that wait for their pair's comparison are dropped with it (R65, R448). -/
def injectedStores (k : Cluster) : List WStore :=
  let wait := k.egress.filterMap (fun x => match x with
    | .packet _ (.winStore _ pc a) _ _ => some (pc, a)
    | _ => none)
  ((k.core.wstores.filter (fun w => w.remote && w.done == none)).foldr
    (fun w st => if st.2.contains (w.pc, w.addr) then (st.1, st.2.erase (w.pc, w.addr)) else (w :: st.1, st.2)) ([], wait)).1
/-- Cluster c after the first steps of a discard (R65, steps 1-3): its core stopped, its queues empty, its engines' work
abandoned (log entry 9). -/
def stopCluster (k : Cluster) : Cluster :=
  { k with core := { k.core with status := .stopped, awaits := [], resv := none, wstores := injectedStores k, halted := false, step := false },
           mq := [], vq := [], yq := [], sq := Vector.replicate 4 [], flights := [], mma := [], progs := [],
           drainBuf := Vector.replicate 2 none, sendBuf := [], sendStall := [], streams := Vector.replicate 4 none, egress := [] }

/-- The clusters of partition p stop, their core-local memory is undefined (R67), and their waits at clappers end. -/
def stopClusters (s : State) (p : Fin 8) : State :=
  let cs := clustersOf s p
  let s1 := cs.foldl (fun s c =>
    cset (modC { s with fresh := s.fresh + 1 } c (fun k => { stopCluster k with clm := [], clmDraw := s.fresh + 1 })) c 0x4002 0 4) s
  let mine (w : Who) : Bool := match w with
    | .gate c _ => cs.contains c
    | .cwait c => cs.contains c
    | _ => false
  { s1 with waiters := s1.waiters.filter (fun w => !mine w.who), freed := s1.freed.filter (fun w => !mine w),
            clapRes := s1.clapRes.filter (fun r => !cs.contains r.1),
            meshHits := s1.meshHits.filter (fun h => !(decide (h.1 < 0x80) && cs.contains (toFin8 (h.1 / 16)))) }

/-- DISCARD_START (R65): the take controller of p stops its take; nothing changes if a discard is under way or no take runs. A
take whose clusters have not started yet stops likewise. -/
def discardStart (s : State) (p : Fin 8) (why : Stop) : State :=
  match s.hf[p].run with
  | some t =>
    if t.stop.isSome then s
    else stopClusters (modF (collDiscard s p) p (fun h => { h with run := some { t with stop := some (why, tcNow s), ended := [] } })) p
  | none => s

/-! Suspects. -/

/-- DIE_STATUS of the die of a unit (R28); the host marks no die. A die that was unreachable and holds a later suspect reads 1 (DESIGN CHOICE, log
entry 83). -/
def markDie (s : State) (unit : Nat) : State := if unit = 0xFF then s else oset s 0x1020 (dieOf unit + 1) 1

/-- The takes under way in the module. -/
def takesRunning (s : State) : Nat := ((fins 8).filter (fun p => s.hf[p].run.isSome)).length

/-- MODULE_DRAIN (R458, R460, R31): unit becomes suspect for an incident with event code `code`, class cls (0 for R457) and
timecode t. The first suspect drains the module; another unit's later one is logged and marked. -/
def moduleDrain (s : State) (unit code cls t : Nat) : State :=
  let pay (s : State) (n : Nat) := payOf [(16, sourceOf s unit), (20, code), (22, cls), (24, t), (32, n)]
  if drained s then
    if unit = oget s 0x7003 0 % 256 then s else
    let wasIo := inIoDie (oget s 0x7003 0 % 256)
    let s1 := markDie s unit
    let t1 := stampTc s1 0x85
    let s2 := logCont (stamped s1 0x85 t1) t1 0x85 0x0604 0 (pay s1 0) 1 0 4 0 0
    if inIoDie unit && !wasIo then drainWork s2 true else s2
  else
    let n := takesRunning s
    let s1 := markDie s unit
    let s2 := oset (oset (oset (oset s1 0x7002 0 1) 0x7003 0 (sourceOf s1 unit)) 0x7004 0 code) 0x7006 0 1
    let s3 := (fins 8).foldl (fun s p => discardStart s p .drain) s2
    let s4 := (fins 8).foldl (fun s c => if clusterState s c = 0 then cset s c 0x4002 0 6 else s) s3
    let s5 := drainWork s4 (inIoDie unit)
    let t1 := stampTc s5 0x85
    logCont (stamped s5 0x85 t1) t1 0x85 0x0604 0 (pay s5 n) 1 0 4 0 0

/-- The incident that takes s to s1 makes the unit suspect: it is so now, and was no suspect of a drained module before (R456, R460; judged at an
incident, log entry 100). -/
def madeSuspect (s s1 : State) (cls unit : Nat) : Bool := suspectNow s1 cls unit && !(drained s && suspectNow s cls unit)
/-- FLAGS of a continuity record (R464) for an incident of a class that makes its unit suspect, or not. -/
def contFlags (made injected : Bool) : Nat := if injected then 1 else 2 + (if made then 4 else 0)

/-- An incident of a class is counted, logged with its continuity record, and drains the module if it makes the unit suspect
(R456, R458, R462). -/
def incident (s : State) (unit cls code fl pay take : Nat) : State :=
  let t := stampTc s unit
  let s1 := countIncident (stamped s unit t) cls unit
  let s2 := logCont s1 t unit code fl pay 0 cls (contFlags (madeSuspect s s1 cls unit) false) take 0
  if madeSuspect s s1 cls unit then moduleDrain s2 unit code cls t else s2

/-- An engine fault that is an incident of a class (E_RESIDUE, E_PAIR): it is counted when it is found, its record follows the
discard (R64), and the unit may become suspect (R456). -/
def faultIncident (s : State) (f : FaultRep) (unit cls : Nat) (injected : Bool) : State :=
  let s1 := if injected then s else countIncident s cls unit
  let s2 := raiseF s1 { f with cflags := contFlags (madeSuspect s s1 cls unit) injected }
  if !injected && madeSuspect s s1 cls unit then moduleDrain s2 unit f.code cls (tcNow s2) else s2

/-- REG_PARITY (R159): a parity error found in a 32-bit word of a row of a register poisons the word's granule and is counted and logged. -/
def regParity (s : State) (c : Fin 8) (reg : Fin 10) (row word : Nat) : State :=
  let s1 := modC s c (fun k => { k with reg := vmod k.reg reg (fun r => { r with poison := mset false r.poison (row * 8192 + word / 16) true }) })
  let s2 := cbump s1 c 0x4020 (if reg.val < 8 then 1 else 2) 1
  incident s2 (16 * c.val + 12) 3 0x0602 0
    (payOf [(16, c.val), (17, reg.val), (18, row), (20, word), (24, takeId s2 c)]) (takeId s2 c)

end Sys2Proof.Machine
end

