-- ==== Sys2Proof/Machine/Tile.lean ====
section
/-! DEFINITION. Machine/Tile.lean: TCFG (R160-R163), tile loads and stores (R166-R176) and register parity (R159). -/

namespace Sys2Proof.Machine

/-! TCFG. -/

/-- The first failing condition of register i under R163: the CHECK value. -/
def tcfgCheck (b : OpBlock) (i : Nat) : Option Nat :=
  let f := cfgOf b i
  if f.1 = 0 then none else
  let plane := decide (8 ≤ i)
  let allowed := if plane then f.1 == 1 || f.1 == 4 else f.1 == 2 || f.1 == 3 || isSmallInt f.1
  let lim := if plane then 512 else 8192
  if !allowed then some 1
  else if f.2.1 = 0 ∨ f.2.2 = 0 then some 2
  else if lim < f.2.1 ∨ lim < f.2.2 then some 3
  else if !plane && decide (4194304 < f.2.1 * f.2.2 * fmtBits f.1) then some 4
  else none
/-- A changed register: undefined contents under a fresh draw, no poison (R162). -/
def reconfigured (draw : Nat) (f : Nat × Nat × Nat) : TReg :=
  { fmt := f.1, rows := f.2.1, cols := f.2.2, draw := draw, el := [], poison := [] }
/-- TCFG_APPLY (R163): the registers that the block changes take their new configuration. -/
def tcfgApply (s : State) (c : Fin 8) (b : OpBlock) : State :=
  (List.range 10).foldl (fun s i =>
    if inMask b i && decide (newCfg b i ≠ curCfg (treg s c i)) then
      putReg { s with fresh := s.fresh + 1 } c i (reconfigured s.fresh (newCfg b i))
    else s) s
/-- A TCFG at dispatch (R163, R338): its checks, then its changes and its signal. -/
def tcfgRun (s : State) (c : Fin 8) (e : QEntry) : State :=
  let b := e.blk
  if hBad b || anySet b [(448, 64), (122, 6)] then opFault s c e 3 0 (det 0xFE 0 0xFF 0xFF)
  else
    match firstSome (fun i =>
      if inMask b i && decide (newCfg b i ≠ curCfg (treg s c i)) then (tcfgCheck b i).map (fun k => (i, k)) else none) (List.range 10) with
    | some (i, k) => opFault s c e 2 0 (det k 0 1 i)
    | none => opSignal (tcfgApply s c b) c e

/-! TLD and TST. -/

/-- The fields of a tile load or store (R166, R340). -/
structure TileF where
  reg : Nat
  trans : Bool
  isReel : Bool
  reel : Nat
  split : Nat
  base : Nat
  win : Nat
  off : Nat
  pitch : Int
  fmt : Nat
  r0 : Nat
  c0 : Nat
  rows : Nat
  cols : Nat
deriving DecidableEq, Repr

/-- The fields of a TLD or TST block. -/
def tileF (b : OpBlock) : TileF :=
  { reg := fld b 112 4, trans := fld b 116 1 == 1, isReel := fld b 117 1 == 1, reel := fld b 118 5, split := fld b 123 2,
    base := fld b 128 64, win := fld b 192 32, off := fld b 224 32, pitch := sfld b 256 32, fmt := fld b 352 4,
    r0 := fld b 384 13, c0 := fld b 400 13, rows := fld b 416 14, cols := fld b 432 14 }
/-- The conversion fields of a transfer (R84): from memory into the register, or back. -/
def tileCvt (b : OpBlock) (load : Bool) (rf : Nat) : CvtP :=
  { src := if load then fld b 352 4 else rf, dst := if load then rf else fld b 352 4, round := fld b 356 2,
    sat := fld b 358 1 == 1, mode := fld b 359 2, gran := fld b 361 2, addr := fld b 288 27, reg := fld b 363 4,
    upd := fld b 367 2, out := fld b 320 27 }
/-- A transfer with no rows or no columns (R173). -/
def TileF.empty (f : TileF) : Bool := f.rows == 0 || f.cols == 0
/-- Memory rows and elements per memory row (R167). -/
def TileF.memRows (f : TileF) : Nat := if f.trans then f.cols else f.rows
def TileF.perRow (f : TileF) : Nat := if f.trans then f.rows else f.cols
/-- The extent of the memory side from its base (R169). -/
def TileF.ext (f : TileF) : Int × Int := extent f.off f.perRow (fmtBits f.fmt) [(f.memRows, f.pitch)]
/-- The format that the register side converts with: FP32 widened planes of a split load are BF16 (R170). -/
def tileRegFmt (s : State) (c : Fin 8) (f : TileF) : Nat := (treg s c f.reg).fmt

/-- CHECK 1 of R174; an unconfigured register has no format, so that no scaling pair and no split target fits it (R87, R170). -/
def tileFmtBad (s : State) (c : Fin 8) (f : TileF) (p : CvtP) (load : Bool) : Bool :=
  let plane := decide (8 ≤ f.reg)
  let rf := tileRegFmt s c f
  let okPlane := f.fmt == 1 || f.fmt == 2 || f.fmt == 3 || f.fmt == 4
  decide (8 < f.fmt) || f.fmt == 0 || (plane && !okPlane && rf != f.fmt) ||
    (f.split != 0 && (!load || plane || !isFloatFmt f.fmt || p.mode != 0 || decide (7 < f.reg + f.split - 1) ||
      (List.range f.split).any (fun i => (treg s c (f.reg + i)).fmt != 2))) ||
    cvtBad s c p
/-- CHECK 2 of R174. -/
def tileShapeBad (s : State) (c : Fin 8) (f : TileF) : Bool :=
  (List.range (max 1 f.split)).any (fun i =>
    let t := treg s c (f.reg + i)
    !inReg t f.r0 f.c0 f.rows f.cols || (f.split != 0 && decide (curCfg t ≠ curCfg (treg s c f.reg))))
/-- CHECK 3 of R174: 1 for the memory side, 2 for a scale. -/
def tileAlignBad (f : TileF) (p : CvtP) : Nat :=
  let a := fmtAlign f.fmt
  if (!f.isReel && f.base % 64 != 0) || f.off % a != 0 || f.pitch % a != 0 then 1
  else if p.mode = 1 ∧ p.addr % 64 ≠ 0 ∨ p.mode ≠ 0 ∧ p.out % 64 ≠ 0 then 2
  else 0
/-- CHECK 5 of R174 for the memory side, and for the scales that the transfer reads or writes. -/
def tilePermBad (s : State) (c : Fin 8) (f : TileF) (load : Bool) : Bool :=
  if f.isReel then
    rlConsumer s c f.reel != 0 && !protOk s (partOf s c) (slotAddr s c f.reel 0) (ringBytes s c f.reel) (!load)
  else
    match toLocal s f.base with
    | none => true
    | some a =>
      let lo := (a + f.ext.1).toNat
      let n := (f.ext.2 - f.ext.1).toNat
      !(if f.reg < 8 then inMem lo n else (inSp c lo n || (paired s && inSp (mirrorOf c) lo n))) || !protOk s (partOf s c) lo n (!load)
/-- The scale vectors of a conversion lie outside the issuing cluster's scratchpad or one protection region. -/
def scalePermBad (s : State) (c : Fin 8) (p : CvtP) (rows cols : Nat) : Bool :=
  let n := 4 * entryCount p.gran rows cols
  (p.mode == 1 && !(inSp c (spBase c + p.addr) n && protOk s (partOf s c) (spBase c + p.addr) n false)) ||
    (p.mode != 0 && p.out != 0 && !(inSp c (spBase c + p.out) n && protOk s (partOf s c) (spBase c + p.out) n true))

/-- The first failing check of a TLD or TST at dispatch (R173, R174): code, ADDR, CHECK and SIDE. -/
def tileCheck (s : State) (c : Fin 8) (b : OpBlock) (load : Bool) : Option (Nat × Nat × Nat × Nat) :=
  let f := tileF b
  let p := tileCvt b load (tileRegFmt s c f)
  let win := if f.isReel then rlSize s c f.reel else f.win * 64
  let reelBad := f.isReel && (rlConsumer s c f.reel == 0 || (load && rlConsumer s c f.reel != 1))
  firstBad [
    (tileFmtBad s c f p load, (3, 0, 1, if decide (8 < f.fmt) || f.fmt == 0 then 0 else 1)),
    (!f.empty && tileShapeBad s c f, (1, 0, 2, 1)),
    (tileAlignBad f p == 1, (5, if f.isReel then 0 else f.base, 3, 0)),
    (tileAlignBad f p == 2, (5, 0, 3, 2)),
    (!f.empty && !inWindow f.ext win, (4, if f.isReel then 0 else f.base, 4, 0)),
    (!f.empty && tilePermBad s c f load, (6, if f.isReel then 0 else f.base, 5, 0)),
    (!f.empty && scalePermBad s c p f.rows f.cols, (6, 0, 5, 2)),
    (reelBad, (6, 0, 6, 3))]

/-- Reserved bits of a TLD or TST block (R338, R340). -/
def tileReserved (b : OpBlock) : Bool :=
  hBad b || anySet b [(446, 66), (430, 2), (413, 3), (397, 3), (369, 15), (347, 5), (315, 5), (125, 3)] ||
    fld b 123 2 == 1 || decide (9 < fld b 112 4) || fld b 367 2 == 3 || fld b 361 2 == 3 || fld b 359 2 == 3
/-- OP of R175. -/
def tileOp (load : Bool) : Nat := if load then 1 else 2
/-- A fault of a transfer at dispatch, if any (R174, R338). -/
def tileFault (s : State) (c : Fin 8) (e : QEntry) (load : Bool) : Option FaultRep :=
  if tileReserved e.blk then some (opRep s c e 3 0 (det 0xFE (tileOp load) 0xFF 0xFF))
  else
    (tileCheck s c e.blk load).map (fun x =>
      opRep s c e x.1 x.2.1 (det x.2.2.1 (tileOp load) x.2.2.2 (tileF e.blk).reg))

/-- The transfer dispatches to the tile path (R93, R94): the snapshot is taken, a cold use reported. -/
def tileDispatch (s : State) (c : Fin 8) (e : QEntry) (load : Bool) : State :=
  let f := tileF e.blk
  let p := tileCvt e.blk load (tileRegFmt s c f)
  let snap := rrGet s c p.reg
  let cold := !f.empty && usesCold s c p snap f.rows f.cols
  let s1 := if f.empty then s else reportCold s c p snap f.rows f.cols 12
  modC s1 c (fun k => { k with flights := k.flights ++ [newFlight e snap cold] })

/-- The register element of position j of memory row i (R167). -/
def TileF.cell (f : TileF) (i j : Nat) : Nat × Nat := if f.trans then (f.r0 + j, f.c0 + i) else (f.r0 + i, f.c0 + j)
/-- The local base address of the memory side: the slot, or the window in the cluster's own view (R448). -/
def tileBase (s : State) (c : Fin 8) (f : TileF) (slot : Option Nat) : Nat :=
  if f.isReel then slotAddr s c f.reel (slot.getD 0) else localPart f.base
/-- The byte and poison at a local address as cluster c reads it. -/
def ownByte (s : State) (c : Fin 8) (a : Nat) : Byte × Bool := let b := ownAddr s c a; (rdByte s b, granBad s (b / 64))
/-- Memory row i starts here. -/
def TileF.rowAddr (f : TileF) (base i : Nat) : Nat := ((base : Int) + f.off + i * f.pitch).toNat
/-- Some granule that holds bytes of the memory side is poisoned. -/
def tileMemBad (s : State) (c : Fin 8) (f : TileF) (base : Nat) : Bool :=
  (List.range f.memRows).any (fun i => anyMesh s (16 * c.val + 12) (ownAddr s c (f.rowAddr base i)) (rowBytes f.fmt f.perRow))
/-- The element at position j of the memory row at a, with its granule's poison. -/
def memElem (s : State) (c : Fin 8) (fmt a j : Nat) : Nat × Bool :=
  (elemAt (fun x => (ownByte s c x).1) fmt a j, anyBad s (ownAddr s c (a + j * fmtBits fmt / 8)) (max 1 (fmtBits fmt / 8)))
/-- The same element as it arrives over the mesh at unit u (R20). -/
def farElem (s : State) (c : Fin 8) (u fmt a j : Nat) : Nat × Bool :=
  (elemAt (fun x => (ownByte s c x).1) fmt a j, anyMesh s u (ownAddr s c (a + j * fmtBits fmt / 8)) (max 1 (fmtBits fmt / 8)))
/-- The unit number of the tile path of cluster c (R310). -/
def tileUnit (c : Fin 8) : Nat := 16 * c.val + 12
/-- The memory side as (register row, register column, code, poison). -/
def tileRead (s : State) (c : Fin 8) (f : TileF) (base : Nat) : List (Nat × Nat × Nat × Bool) :=
  (List.range f.memRows).flatMap (fun i => (List.range f.perRow).map (fun j =>
    let x := f.cell i j
    let v := farElem s c (tileUnit c) f.fmt (f.rowAddr base i) j
    (x.1, x.2, v.1, v.2)))

/-- The order of a transfer on its path: it is the oldest that has not moved its data (R166). -/
def onPath (k : Cluster) (id : Nat) : Bool :=
  match k.flights.find? (fun f => (f.e.kind == .tld || f.e.kind == .tst) && f.phase == 0) with
  | some f => f.e.id == id
  | none => false
/-- The n-th transfer of a kind in flight. -/
def nthFlight (k : Cluster) (kind : OpKind) (n : Nat) : Option Flight := (k.flights.filter (fun f => f.e.kind == kind))[n]?

/-- A parity error found in a 32-bit word (row · 8192 + word of the row) of a register that is read (R159). -/
def tileParity (s : State) (c : Fin 8) (reg : Nat) (parity : Option Nat) : State :=
  match parity with
  | some g => if g / 8192 < (treg s c reg).rows ∧ g % 8192 * 32 < (treg s c reg).cols * fmtBits (treg s c reg).fmt then regParity s c (toReg reg) (g / 8192) (g % 8192) else s
  | none => s

/-- The registers written by a tile load (R167, R170), with the state's flags and range register updated. -/
def tldMove (s : State) (c : Fin 8) (fl : Flight) : State :=
  let f := tileF fl.e.blk
  let p := tileCvt fl.e.blk true (tileRegFmt s c f)
  let flush := flushOf s c 1
  let src := tileRead s c f (tileBase s c f fl.e.slot)
  let view := src.map (fun x => (x.1 - f.r0, x.2.1 - f.c0, x.2.2.1))
  if f.split ≠ 0 then
    let sp := src.map (fun x => (x, splitV flush (elemV flush f.fmt x.2.2.1).1, (elemV flush f.fmt x.2.2.1).2))
    let flags := sp.foldl (fun a x => a ||| x.2.1.2.2.2 ||| x.2.2 |||
      flagIf (f.split == 2 && bits x.2.1.2.2.1 0 15 != 0) fIX) (0#8)
    let put (s : State) (i : Nat) (g : Nat × Nat × Nat × Flags → Nat) : State :=
      putReg s c (f.reg + i) ((treg s c (f.reg + i)).write f.c0 f.cols (sp.map (fun x => (x.1.1, x.1.2.1, g x.2.1, false))))
    let s1 := put (put s 0 (fun x => x.1)) 1 (fun x => x.2.1)
    let s2 := if f.split = 3 then put s1 2 (fun x => x.2.2.1) else s1
    rangeUpdate (setFlags s2 c 1 flags.toNat) c 1 p flush view f.rows f.cols
  else if p.plain then putReg s c f.reg ((treg s c f.reg).write f.c0 f.cols src)
  else
    let q := cvtView s c p fl.snap flush view
    let s1 := putReg s c f.reg ((treg s c f.reg).write f.c0 f.cols (q.1.map (fun x => (x.1 + f.r0, x.2.1 + f.c0, x.2.2, false))))
    let s2 := setFlags s1 c 1 (q.2 ||| snapFlags s c p fl.snap f.rows f.cols).toNat
    rangeUpdate (writeScales s2 c p fl.snap f.rows f.cols) c 1 p flush view f.rows f.cols

/-- A converting transfer (or a split one) that reads poison faults at CHECK 7: SIDE 0 memory, 1 register, 2 scale. -/
def tilePoison (s : State) (c : Fin 8) (fl : Flight) (load : Bool) : Option Nat :=
  let f := tileF fl.e.blk
  let p := tileCvt fl.e.blk load (tileRegFmt s c f)
  if f.empty || (p.plain && f.split == 0) then none
  else if scaleBad s c p f.rows f.cols then some 2
  else if load then (if tileMemBad s c f (tileBase s c f fl.e.slot) then some 0 else none)
  else (if (treg s c f.reg).anyBad f.r0 f.c0 f.rows f.cols then some 1 else none)

/-- The mesh flits that brought the memory side have been read (R20). -/
def tileArrived (s : State) (c : Fin 8) (f : TileF) (base : Nat) : State :=
  if f.empty then s else (List.range f.memRows).foldl (fun s i => meshDone s (tileUnit c) false (ownAddr s c (f.rowAddr base i)) (rowBytes f.fmt f.perRow)) s
/-- TLD_COMPLETE (R172): the load's data moves, its slot is released and its signal performed. -/
def tldComplete (s : State) (c : Fin 8) (n : Nat) (parity : Option Nat) : State :=
  match nthFlight s.cl[c] .tld n with
  | none => s
  | some fl =>
    let f := tileF fl.e.blk
    if !onPath s.cl[c] fl.e.id || (f.isReel && fl.e.slot.isNone) then s
    else
      let s0 := tileParity s c f.reg parity
      match tilePoison s0 c fl true with
      | some side =>
        flightFault ((List.range (max 1 f.split)).foldl (fun s i => undefReg s c (f.reg + i) f.r0 f.c0 f.rows f.cols) (tileArrived s0 c f (tileBase s c f fl.e.slot))) c fl 7
          (if f.isReel then 0 else f.base) (det 7 1 side f.reg)
      | none =>
        let s1 := if f.empty then s0 else tileArrived (tldMove s0 c fl) c f (tileBase s c f fl.e.slot)
        let s2 := match fl.e.slot with
          | some i => if f.isReel then reelRelease s1 c f.reel i else s1
          | none => s1
        dropFlight (opSignal s2 c fl.e) c fl.e.id

/-- Memory row i of a tile store as marked bytes; the upper half of a last half-used byte is 0 (R72), and a granule of a plain
store that receives a byte from a poisoned register granule is poisoned whole (R134). -/
def tstRow (t : TReg) (f : TileF) (fmt : Nat) (code : Nat → Nat → Nat) (i : Nat) : List (Byte × Bool) :=
  let bytes := packRow fmt ((List.range f.perRow).map (fun j => let x := f.cell i j; code x.1 x.2))
  let badAt (k : Nat) : Bool :=
    let j := k * 8 / fmtBits fmt
    let x := f.cell i j
    let y := f.cell i (min (j + 1) (f.perRow - 1))
    t.bad x.1 x.2 || (isNibFmt fmt && t.bad y.1 y.2)
  bytes.zipIdx.map (fun b => (b.1, badAt b.2))

/-- The rows that a tile store writes: each with its local address. -/
def tstRows (s : State) (c : Fin 8) (fl : Flight) : List (Nat × List (Byte × Bool)) :=
  let f := tileF fl.e.blk
  let t := treg s c f.reg
  let p := tileCvt fl.e.blk false t.fmt
  let base := tileBase s c f fl.e.slot
  let sc (e : Nat) : Nat := if p.mode = 0 then 0 else scaleOf s c p fl.snap e
  let code (r j : Nat) : Nat :=
    if p.plain then t.at r j else (cvtOne p (flushOf s c 1) (sc (entryOf p.gran (r - f.r0) (j - f.c0))) (t.at r j)).1
  (List.range f.memRows).map (fun i =>
    (f.rowAddr base i, (tstRow t f f.fmt code i).map (fun b => (b.1, b.2 && p.plain))))

/-- A write by an operation of cluster c: partial poison of a granule marks it whole for a copy (R134). -/
def emitRow (s : State) (c : Fin 8) (f : FaultRep) (a : Nat) (l : List (Byte × Bool)) : State :=
  emitWrite s c f a (l.zipIdx.map (fun x => (x.1.1, l.zipIdx.any (fun y => y.1.2 && (a + y.2) / 64 == (a + x.2) / 64))))

/-- The data of a tile store is written (R167) and its flags and range register are updated; the read of its register ends. -/
def tstMove (s : State) (c : Fin 8) (fl : Flight) : State :=
  let f := tileF fl.e.blk
  let t := treg s c f.reg
  let p := tileCvt fl.e.blk false t.fmt
  let flush := flushOf s c 1
  let s1 := (tstRows s c fl).foldl (fun s x => emitRow s c (opRep s c fl.e 0 0 0) x.1 x.2) s
  let s2 := if p.plain then s1 else
    let view := (List.range f.rows).flatMap (fun r => (List.range f.cols).map (fun j => (r, j, t.at (f.r0 + r) (f.c0 + j))))
    let q := cvtView s c p fl.snap flush view
    rangeUpdate (writeScales (setFlags s1 c 1 (q.2 ||| snapFlags s c p fl.snap f.rows f.cols).toNat) c p fl.snap f.rows f.cols)
      c 1 p flush view f.rows f.cols
  s2

/-- No effect of operation e waits for the pair's comparison (R448). -/
def egressDone (k : Cluster) (e : QEntry) : Bool :=
  !k.egress.any (fun x => match x with
    | .write _ _ _ f => f.pc == e.pc && f.engine == engineOf e.kind e.blk
    | .packet _ _ _ f => f.pc == e.pc && f.engine == engineOf e.kind e.blk
    | .clap _ _ _ => false)

/-- TST_WRITE_ACK (R172, R176): the store's writes are performed and its slot committed; once the slot has committed, and in
PAIRED mode its writes have passed the comparison, it performs its signal. -/
def tstWriteAck (s : State) (c : Fin 8) (n : Nat) (parity : Option Nat) : State :=
  match nthFlight s.cl[c] .tst n with
  | none => s
  | some fl =>
    let f := tileF fl.e.blk
    let finish (s : State) : State :=
      let wait := match fl.e.slot with
        | some i => f.isReel && reelHolds s c f.reel i
        | none => false
      if wait || !egressDone s.cl[c] fl.e then s else dropFlight (opSignal s c fl.e) c fl.e.id
    if fl.phase = 1 then finish s
    else if !onPath s.cl[c] fl.e.id || (f.isReel && fl.e.slot.isNone) then s
    else
      let s0 := tileParity s c f.reg parity
      match tilePoison s0 c fl false with
      | some side =>
        let base := tileBase s0 c f fl.e.slot
        flightFault ((List.range f.memRows).foldl (fun s i => undefMem s (ownAddr s c (f.rowAddr base i)) (rowBytes f.fmt f.perRow)) s0) c fl 7
          (if f.isReel then 0 else f.base) (det 7 2 side f.reg)
      | none =>
        let s1 := if f.empty then s0 else tstMove s0 c fl
        let s2 := modFlight s1 c fl.e.id (fun x => { x with phase := 1, rd := [] })
        let s3 := match fl.e.slot with
          | some i => if f.isReel then reelCommit s2 c f.reel i else s2
          | none => s2
        finish s3

/-- TLD_COMPLETE. -/
def execTldComplete (c : Fin 8) (n : Nat) (parity : Option Nat) (s : State) : Host.Outcome State Fault Refusal :=
  .next (tldComplete s c n parity)
/-- TST_WRITE_ACK. -/
def execTstWriteAck (c : Fin 8) (n : Nat) (parity : Option Nat) (s : State) : Host.Outcome State Fault Refusal :=
  .next (tstWriteAck s c n parity)

end Sys2Proof.Machine
end

