-- ==== Sys2Proof/Machine/Streams.lean ====
section
/-! DEFINITION. Machine/Streams.lean: STREAM operations and their descriptors (R129-R140), reel and multicast destinations
(R145-R147), the gather mode (R152) and the multicast stall (R156). -/

namespace Sys2Proof.Machine

/-! Fields. -/

/-- A stream descriptor (R130, R131). -/
structure DescF where
  srcBase : Nat
  dstBase : Nat
  srcOff : Nat
  dstOff : Nat
  srcWin : Nat
  dstWin : Nat
  cnt : List Nat
  sst : List Int
  dst : List Int
  cvt : CvtP
  mode : Nat
  cls : Nat
  mask : Nat
  dReel : Nat
  isDR : Bool
  sReel : Nat
  isSR : Bool
  sigEn : Bool
  sigClap : Nat
  sigInc : Nat
  index : Nat
deriving DecidableEq, Repr

/-- Bits of CTRL. -/
def dCtl (d : Descriptor) (lo n : Nat) : Nat := fld d (672 + lo) n
/-- The fields of a descriptor. -/
def descF (d : Descriptor) : DescF :=
  { srcBase := fld d 0 64, dstBase := fld d 64 64, srcOff := fld d 128 32, dstOff := fld d 160 32, srcWin := fld d 192 32,
    dstWin := fld d 224 32, cnt := (List.range 5).map (fun i => fld d (256 + 32 * i) 32),
    sst := (List.range 4).map (fun i => sfld d (416 + 32 * i) 32), dst := (List.range 4).map (fun i => sfld d (544 + 32 * i) 32),
    cvt := { src := dCtl d 16 4, dst := dCtl d 20 4, round := dCtl d 25 2, sat := dCtl d 27 1 == 1, mode := dCtl d 28 2,
             gran := dCtl d 30 2, addr := fld d 736 32, reg := dCtl d 32 4, upd := dCtl d 36 2, out := fld d 768 32 },
    mode := dCtl d 38 2, cls := dCtl d 41 3, mask := dCtl d 56 8, dReel := dCtl d 51 5, isDR := dCtl d 50 1 == 1,
    sReel := dCtl d 45 5, isSR := dCtl d 44 1 == 1, sigEn := dCtl d 40 1 == 1, sigClap := fld d 832 14, sigInc := fld d 848 16,
    index := fld d 800 32 }
/-- COUNT d. -/
def DescF.count (f : DescF) (d : Nat) : Nat := f.cnt.getD d 0
/-- Some count is 0 (R137). -/
def DescF.empty (f : DescF) : Bool := f.cnt.any (fun n => n == 0)
/-- Rows and columns of the conversion view (R133). -/
def DescF.rows (f : DescF) : Nat := f.count 1 * f.count 2 * f.count 3 * f.count 4
/-- The byte offset of row r from the first element, for the strides of a side (R133). -/
def DescF.rowOff (f : DescF) (st : List Int) (r : Nat) : Int :=
  let i1 := r % f.count 1
  let i2 := r / f.count 1 % f.count 2
  let i3 := r / (f.count 1 * f.count 2) % f.count 3
  let i4 := r / (f.count 1 * f.count 2 * f.count 3)
  i1 * st.getD 0 0 + i2 * st.getD 1 0 + i3 * st.getD 2 0 + i4 * st.getD 3 0
/-- The extent of a side (R138). -/
def DescF.ext (f : DescF) (off fmt : Nat) (st : List Int) : Int × Int :=
  extent off (f.count 0) (fmtBits fmt) ((List.range 4).map (fun i => (f.count (i + 1), st.getD i 0)))

/-- The clusters whose scratchpads or reels receive the data (R145); in PAIRED mode each cluster of the issuing pair writes its
counterpart in the pairs named (R448). -/
def DescF.targets (s : State) (c : Fin 8) (f : DescF) : List (Fin 8) :=
  if f.mask = 0 then [c]
  else ((fins 8).filter (fun d => bit f.mask d.val)).map (fun d => if paired s then toFin8 ((leader d).val + c.val % 2) else d) |>.eraseDups

/-- The fields of a STREAM block (R129, R348). -/
def stBase (b : OpBlock) : Nat := fld b 128 64
def stRing (b : OpBlock) : Nat := fld b 192 17
def stFirst (b : OpBlock) : Nat := fld b 224 16
def stCount (b : OpBlock) : Nat := fld b 240 16
/-- Reserved bits and values of a STREAM block (R338, R348). -/
def stReserved (b : OpBlock) : Bool := hBad b || anySet b [(256, 256), (209, 15), (114, 14)] || stCount b == 0
/-- n is a power of two. -/
def isPow2 (n : Nat) : Bool := n != 0 && 2 ^ Nat.log2 n == n

/-! Faults. -/

/-- DETAIL of a stream fault (R140). -/
def descDet (check side idx : Nat) : Nat := check + 256 * side + 65536 * idx
/-- The running STREAM operation of an engine, with its flight. -/
def streamOf (s : State) (c : Fin 8) (e : Fin 4) : Option (StreamRun × Flight) :=
  s.cl[c].streams[e].bind (fun r => (flightOf s c r.id).map (fun f => (r, f)))
/-- The state with f applied to the STREAM operation of an engine. -/
def modStream (s : State) (c : Fin 8) (e : Fin 4) (f : StreamRun → StreamRun) : State :=
  modC s c (fun k => { k with streams := vmod k.streams e (fun r => r.map f) })
/-- The state with f applied to a descriptor of an engine. -/
def modDesc (s : State) (c : Fin 8) (e : Fin 4) (idx : Nat) (f : DescRun → DescRun) : State :=
  modStream s c e (fun r => { r with descs := mapIf (fun d => d.idx == idx) f r.descs })
/-- An engine whose operation has ended becomes free once its earlier descriptors have drained (R139). -/
def freeEngine (s : State) (c : Fin 8) (e : Fin 4) : State :=
  match s.cl[c].streams[e] with
  | some r => if r.descs.isEmpty && (flightOf s c r.id).isNone then modC s c (fun k => { k with streams := vset k.streams e none }) else s
  | none => s
/-- A descriptor faults (R139): its operation ends; earlier descriptors keep their effects. -/
def descFault (s : State) (c : Fin 8) (e : Fin 4) (fl : Flight) (idx code addr check side : Nat) : State :=
  let s1 := modStream s c e (fun r => { r with descs := r.descs.filter (fun d => decide (d.idx < idx)) })
  freeEngine (dropFlight (raiseF s1 (opRep s1 c fl.e code addr (descDet check side idx))) c fl.e.id) c e

/-! Checks. -/

/-- Position 4 of R139. -/
def descFormatBad (s : State) (c : Fin 8) (d : Descriptor) : Bool :=
  let f := descF d
  let p := f.cvt
  fld d 864 160 != 0 || fld d 846 2 != 0 || dCtl d 0 16 != 0 || dCtl d 24 1 != 0 || decide (8 < p.src) || decide (8 < p.dst) ||
    (p.src == 0 && p.dst != 0) || (p.dst == 0 && p.src != 0) || decide (1 < f.mode) || decide (4 < f.cls) ||
    (f.mode == 0 && f.index != 0) || p.mode == 3 || p.upd == 3 ||
    (f.mode == 1 && (p.src != p.dst || p.mode != 0 || p.upd != 0 || f.count 2 != 1 || f.count 3 != 1 || f.count 4 != 1)) ||
    (f.sigEn && f.sigInc == 0) || cvtBad s c p
/-- A global address names another module (R120). -/
def otherModule (s : State) (g : Nat) : Bool := decide (g < 2 ^ 63) && !isLocal s g
/-- The source lies in another module: it comes over the fabric (R120). -/
def srcFar (s : State) (f : DescF) : Bool := !f.isSR && otherModule s f.srcBase
/-- The destination lies in another module. -/
def dstFar (s : State) (f : DescF) : Bool := !f.isDR && f.mask == 0 && otherModule s f.dstBase
/-- Position 5 of R139, with the side of the base concerned. -/
def descFormBad (s : State) (c : Fin 8) (f : DescF) : Option Nat :=
  let ownSp (g : Nat) (n : Nat) : Bool := match toLocal s g with
    | some a => inSp c a n || (paired s && inSp (mirrorOf c) a n)
    | none => false
  firstBad [
    ((f.isDR || f.mask != 0) && srcFar s f, 0),
    (f.isSR && !f.isDR && otherModule s f.dstBase, 1),
    (f.mask != 0 && !f.isDR && !ownSp f.dstBase 1, 1),
    (f.mask != 0 && f.isSR && f.isDR, 1),
    (f.mode == 1 && !f.isSR && !ownSp f.srcBase (64 * f.srcWin), 0)]
/-- Position 6 of R139: the side misaligned. -/
def descAlignBad (f : DescF) : Option Nat :=
  let side (isReel : Bool) (base off fmt : Nat) (st : List Int) : Bool :=
    (!isReel && base % 64 != 0) || off % fmtAlign fmt != 0 || st.any (fun x => x % (fmtAlign fmt : Nat) != 0)
  firstBad [
    (side f.isSR f.srcBase f.srcOff f.cvt.src f.sst, 0),
    (side f.isDR f.dstBase f.dstOff f.cvt.dst f.dst, 1),
    ((f.cvt.mode == 1 && f.cvt.addr % 64 != 0) || (f.cvt.mode != 0 && f.cvt.out % 64 != 0) || (f.mode == 1 && f.index % 64 != 0), 2)]
/-- The window of a side in bytes. -/
def srcWindow (s : State) (c : Fin 8) (f : DescF) : Nat := if f.isSR then rlSize s c f.sReel else 64 * f.srcWin
def dstWindow (s : State) (d : Fin 8) (f : DescF) : Nat := if f.isDR then rlSize s d f.dReel else 64 * f.dstWin
/-- Position 7 of R139, as far as it is checked before data moves. -/
def descBoundsBad (s : State) (c : Fin 8) (f : DescF) : Option Nat :=
  firstBad [
    (f.mode == 0 && !inWindow (f.ext f.srcOff f.cvt.src f.sst) (srcWindow s c f), 0),
    ((f.targets s c).any (fun d => !inWindow (f.ext f.dstOff f.cvt.dst f.dst) (dstWindow s d f)), 1),
    (f.mode == 1 && decide (spSize < f.index + 4 * f.count 1), 2)]
/-- The local address of the destination window in cluster d: the window itself, or its counterpart of a multicast (R145). -/
def dstWinAddr (c d : Fin 8) (f : DescF) : Nat :=
  let a := localPart f.dstBase
  if f.mask = 0 then a else spBase d + (a - (match region a with
    | .sp x => spBase x
    | _ => spBase c))
/-- Position 8 of R139: the windows of both sides under the local regions of the job, a window in another module too (R140). -/
def descPermBad (s : State) (c : Fin 8) (f : DescF) : Option Nat :=
  let p := partOf s c
  let src : Bool := if f.isSR then rlConsumer s c f.sReel != 0 && !protOk s p (slotAddr s c f.sReel 0) (ringBytes s c f.sReel) false
    else decide (2 ^ 63 ≤ f.srcBase) || !memOk s c (localPart f.srcBase) (64 * f.srcWin) false
  let dst (d : Fin 8) : Bool := if f.isDR then rlConsumer s d f.dReel != 0 && !protOk s p (slotAddr s d f.dReel 0) (ringBytes s d f.dReel) true
    else decide (2 ^ 63 ≤ f.dstBase) || (f.mask != 0 && !inSp d (dstWinAddr c d f) (64 * f.dstWin)) || !memOk s c (dstWinAddr c d f) (64 * f.dstWin) true
  let n := 4 * entryCount f.cvt.gran f.rows (f.count 0)
  let sp (o n : Nat) (w : Bool) : Bool := inSp c (spBase c + o) n && protOk s p (spBase c + o) n w
  firstBad [
    (src, 0),
    ((fins 8).any (fun d => bit f.mask d.val && partOf s d != p), 1),
    ((f.targets s c).any dst, 1),
    ((f.cvt.mode == 1 && !sp f.cvt.addr n false) || (f.cvt.mode != 0 && f.cvt.out != 0 && !sp f.cvt.out n true) ||
      (f.mode == 1 && !sp f.index (4 * f.count 1) false), 2)]
/-- Position 9 of R139. -/
def descReelBad (s : State) (c : Fin 8) (f : DescF) : Bool :=
  (f.isSR && rlConsumer s c f.sReel != 3) || (f.isDR && (f.targets s c).any (fun d => rlConsumer s d f.dReel == 0))

/-- The first failing position 3-9 of R139: code, ADDR, CHECK, SIDE (R137 for an empty descriptor). -/
def descCheck (s : State) (c : Fin 8) (x : DescRun) : Option (Nat × Nat × Nat × Nat) :=
  let f := descF x.d
  let at' (side : Nat) : Nat := if side = 0 ∧ !f.isSR then f.srcBase else if side = 1 ∧ !f.isDR then f.dstBase else 0
  let pos (code check : Nat) (o : Option Nat) : Option (Nat × Nat × Nat × Nat) := o.map (fun side => (code, at' side, check, side))
  firstSome (fun y => y) [
    if x.bad then some (7, 0, 3, 3) else none,
    if descFormatBad s c x.d then some (3, 0, 4, 3) else none,
    pos 3 5 (descFormBad s c f),
    pos 5 6 (descAlignBad f),
    if f.empty then none else pos 4 7 (descBoundsBad s c f),
    if f.empty then none else pos 6 8 (descPermBad s c f),
    if descReelBad s c f then some (6, 0, 9, 4) else none]

/-! Fetch and start. -/

/-- A STREAM operation dispatches to its engine. -/
def streamDispatch (s : State) (c : Fin 8) (e : QEntry) : State :=
  let g : Fin 4 := ⟨fld e.blk 112 2 % 4, Nat.mod_lt _ (by decide)⟩
  modC s c (fun k => { k with
    flights := k.flights ++ [newFlight e RangeReg.reset false],
    streams := vset k.streams g (some { id := e.id, nFetched := 0, descs := [], done := 0, coldRegs := [] }) })

/-- A descriptor just read. -/
def newDesc (idx : Nat) (d : Descriptor) (bad : Bool) : DescRun :=
  { idx := idx, d := d, bad := bad, srcSlot := none, dstSlots := [], snap := RangeReg.reset, started := false, asked := false, far := [],
    outst := 0, written := false, waitSince := none, mcSince := none, stalled := false }
/-- The ring lies in the issuing cluster's scratchpad or the module's HBM (R129). -/
def ringOk (s : State) (c : Fin 8) (b : OpBlock) : Bool :=
  match toLocal s (stBase b) with
  | some a => inHbm a (128 * stRing b) || inSp c a (128 * stRing b) || (paired s && inSp (mirrorOf c) a (128 * stRing b))
  | none => false

/-- The unit number of stream engine e of cluster c (R310). -/
def engUnit (c : Fin 8) (e : Fin 4) : Nat := 16 * c.val + 4 + e.val
/-- The local address of the i-th descriptor of an operation (R129). -/
def descAddr (s : State) (c : Fin 8) (b : OpBlock) (i : Nat) : Nat := ownAddr s c (localPart (stBase b) + 128 * ((stFirst b + i) % stRing b))
/-- DESCRIPTOR_FETCH (R121, R129, R136, R139): a burst of up to 8 descriptors, once fewer than 4 fetched ones are unstarted. It ends before a
descriptor that the job's regions do not let the engine read, which is a fault of position 2 when it comes first (log entry 89). The 128 bytes of a
descriptor are read at once, so that no mixture of an old and a new half is seen (DESIGN CHOICE, log entry 93). -/
def descriptorFetch (s : State) (c : Fin 8) (e : Fin 4) : State :=
  match streamOf s c e with
  | none => s
  | some (r, fl) =>
    let b := fl.e.blk
    let left := stCount b - r.nFetched
    if left = 0 ∨ 4 ≤ (r.descs.filter (fun d => !d.started)).length then s
    else if stBase b % 128 ≠ 0 ∨ ¬ isPow2 (stRing b) ∨ 65536 < stRing b then descFault s c e fl r.nFetched 5 (stBase b) 1 3
    else
      let burst := ((List.range (min 8 left)).map (fun i => r.nFetched + i)).takeWhile (fun i => protOk s (partOf s c) (descAddr s c b i) 128 false)
      if !ringOk s c b || burst.isEmpty then descFault s c e fl r.nFetched 6 (stBase b) 2 3
      else
        let new := burst.map (fun i => newDesc i (BitVec.ofNat 1024 (rdLE s (descAddr s c b i) 128)) (anyMesh s (engUnit c e) (descAddr s c b i) 128))
        modStream (burst.foldl (fun s i => meshDone s (engUnit c e) false (descAddr s c b i) 128) s) c e
          (fun r => { r with nFetched := r.nFetched + new.length, descs := r.descs ++ new })

/-- The reels in which a descriptor still needs a slot: the source's, then each destination's (R142, R146). -/
def srcMissing (x : DescRun) : Bool := (descF x.d).isSR && x.srcSlot.isNone
def dstMissing (s : State) (c : Fin 8) (x : DescRun) : List (Fin 8) :=
  let f := descF x.d
  if f.isDR then (f.targets s c).filter (fun d => !x.dstSlots.any (fun y => y.1 == d.val)) else []

/-- An earlier descriptor of the operation has yet to update the range register that this one reads (R135). -/
def descHeld (r : StreamRun) (x : DescRun) : Bool :=
  let p := (descF x.d).cvt
  p.mode == 2 && r.descs.any (fun d => decide (d.idx < x.idx) && !d.written && (descF d.d).cvt.upd != 0 && (descF d.d).cvt.reg == p.reg)
/-- The descriptor starts: it takes its snapshot, and a cold use is reported, once per register of the operation (R93, R94, R135). -/
def descBegin (s : State) (c : Fin 8) (e : Fin 4) (r : StreamRun) (x : DescRun) : State :=
  let f := descF x.d
  let p := f.cvt
  let snap := rrGet s c p.reg
  let cold := !f.empty && usesCold s c p snap f.rows (f.count 0)
  let s1 := if f.empty then s else reportCold s c p snap f.rows (f.count 0) (4 + e.val) (r.coldRegs.contains p.reg)
  let s2 := if cold then modFlight (modStream s1 c e (fun y => { y with coldRegs := p.reg :: y.coldRegs })) c r.id (fun y => { y with cold := true }) else s1
  modDesc s2 c e x.idx (fun d => { d with started := true, snap := snap, waitSince := some (d.waitSince.getD s.now), mcSince := some s.now })
/-- DESCRIPTOR_START (R135): the next descriptor in ring order, once earlier updates of its range register are written, is checked, waits for its
slots, and starts; at most four run at once. The condition of R92 holds for the register as it is when the descriptor starts. -/
def descriptorStart (s : State) (c : Fin 8) (e : Fin 4) : State :=
  match streamOf s c e with
  | none => s
  | some (r, fl) =>
    match r.descs.find? (fun d => !d.started) with
    | none => s
    | some x =>
      if decide (4 ≤ (r.descs.filter (fun d => d.started)).length) || descHeld r x then s
      else
        match (if x.waitSince.isSome then none else descCheck s c x) with
        | some q => descFault s c e fl x.idx q.1 q.2.1 q.2.2.1 q.2.2.2
        | none =>
          let room := (dstMissing s c x).isEmpty
          if srcMissing x || !room then
            modDesc s c e x.idx (fun d => { d with waitSince := some (d.waitSince.getD s.now), mcSince := if room then d.mcSince else some (d.mcSince.getD s.now) })
          else if granDiffers s c (descF x.d).cvt then descFault s c e fl x.idx 3 0 4 3
          else descBegin s c e r x

/-! Data. -/

/-- The local base address of the source. -/
def descSrcBase (s : State) (c : Fin 8) (f : DescF) (x : DescRun) : Nat :=
  if f.isSR then slotAddr s c f.sReel (x.srcSlot.getD 0) else localPart f.srcBase
/-- The base address of the destination in target d: local, or global for another module. -/
def descDstBase (s : State) (c d : Fin 8) (f : DescF) (x : DescRun) : Nat :=
  if f.isDR then slotAddr s d f.dReel (((x.dstSlots.find? (fun y => y.1 == d.val)).map (fun y => y.2)).getD 0)
  else if f.mask = 0 then f.dstBase else dstWinAddr c d f
/-- The local address at which row r of the source starts; none for a zero row of a gather (R152). -/
def srcRowAddr (s : State) (c : Fin 8) (f : DescF) (x : DescRun) (r : Nat) : Option Nat :=
  let base : Int := descSrcBase s c f x
  if f.mode = 1 then
    let i := rdLE s (spBase c + f.index + 4 * r) 4
    if i = 0xFFFFFFFF then none else some (base + f.srcOff + i * f.sst.getD 0 0).toNat
  else some (base + f.srcOff + f.rowOff f.sst r).toNat
/-- The byte at offset n of the source's module, as another module has sent it. -/
def farByte (x : DescRun) (a : Nat) : Byte × Bool :=
  ((x.far.find? (fun b => decide (b.1 ≤ a) && decide (a < b.1 + b.2.length))).bind (fun b => b.2[a - b.1]?)).getD (0, false)
/-- Some of the n bytes at a that another module has sent is poisoned. -/
def farBad (x : DescRun) (a n : Nat) : Bool := (List.range n).any (fun i => (farByte x (a + i)).2)
/-- Row r of the source as codes with poison, as it arrives at the engine. -/
def srcRow (s : State) (c : Fin 8) (e : Fin 4) (f : DescF) (x : DescRun) (r : Nat) : List (Nat × Bool) :=
  match srcRowAddr s c f x r with
  | none => List.replicate (f.count 0) (0, false)
  | some a => (List.range (f.count 0)).map (fun j =>
    if srcFar s f then (elemAt (fun y => (farByte x y).1) f.cvt.src a j, farBad x (a + j * fmtBits f.cvt.src / 8) (max 1 (fmtBits f.cvt.src / 8)))
    else farElem s c (engUnit c e) f.cvt.src a j)
/-- The source has arrived: the granules that the mesh has hit have been delivered. -/
def srcArrived (s : State) (c : Fin 8) (e : Fin 4) (f : DescF) (x : DescRun) : State :=
  if s.meshHits.isEmpty then s
  else (List.range f.rows).foldl (fun s r => match srcRowAddr s c f x r with
    | some a => meshDone s (engUnit c e) false (ownAddr s c a) (rowBytes f.cvt.src (f.count 0))
    | none => s) s
/-- The reads of a source in another module leave, split at 2,048-byte blocks (R120, R368): n bounds the blocks of a row. -/
def readPackets (unit job g : Nat) : Nat → Nat → List Packet
  | 0, _ => []
  | n + 1, len =>
    if len = 0 then [] else
    let k := min len (2048 - g % 2048)
    reqPacket 2 unit g k 0 job [] :: readPackets unit job (g + k) n (len - k)
/-- The engine asks another module for the whole source of a descriptor. -/
def askSource (s : State) (c : Fin 8) (e : Fin 4) (f : DescF) (x : DescRun) (rep : FaultRep) : State :=
  let n := rowBytes f.cvt.src (f.count 0)
  let ps := (List.range f.rows).flatMap (fun r => readPackets (engUnit c e) (jobKey s (partOf s c))
    ((f.srcBase : Int) + f.srcOff + f.rowOff f.sst r).toNat (n + 1) n)
  ps.foldl (fun s p =>
    let g := 2 ^ 48 * p.dest + p.addr
    let q := { rep with addr := g, detail := descDet 0 0 x.idx }
    sendReq s c q p (.descRead c e x.idx g q)) (modDesc s c e x.idx (fun d => { d with asked := true, outst := ps.length }))
/-- The first row of a gather that faults: E_BOUNDS for an index outside the window, E_POISON for its poisoned index. -/
def gatherBad (s : State) (c : Fin 8) (f : DescF) : Option (Nat × Nat × Nat) :=
  if f.mode ≠ 1 then none
  else (List.range (f.count 1)).findSome? (fun r =>
    if anyBad s (spBase c + f.index + 4 * r) 4 then some (r, 7, 10)
    else
      let i := rdLE s (spBase c + f.index + 4 * r) 4
      let lo : Int := f.srcOff + i * f.sst.getD 0 0
      if i ≠ 0xFFFFFFFF ∧ ¬ inWindow (lo, lo + rowBytes f.cvt.src (f.count 0)) (srcWindow s c f) then some (r, 4, 7) else none)
/-- The bytes of row r of the destination, from codes with poison: a byte carries the poison of its elements (R134). -/
def descRowBytes (fmt : Nat) (l : List (Nat × Bool)) : List (Byte × Bool) :=
  (packRow fmt (l.map (fun x => x.1))).zipIdx.map (fun b =>
    let j := b.2 * 8 / fmtBits fmt
    (b.1, ((l[j]?).map (fun x => x.2)).getD false || (isNibFmt fmt && ((l[j + 1]?).map (fun x => x.2)).getD false)))
/-- Row r of the destination is written in every target; a row for another module leaves as fabric writes, which are counted. -/
def writeDescRow (s : State) (c : Fin 8) (e : Fin 4) (f : DescF) (x : DescRun) (rep : FaultRep) (r : Nat) (l : List (Byte × Bool)) : State :=
  if dstFar s f then
    let g := ((f.dstBase : Int) + f.dstOff + f.rowOff f.dst r).toNat
    let ps := writePackets (engUnit c e) (jobKey s (partOf s c)) g (l.length + 1) l
    ps.foldl (fun s p => sendReq s c { rep with addr := 2 ^ 48 * p.dest + p.addr } p (.desc c e x.idx { rep with addr := 2 ^ 48 * p.dest + p.addr }))
      (modDesc s c e x.idx (fun d => { d with outst := d.outst + ps.length }))
  else (f.targets s c).foldl (fun s d =>
    emitRow s c rep ((localPart (descDstBase s c d f x) : Int) + f.dstOff + f.rowOff f.dst r).toNat l) s

/-- A converting descriptor reads a poisoned source or scale: the side (position 10 of R139). -/
def descPoison (s : State) (c : Fin 8) (e : Fin 4) (f : DescF) (x : DescRun) : Option Nat :=
  if f.cvt.plain || f.mode == 1 then none
  else if scaleBad s c f.cvt f.rows (f.count 0) then some 2
  else if (List.range f.rows).any (fun r => match srcRowAddr s c f x r with
      | some a => if srcFar s f then farBad x a (rowBytes f.cvt.src (f.count 0)) else anyMesh s (engUnit c e) (ownAddr s c a) (rowBytes f.cvt.src (f.count 0))
      | none => false) then some 0
  else none

/-- The data of a descriptor moves (R133, R134): n rows, the converted elements with flags, scales and range update. -/
def descMove (s : State) (c : Fin 8) (e : Fin 4) (f : DescF) (x : DescRun) (rep : FaultRep) (n : Nat) : State :=
  let p := f.cvt
  let rows := (List.range n).map (fun r => (r, srcRow s c e f x r))
  if p.plain then rows.foldl (fun s y => writeDescRow s c e f x rep y.1 (descRowBytes p.dst y.2)) s
  else
    let flush := flushOf s c 3
    let view := rows.flatMap (fun y => y.2.zipIdx.map (fun v => (y.1, v.2, v.1.1)))
    let q := cvtView s c p x.snap flush view
    let s1 := rows.foldl (fun s y =>
      writeDescRow s c e f x rep y.1 (descRowBytes p.dst ((q.1.filter (fun v => v.1 == y.1)).map (fun v => (v.2.2, false))))) s
    let s2 := setFlags s1 c 3 (q.2 ||| snapFlags s c p x.snap f.rows (f.count 0)).toNat
    rangeUpdate (writeScales s2 c p x.snap f.rows (f.count 0)) c 3 p flush view f.rows (f.count 0)

/-- The operation of an engine ends with its signal once every descriptor is complete (R135). -/
def endStream (s : State) (c : Fin 8) (e : Fin 4) : State :=
  match streamOf s c e with
  | some (r, fl) =>
    if r.descs.isEmpty && r.done == stCount fl.e.blk then
      dropFlight (opSignal (modC s c (fun k => { k with streams := vset k.streams e none })) c fl.e) c fl.e.id
    else s
  | none => freeEngine s c e

/-- No effect of descriptor idx waits for the pair's comparison (R448). -/
def descEgressDone (k : Cluster) (f : FaultRep) : Bool :=
  !k.egress.any (fun x => match x with
    | .write _ _ _ g => g.pc == f.pc && g.engine == f.engine && g.detail / 65536 == f.detail / 65536
    | .packet _ _ _ g => g.pc == f.pc && g.engine == f.engine && g.detail / 65536 == f.detail / 65536
    | .clap _ _ _ => false)
/-- A descriptor whose writes are performed completes when they are acknowledged and its slots have committed; its signal
follows (R135, R146). -/
def finishDesc (s : State) (c : Fin 8) (e : Fin 4) (x : DescRun) : State :=
  let f := descF x.d
  let waits := x.dstSlots.any (fun y => reelHolds s (toFin8 y.1) f.dReel y.2)
  let rep : FaultRep := match streamOf s c e with
    | some (_, fl) => opRep s c fl.e 0 0 (descDet 0 1 x.idx)
    | none => repOf s c (4 + e.val) 0 0 0 0 (descDet 0 1 x.idx)
  let id := ((s.cl[c].streams[e]).map (fun r => r.id)).getD 0
  if x.outst ≠ 0 ∨ waits ∨ ¬ descEgressDone s.cl[c] rep then s
  else
    let s1 := modStream s c e (fun r => { r with descs := r.descs.filter (fun d => d.idx != x.idx), done := r.done + 1 })
    let s2 := if f.sigEn then sendSignal s1 c rep id (4 + e.val) f.sigClap f.sigInc else s1
    endStream s2 c e
/-- The destination of a descriptor that faults while it runs becomes undefined from row n on (R139). -/
def undefDesc (s : State) (c : Fin 8) (f : DescF) (x : DescRun) (n : Nat) : State :=
  (f.targets s c).foldl (fun s d => (List.range (f.rows - n)).foldl (fun s i =>
    if dstFar s f then s
    else undefMem s (ownAddr s c ((localPart (descDstBase s c d f x) : Int) + f.dstOff + f.rowOff f.dst (n + i)).toNat) (rowBytes f.cvt.dst (f.count 0))) s) s

/-- The descriptor's data moves (R134, R135, R137): it releases its source slot, commits its destination slots, and, once all its writes are complete,
its signal follows. -/
def descRun (s : State) (c : Fin 8) (e : Fin 4) (fl : Flight) (x : DescRun) : State :=
  let f := descF x.d
  let rep := opRep s c fl.e 0 (if f.isDR then 0 else f.dstBase) (descDet 0 1 x.idx)
  match (if f.empty then none else descPoison s c e f x) with
  | some side => descFault (undefDesc (srcArrived s c e f x) c f x 0) c e fl x.idx 7 (if side = 0 ∧ !f.isSR then f.srcBase else 0) 10 side
  | none =>
    match (if f.empty then none else gatherBad s c f) with
    | some q => descFault (undefDesc (descMove s c e f x rep q.1) c f x q.1) c e fl x.idx q.2.1 0 q.2.2 2
    | none =>
      let s1 := if f.empty then s else srcArrived (descMove s c e f x rep f.rows) c e f x
      let s2 := modDesc s1 c e x.idx (fun d => { d with written := true, far := [] })
      let s3 := match x.srcSlot with
        | some i => reelRelease s2 c f.sReel i
        | none => s2
      let s4 := x.dstSlots.foldl (fun s y => reelCommit s (toFin8 y.1) f.dReel y.2) s3
      match (s4.cl[c].streams[e]).bind (fun r => r.descs.find? (fun d => d.idx == x.idx)) with
      | some y => finishDesc s4 c e y
      | none => s4

/-- DESCRIPTOR_COMPLETE (R120, R134, R135): the n-th started descriptor of the engine moves its data, in descriptor order. A source in another
module is asked for first, and has come before any of it moves. -/
def descriptorComplete (s : State) (c : Fin 8) (e : Fin 4) (n : Nat) : State :=
  match s.cl[c].streams[e] with
  | none => s
  | some r =>
    let run := r.descs.filter (fun d => d.started)
    match run[n]? with
    | none => s
    | some x =>
      let f := descF x.d
      if x.written then finishDesc s c e x
      else if (run.take n).any (fun d => !d.written) then s
      else
        match streamOf s c e with
        | none => s
        | some (_, fl) =>
          if srcFar s f && !f.empty && !x.asked then askSource s c e f x (opRep s c fl.e 0 f.srcBase (descDet 0 0 x.idx))
          else if x.asked && x.outst != 0 then s
          else descRun s c e fl x

/-- The answer to a remote write of a descriptor (R139, 12 and 13). -/
def descAnswered (s : State) (c : Fin 8) (e : Fin 4) (idx : Nat) (f : FaultRep) (fault : Option (Nat × Nat)) : State :=
  match fault with
  | some (code, check) =>
    match streamOf s c e with
    | some (_, fl) => descFault s c e fl idx code f.addr check 1
    | none => s
  | none =>
    let s1 := modDesc s c e idx (fun d => { d with outst := d.outst - 1 })
    match (s1.cl[c].streams[e]).bind (fun r => r.descs.find? (fun d => d.idx == idx)) with
    | some x => if x.written then finishDesc s1 c e x else s1
    | none => s1

/-- The answer to a remote read of a descriptor (R120): its bytes with their poison, kept until the whole source has come; a refused or unanswered
one faults as a remote write does, with SIDE 0 (log entry 90). -/
def descReadAnswered (s : State) (c : Fin 8) (e : Fin 4) (idx g : Nat) (f : FaultRep) (fault : Option (Nat × Nat)) (data : List Byte) (poison : Nat) : State :=
  match fault with
  | some (code, check) =>
    match streamOf s c e with
    | some (_, fl) => descFault s c e fl idx code f.addr check 0
    | none => s
  | none =>
    let l := data.zipIdx.map (fun x => (x.1, bit poison ((g + x.2) % 2048 / 64)))
    modDesc s c e idx (fun d => { d with outst := d.outst - 1, far := d.far ++ [(localPart g, l)] })

/-- MCAST_STALL (R147, R156): the oldest unfinished multicast of the engine has waited longer than MCAST_STALL_TIMEOUT; it is logged
once. -/
def mcastStall (s : State) (c : Fin 8) (e : Fin 4) : State :=
  match streamOf s c e with
  | none => s
  | some (r, _) =>
    match r.descs.find? (fun d => (descF d.d).mask != 0 && d.mcSince.isSome && !d.stalled && !d.written) with
    | none => s
    | some x =>
      let f := descF x.d
      let t := oget s 0x3050 0
      if t = 0 ∨ ¬ elapsedUs s (x.mcSince.getD s.now) t then s
      else
        let lag := (fins 8).foldl (fun a d =>
          if bit f.mask d.val && (x.started || !f.isDR || (dstMissing s c x).any (fun y => y == d || (paired s && leader y == leader d)))
          then a + 2 ^ d.val else a) 0
        let s1 := obump (modDesc s c e x.idx (fun d => { d with stalled := true })) 0x3051 0 1
        logEv s1 (16 * c.val + 4 + e.val) 0x0201 0
          (payOf [(16, takeId s c), (24, (partOf s c).val), (25, c.val), (26, 4 + e.val), (27, lag),
                  (28, if f.isDR then f.dReel else 0xFF), (30, x.idx)])

/-- DESCRIPTOR_FETCH. -/
def execDescriptorFetch (c : Fin 8) (e : Fin 4) (s : State) : Host.Outcome State Fault Refusal := .next (descriptorFetch s c e)
/-- DESCRIPTOR_START. -/
def execDescriptorStart (c : Fin 8) (e : Fin 4) (s : State) : Host.Outcome State Fault Refusal := .next (descriptorStart s c e)
/-- DESCRIPTOR_COMPLETE. -/
def execDescriptorComplete (c : Fin 8) (e : Fin 4) (n : Nat) (s : State) : Host.Outcome State Fault Refusal := .next (descriptorComplete s c e n)
/-- MCAST_STALL. -/
def execMcastStall (c : Fin 8) (e : Fin 4) (s : State) : Host.Outcome State Fault Refusal := .next (mcastStall s c e)

end Sys2Proof.Machine
end

