-- ==== Sys2Proof/Machine/Engines.lean ====
section
/-! DEFINITION. Machine/Engines.lean: the other operations of the stream engines' queues: GATHER (R284-R293), TSEND (R350, R351) and
DIGEST (R352). -/

namespace Sys2Proof.Machine

/-- The stream engine that an operation of group 2 names. -/
def engNo (b : OpBlock) : Fin 4 := ⟨fld b 112 2 % 4, Nat.mod_lt _ (by decide)⟩
/-- The operation runs on a stream engine's queue. -/
def isSqKind (k : OpKind) : Bool := k == .stream || k == .gather || k == .tsend || k == .digest
/-- The engine still has an operation under way. -/
def engineBusy (k : Cluster) (e : Fin 4) : Bool :=
  k.streams[e].isSome || k.flights.any (fun f => isSqKind f.e.kind && engNo f.e.blk == e)
/-- The operation of a kind under way on an engine. -/
def engFlight (k : Cluster) (kind : OpKind) (e : Fin 4) : Option Flight := k.flights.find? (fun f => f.e.kind == kind && engNo f.e.blk == e)
/-- The place of the table, of pages and of frames (R288): own HBM, or the scratchpad of a cluster of the partition. -/
def partMem (s : State) (c : Fin 8) (a n : Nat) : Bool :=
  inHbm a n || (fins 8).any (fun d => partOf s d == partOf s c && inSp d a n)

/-! GATHER. -/

/-- The fields of a GATHER (R286, R349). -/
structure GatherF where
  pageCode : Nat
  w : Nat
  d : Nat
  parts : Nat
  pages : Nat
  table : Nat
  first : Nat
  count : Nat
  pool : List Nat
  dst : List Nat
  spitch : Nat
deriving DecidableEq, Repr

/-- The fields of a GATHER block; pools and destinations in the order K data, V data, K scales, V scales. -/
def gatherF (b : OpBlock) : GatherF :=
  { pageCode := fld b 117 3, w := if fld b 120 2 = 0 then 8 else 4, d := 32 * 2 ^ fld b 122 2, parts := fld b 128 8, pages := fld b 136 17,
    table := 8 * fld b 160 45, first := fld b 208 32, count := fld b 240 32,
    pool := [64 * fld b 272 35, 64 * fld b 307 35, 64 * fld b 342 35, 64 * fld b 377 35],
    dst := [64 * fld b 412 21, 64 * fld b 433 21, 64 * fld b 454 21, 64 * fld b 475 21], spitch := 64 * fld b 496 16 }
/-- Tokens per page. -/
def GatherF.p (f : GatherF) : Nat := if f.pageCode = 0 then 16 else 16 * 2 ^ f.pageCode
/-- Bytes of a data row, and its pitch at the destination (R287). -/
def GatherF.row (f : GatherF) : Nat := f.d * f.w / 8
def GatherF.rp (f : GatherF) : Nat := max 64 f.row
/-- Part i is named. -/
def GatherF.has (f : GatherF) (i : Nat) : Bool := bit f.parts i
/-- The bytes that part i covers at its destination (R287). -/
def GatherF.span (f : GatherF) (i : Nat) : Nat := if i < 2 then f.count * f.rp else (f.d / 32 - 1) * f.spitch + 2 * f.count
/-- DETAIL of a GATHER fault (R290). -/
def gatherDet (check side page : Nat) : Nat := check + 256 * side + 65536 * (page % 65536)

/-- The first failing check 1-5 of R289: code, ADDR, CHECK, SIDE. -/
def gatherCheck (s : State) (c : Fin 8) (b : OpBlock) : Option (Nat × Nat × Nat × Nat) :=
  let f := gatherF b
  let parts := (List.range 4).filter f.has
  let tooFar := f.count != 0 && (decide (0x100000 < f.first + f.count) || decide (f.pages ≤ (f.first + f.count - 1) / f.p))
  let prot (a n : Nat) (w : Bool) : Bool := protOk s (partOf s c) a n w
  let some' (l : List (Bool × (Nat × Nat × Nat × Nat))) := firstBad l
  some' ([
    (hBad b || anySet b [(205, 3), (153, 7), (124, 4), (132, 4)] || decide (4 < fld b 117 3) || decide (1 < fld b 120 2) ||
      decide (65536 < f.pages) || decide (4 < fld b 114 3), (3, 0, 1, 0))] ++
    (if f.count = 0 then [] else [
      (tooFar, (13, 0, 3, 0)),
      (parts.any (fun i => decide (spSize < f.dst.getD i 0 + f.span i)) || (decide (4 ≤ f.parts % 16) && decide (f.spitch < 2 * f.count)), (4, 0, 4, 3)),
      (!(partMem s c f.table (8 * f.pages) && prot f.table (8 * f.pages) false), (6, f.table, 5, 0)),
      (parts.any (fun i => !(partMem s c (f.pool.getD i 0) 64 && prot (f.pool.getD i 0) 64 false)), (6, 0, 5, 4)),
      (parts.any (fun i => !prot (spBase c + f.dst.getD i 0) (f.span i) true), (6, 0, 5, 3))]))

/-- The addresses of token row u of the four parts of page entry e (R280, R281, R284): data rows, then the first scale. -/
def gatherRow (f : GatherF) (entry u : Nat) (i : Nat) : Nat :=
  let base := entry / 64 % 2 ^ 57 * 64
  let dd := f.p * f.row
  let sd := f.p * f.d / 16
  if entry % 2 = 1 then
    let n := entry / 64 % 2 ^ 26 * f.p + u
    f.pool.getD i 0 + n * (if i < 2 then f.row else f.d / 16)
  else
    let a := localPart base
    match i with
    | 0 => a + u * f.row
    | 1 => a + dd + u * f.row
    | 2 => a + 2 * dd + u * (f.d / 16)
    | _ => a + 2 * dd + sd + u * (f.d / 16)
/-- The bytes of a page (R281, R283). -/
def GatherF.pageBytes (f : GatherF) : Nat := 2 * f.p * f.row + 2 * (f.p * f.d / 16) + (if f.pageCode = 0 then 64 else 0)
/-- The entry of logical page i, as it is read (R284). -/
def gatherEntry (s : State) (c : Fin 8) (f : GatherF) (i : Nat) : Nat := rdLE s (ownAddr s c (localPart f.table + 8 * i)) 8
/-- The trailer of the native page of an entry. -/
def gatherTrailer (s : State) (c : Fin 8) (f : GatherF) (e : Nat) : Nat := ownAddr s c (localPart (e / 64 % 2 ^ 57 * 64) + f.pageBytes - 64)
/-- The first failing check 6-9 of R289 for page i with entry e, which holds positions lo to hi, read by unit u: code, ADDR, CHECK, SIDE. -/
def gatherPageBad (s : State) (c : Fin 8) (u : Nat) (f : GatherF) (e i lo hi : Nat) : Option (Nat × Nat × Nat × Nat) :=
  let ea := ownAddr s c (localPart f.table + 8 * i)
  let page := e / 64 % 2 ^ 57 * 64
  let tr := gatherTrailer s c f e
  let native := e % 2 == 0 && f.pageCode == 0
  let ok (a n : Nat) : Bool := partMem s c a n && protOk s (partOf s c) a n false
  let there := if e % 2 = 1 then (List.range 4).all (fun k => !f.has k || ok (gatherRow f e 0 k) (f.p * (if k < 2 then f.row else f.d / 16)))
    else (toLocal s page).isSome && ok (localPart page) f.pageBytes
  let tb (o n : Nat) : Nat := rdLE s (tr + o) n
  firstBad [
    (anyMesh s u ea 8, (7, ea, 6, 0)),
    (native && bit e 63 && there && anyMesh s u tr 64, (7, tr, 6, 2)),
    (!bit e 63, (13, ea, 7, 0)),
    (native && there && decide (tb 15 1 ≤ hi % f.p) && decide (lo ≤ hi), (13, tr, 7, 2)),
    (native && there && (tb 13 1 != 1 || tb 14 1 % 16 != (if f.w = 8 then 0 else 1) + 4 * Nat.log2 (f.d / 32)), (3, tr, 8, 2)),
    (!there, (6, page, 9, 1))]

/-- A GATHER under way (R287): the state, the scales of the parts and blocks so far as (part, block, bytes) in increasing t, the positions copied,
and the page and fault that ended it. -/
structure GatherRun where
  s : State
  scales : List (Nat × Nat × List (Byte × Bool))
  n : Nat
  bad : Option (Nat × (Nat × Nat × Nat × Nat))

/-- The parts of position t (from POS_FIRST) are copied from the page of entry e (R287): data rows to the destination, scales to their vectors. -/
def gatherOne (c : Fin 8) (u : Nat) (f : GatherF) (rep : FaultRep) (e : Nat) (g : GatherRun) (t : Nat) : GatherRun :=
  let at' (i : Nat) : Nat := ownAddr g.s c (gatherRow f e ((f.first + t) % f.p) i)
  (List.range 4).foldl (fun g i =>
    if !f.has i then g
    else if i < 2 then
      let l := rdMesh g.s u (at' i) f.row ++ List.replicate (f.rp - f.row) (0#8, false)
      { g with s := emitRow (meshDone g.s u false (at' i) f.row) c rep (spBase c + f.dst.getD i 0 + t * f.rp) l }
    else
      let l := (List.range (f.d / 32)).map (fun b => (i, b, rdMesh g.s u (at' i + 2 * b) 2))
      { g with s := meshDone g.s u false (at' i) (f.d / 16), scales := g.scales ++ l }) { g with n := t + 1 }
/-- Page i of a GATHER (R287, R289): its entry is read once, checked, and its positions are copied; a GATHER that has failed copies no more. -/
def gatherPage (c : Fin 8) (u : Nat) (f : GatherF) (rep : FaultRep) (g : GatherRun) (i : Nat) : GatherRun :=
  let e := gatherEntry g.s c f i
  let lo := max f.first (i * f.p)
  let hi := min (f.first + f.count - 1) (i * f.p + f.p - 1)
  if g.bad.isSome then g
  else
    match gatherPageBad g.s c u f e i lo hi with
    | some q => { g with bad := some (i, q) }
    | none =>
      let s1 := meshDone g.s u false (ownAddr g.s c (localPart f.table + 8 * i)) 8
      let s2 := if e % 2 == 0 && f.pageCode == 0 then meshDone s1 u false (gatherTrailer s1 c f e) 64 else s1
      (List.range (hi + 1 - lo)).foldl (fun g k => gatherOne c u f rep e g (lo - f.first + k)) { g with s := s2 }
/-- The scale vectors of a GATHER are written, one run for each block (R123, R287). -/
def gatherScales (c : Fin 8) (f : GatherF) (rep : FaultRep) (g : GatherRun) : State :=
  [2, 3].foldl (fun s i => (List.range (f.d / 32)).foldl (fun s b =>
    match (g.scales.filter (fun x => x.1 == i && x.2.1 == b)).flatMap (fun x => x.2.2) with
    | [] => s
    | l => emitRow s c rep (spBase c + f.dst.getD i 0 + f.spitch * b) l) s) g.s
/-- The logical pages that hold the positions of a GATHER. -/
def GatherF.pageList (f : GatherF) : List Nat :=
  if f.count = 0 then [] else (List.range ((f.first + f.count - 1) / f.p - f.first / f.p + 1)).map (fun k => f.first / f.p + k)
/-- The pages of a GATHER in increasing position. -/
def gatherRun (s : State) (c : Fin 8) (u : Nat) (f : GatherF) (rep : FaultRep) : GatherRun :=
  f.pageList.foldl (gatherPage c u f rep) { s := s, scales := [], n := 0, bad := none }

/-- The destination of a GATHER from position t on becomes undefined (R289). -/
def gatherUndef (s : State) (c : Fin 8) (f : GatherF) (t : Nat) : State :=
  (List.range 4).foldl (fun s i =>
    if !f.has i then s
    else if i < 2 then undefMem s (spBase c + f.dst.getD i 0 + t * f.rp) ((f.count - t) * f.rp)
    else (List.range (f.d / 32)).foldl (fun s b => undefMem s (spBase c + f.dst.getD i 0 + f.spitch * b + 2 * t) (2 * (f.count - t))) s) s

/-- An E_SEQLEN fault is counted (R293). -/
def countSeqlen (s : State) (c : Fin 8) (code : Nat) : State := if code = 13 then cbump s c 0x4061 0 1 else s

/-- GATHER_COMPLETE (R287; the scale vectors are written in one run at the end, log entry 109): the pages are checked and copied in increasing position, and the operation performs its signal. -/
def gatherComplete (s : State) (c : Fin 8) (e : Fin 4) : State :=
  match engFlight s.cl[c] .gather e with
  | none => s
  | some fl =>
    let f := gatherF fl.e.blk
    let rep := opRep s c fl.e 0 0 0
    let g := gatherRun s c (16 * c.val + 4 + e.val) f rep
    let s1 := gatherScales c f rep g
    match g.bad with
    | some (i, q) => flightFault (countSeqlen (gatherUndef s1 c f g.n) c q.1) c fl q.1 q.2.1 (gatherDet q.2.2.1 q.2.2.2 i)
    | none =>
      let bytes := (List.range 4).foldl (fun a i => if f.has i then a + (if i < 2 then f.count * f.rp else f.count * (f.d / 16)) else a) 0
      let s2 := cbump (cbump (cbump s1 c 0x4060 1 1) c 0x4060 2 f.pageList.length) c 0x4060 3 bytes
      dropFlight (opSignal s2 c fl.e) c fl.e.id

/-! TSEND. -/

/-- The fields of a TSEND (R350). -/
structure TsendF where
  dst : Nat
  srcPitch : Int
  dstPitch : Int
  srcOff : Nat
  rowBytes : Nat
  rows : Nat
  clap : Nat
  inc : Nat
deriving DecidableEq, Repr
def tsendF (b : OpBlock) : TsendF :=
  { dst := fld b 128 64, srcPitch := sfld b 192 32, dstPitch := sfld b 224 32, srcOff := 64 * fld b 256 21, rowBytes := fld b 280 24,
    rows := fld b 304 16, clap := fld b 320 14, inc := fld b 336 16 }
/-- The global address of row r (R350): the module is that of DST. -/
def tsendRow (f : TsendF) (r : Nat) : Nat := 2 ^ 48 * modulePart f.dst + (((f.dst : Int) + r * f.dstPitch) % (2 ^ 48 : Nat)).toNat
/-- Nothing to move (R350). -/
def TsendF.empty (f : TsendF) : Bool := f.rows == 0 || f.rowBytes == 0
/-- Reserved bits of a TSEND block. -/
def tsendReserved (b : OpBlock) : Bool := hBad b || anySet b [(352, 160), (334, 2), (277, 3), (114, 14)]
/-- The first failing check 1-4 of R351: code, ADDR, CHECK, SIDE. -/
def tsendCheck (s : State) (c : Fin 8) (b : OpBlock) : Option (Nat × Nat × Nat × Nat) :=
  let f := tsendF b
  let x : Int × Int := extent f.srcOff f.rowBytes 8 [(f.rows, f.srcPitch)]
  let one := (unnumbered s || modulePart f.dst == modNum s || decide (2 ^ 63 ≤ f.dst), (3, f.dst, 1, 1))
  if f.empty then firstBad [one]
  else firstBad [
    one,
    (f.dst % 64 != 0 || f.rowBytes % 64 != 0 || f.dstPitch % 64 != 0, (5, f.dst, 2, 1)),
    (f.srcPitch % 64 != 0, (5, f.dst, 2, 0)),
    (!(decide (0 ≤ x.1) && decide (x.2 ≤ spSize)), (4, 0, 3, 0)),
    (!protOk s (partOf s c) (spBase c + x.1.toNat) (x.2 - x.1).toNat false, (6, spBase c + x.1.toNat, 4, 0))]

/-- The request of a TSEND's remote addition (R350, R368). -/
def clapPacket (unit g op job : Nat) (v cmp : Word) : Packet :=
  reqPacket 3 unit g 16 op job ((toLE 8 v.toNat ++ toLE 8 cmp.toNat).map (fun x => (x, false)))

/-- TSEND_COMPLETE (R350): the rows leave as fabric writes; once all are acknowledged the addition follows; once it is answered the
operation performs its signal. -/
def tsendComplete (s : State) (c : Fin 8) (e : Fin 4) : State :=
  match engFlight s.cl[c] .tsend e with
  | none => s
  | some fl =>
    let f := tsendF fl.e.blk
    let unit := 16 * c.val + 4 + e.val
    let job := jobKey s (partOf s c)
    let fin (s : State) : State := dropFlight (opSignal s c fl.e) c fl.e.id
    if fl.outst ≠ 0 ∨ ¬ egressDone s.cl[c] fl.e then s
    else if fl.phase = 0 then
      if f.empty then fin s
      else
        let ps := (List.range f.rows).flatMap (fun (r : Nat) =>
          let a := ((spBase c : Int) + f.srcOff + r * f.srcPitch).toNat
          writePackets unit job (tsendRow f r) (f.rowBytes + 1) ((List.range f.rowBytes).map (fun i => ownByte s c (a + i))))
        ps.foldl (fun s p => let q := opRep s c fl.e 0 (2 ^ 48 * p.dest + p.addr) (descDet 0 1 0); sendReq s c q p (.tsend c e q))
          (modFlight s c fl.e.id (fun x => { x with phase := 1, outst := ps.length }))
    else if fl.phase = 1 ∧ f.inc ≠ 0 then
      let g := f.dst / 2 ^ 48 * 2 ^ 48 + clapAddr f.clap
      let q := opRep s c fl.e 0 g (descDet 0 1 0)
      sendReq (modFlight s c fl.e.id (fun x => { x with phase := 2, outst := 1 })) c q (clapPacket unit g 2 job (BitVec.ofNat 64 f.inc) 0) (.tsendAdd c e q)
    else fin s

/-- The answer to a write or to the addition of a TSEND (R351). -/
def tsendAnswered (s : State) (c : Fin 8) (e : Fin 4) (f : FaultRep) (fault : Option (Nat × Nat)) : State :=
  match engFlight s.cl[c] .tsend e with
  | none => s
  | some fl =>
    match fault with
    | some (code, check) => flightFault s c fl code f.addr (descDet check 1 0)
    | none => modFlight s c fl.e.id (fun x => { x with outst := x.outst - 1 })

/-! DIGEST. -/

/-- The fields of a DIGEST (R352). -/
def dgSrc (b : OpBlock) : Nat := fld b 128 64
def dgLen (b : OpBlock) : Nat := fld b 192 40
def dgDst (b : OpBlock) : Nat := 64 * fld b 256 21
/-- Reserved bits and values of a DIGEST block. -/
def digestReserved (b : OpBlock) : Bool := hBad b || anySet b [(277, 235), (232, 24), (117, 11)] || decide (4 < fld b 114 3)
/-- The first failing check 1-3 of R352: code, ADDR, CHECK. An empty source names no byte. -/
def digestCheck (s : State) (c : Fin 8) (b : OpBlock) : Option (Nat × Nat × Nat) :=
  let src := dgSrc b
  let n := dgLen b
  let place : Bool := n == 0 || (match toLocal s src with
    | some a => partMem s c a n
    | none => false)
  firstBad [
    (src % 64 != 0 || n % 64 != 0, (5, src, 1)),
    (!place || decide (spSize < dgDst b + 32), (6, src, 2)),
    ((n != 0 && !protOk s (partOf s c) (localPart src) n false) || !protOk s (partOf s c) (spBase c + dgDst b) 32 true, (6, src, 3))]

/-- The DIGEST operations that wait for the digest engine of die N, in the order in which they were dispatched, which is taken for that of
their arrival (R352; log entry 108). -/
def digestWaiting (s : State) : List (Fin 8 × Nat) :=
  s.digestQ.filter (fun x => s.cl[x.1].flights.any (fun f => f.e.id == x.2 && f.e.kind == .digest))
/-- A DIGEST dispatches: it waits its turn at the digest engine. -/
def digestDispatch (s : State) (c : Fin 8) (e : QEntry) : State :=
  modC { s with digestQ := digestWaiting s ++ [(c, e.id)] } c (fun k => { k with flights := k.flights ++ [newFlight e RangeReg.reset false] })
/-- DIGEST_COMPLETE (R352): the digest engine ends the oldest operation that has reached it, which is engine e's of cluster c: the digest of the
source, read through that stream engine, is written, or a poisoned source faults the operation with no digest. -/
def digestComplete (s : State) (c : Fin 8) (e : Fin 4) : State :=
  match engFlight s.cl[c] .digest e with
  | none => s
  | some fl =>
    if (digestWaiting s).head? ≠ some (c, fl.e.id) then s
    else
      let b := fl.e.blk
      let a := ownAddr s c (localPart (dgSrc b))
      let bytes := rdMesh s (16 * c.val + 4 + e.val) a (dgLen b)
      let s0 := meshDone s (16 * c.val + 4 + e.val) false a (dgLen b)
      if bytes.any (fun x => x.2) then flightFault s0 c fl 7 (dgSrc b) 4
      else
        let s1 := emitRow s0 c (opRep s c fl.e 0 0 0) (spBase c + dgDst b) ((sha256 (bytes.map (fun x => x.1))).map (fun x => (x, false)))
        dropFlight (opSignal s1 c fl.e) c fl.e.id

/-- GATHER_COMPLETE. -/
def execGatherComplete (c : Fin 8) (e : Fin 4) (s : State) : Host.Outcome State Fault Refusal := .next (gatherComplete s c e)
/-- TSEND_COMPLETE. -/
def execTsendComplete (c : Fin 8) (e : Fin 4) (s : State) : Host.Outcome State Fault Refusal := .next (tsendComplete s c e)
/-- DIGEST_COMPLETE. -/
def execDigestComplete (c : Fin 8) (e : Fin 4) (s : State) : Host.Outcome State Fault Refusal := .next (digestComplete s c e)

end Sys2Proof.Machine
end

