-- ==== Sys2Proof/Machine/TakeCore.lean ====
section
/-! DEFINITION. Machine/TakeCore.lean: the host's accesses that are refused (R511). -/

namespace Sys2Proof.Machine

/-- The PCIe link is up. -/
def pcieUp (s : State) : Bool := oget s 0x9001 0 != 0
/-- BAR2 and BAR4 serve memory (R511, R525): after start-up, and not in PARK or below. -/
def barOpen (s : State) : Bool := (oget s 0x9010 0 == 9 || oget s 0x9010 0 == 10) && decide (oget s 0x2001 0 ≤ 1)
/-- The function has logged no refusal of this reason in the last second. -/
def refusalLogs (s : State) (p : Fin 8) (reason : Nat) : Bool := match mfind s.hf[p].refusedAt reason with
  | some t => decide (t + 1000000000 ≤ s.now)
  | none => true
/-- HOST_ACCESS_REFUSED (R511): the access is completed as unsupported, or dropped if posted; counted, and logged at most once per second per
function and reason. -/
def hostRefused (s : State) (p : Fin 8) (bar reason off : Nat) (posted : Bool) : State :=
  let s1 := if posted then obump s 0x9003 7 1 else obump { s with outs := s.outs ++ [Out.unsupported p.val] } 0x9003 1 1
  if refusalLogs s1 p reason = true then
    logEv (modF s1 p (fun h => { h with refusedAt := mput h.refusedAt reason s1.now })) 0xC0 0x0803 0
      (payOf [(16, p.val), (17, bar), (18, reason), (24, off)])
  else s1

end Sys2Proof.Machine
end

