-- ==== Sys2Proof/Machine/Rights.lean ====
section
/-! DEFINITION. Machine/Rights.lean: who may read and write which object (R578), the abort codes (R505), and a register written through an
interface by a row of its own. -/

namespace Sys2Proof.Machine

/-! Abort codes (R505). -/

def aOk : Nat := 0
def aReadOnly : Nat := 0x0101
def aWriteOnly : Nat := 0x0102
def aNotPermitted : Nat := 0x0103
def aLocked : Nat := 0x0104
def aToken : Nat := 0x0105
def aNoIndex : Nat := 0x0201
def aNoSub : Nat := 0x0202
def aNoNode : Nat := 0x0203
def aLength : Nat := 0x0301
def aRange : Nat := 0x0302
def aInconsistent : Nat := 0x0303
def aBusy : Nat := 0x0401
def aRunning : Nat := 0x0402
def aState : Nat := 0x0403
def aCutTrial : Nat := 0x0501
def aNoPrevious : Nat := 0x0502
def aNotTrial : Nat := 0x0503
def aNothingStaged : Nat := 0x0504
def aTimeout : Nat := 0x0601
def aSequence : Nat := 0x0602
def aCrc : Nat := 0x0603
def aCancelled : Nat := 0x0604
def aCommand : Nat := 0x0605
def aTooMany : Nat := 0x0606
def aFlash : Nat := 0x0505
def aHardware : Nat := 0x0701
def aPoison : Nat := 0x0702

/-! Rights. -/

/-- PCIe function p is an admin function (FN_ADMIN_MASK). -/
def isAdmin (s : State) (p : Fin 8) : Bool := bit (oget s 0x8031 0) p.val
/-- The objects that partition function p may write (R578). -/
def partWrite (s : State) (p : Fin 8) (ix sub : Nat) : Bool :=
  ix == 0x9100 + p.val ||
  (decide (0x4000 ≤ ix) && decide (ix < 0x4800) && partOf s (toFin8 ((ix - 0x4000) / 0x100)) == p && ix % 0x100 != 1) ||
  (decide (0x3100 ≤ ix) && decide (ix < 0x3200) && partOf s (toFin8 ((ix - 0x3100) / 0x20)) == p) ||
  (decide (0x5100 ≤ ix) && decide (ix < 0x5200) && oget s ix 2 == p.val && sub != 2) ||
  (decide (0x6100 ≤ ix) && decide (ix < 0x6500) && oget s ix 3 == p.val && sub != 3) ||
  (ix == 0x6012 && decide (1 ≤ sub) && partOf s (bindCluster s (sub - 1)) == p)
/-- The interface may write the object (R578). -/
def canWrite (s : State) (via : Iface) (ix sub : Nat) : Bool :=
  match via with
  | .fn p => isAdmin s p || partWrite s p ix sub
  | .dap => oget s 0x8032 0 == 0 && ix != 0x8031 && ix != 0x8032
  | .jtag => decide (0x8000 ≤ ix) && decide (ix ≤ 0x80FF)
/-- The interface may read the object (R578). -/
def canRead (s : State) (via : Iface) (ix sub : Nat) : Bool :=
  match via with
  | .fn p => isAdmin s p || !((decide (0x8100 ≤ ix) && decide (ix ≤ 0x817F)) || (ix == 0x8030 && sub != 0 && sub != p.val + 1))
  | .dap => true
  | .jtag => (decide (0x1000 ≤ ix) && decide (ix ≤ 0x1004)) || ix == 0x9010 || (decide (0x8000 ≤ ix) && decide (ix ≤ 0x80FF))
/-- The number of the interface in an event: 0 PCIe, 1 DAP, 2 JTAG (R508). -/
def ifaceNo : Iface → Nat
  | .fn _ => 0
  | .dap => 1
  | .jtag => 2
/-- The outcome of a register's action: its abort code, 0 done, and the state. -/
abbrev Act := Nat × State
/-- A refusal changes nothing (R479). -/
def refuse (code : Nat) (s : State) : Act := (code, s)
/-- A register written by a row of its own: the rights come first (R479). -/
def written (s : State) (via : Iface) (ix sub : Nat) (a : Act) : State := if canWrite s via ix sub then a.2 else s

/-- A value waits for its apply point (R476): at most one per object and 64 in all; a NOHOLD write is refused (R477). -/
def holdValue (s : State) (via : Iface) (ix sub : Nat) (val : List Byte) (st nohold : Bool) : Act :=
  let others := s.dict.held.filter (fun h => !(h.ix == ix && h.sub == sub))
  if nohold then refuse aRunning s
  else if 64 ≤ others.length then refuse aBusy s
  else (aOk, { s with dict := { s.dict with held := others ++ [{ ix := ix, sub := sub, val := val, via := via, st := st }] } })

end Sys2Proof.Machine
end

