-- ==== Sys2Proof/Machine/Orders.lean ====
section
/-! DEFINITION. Machine/Orders.lean: shipping orders: bindings, claims and checks (R424-R428, R433), DLY_POST, and what a discard leaves of
them (R439). -/

namespace Sys2Proof.Machine

/-! Fields. -/

/-- Queue pair of an order (R425). -/
def oQp (o : List Byte) : Nat := eF o 12 2
def oKind (o : List Byte) : Nat := eF o 15 1
def oSeq (o : List Byte) : Nat := eF o 16 8
def oFirst (o : List Byte) : Nat := eF o 24 4
def oLayer (o : List Byte) : Nat := eF o 28 2
def oHead (o : List Byte) : Nat := eF o 30 2
def oValid (o : List Byte) : Nat := eF o 32 1
def oFormat (o : List Byte) : Nat := eF o 33 1
def oFlags (o : List Byte) : Nat := eF o 34 1
def oPool (o : List Byte) : Nat := eF o 35 1
def oFrame (o : List Byte) : Nat := eF o 36 4
def oLocal (o : List Byte) : Nat := eF o 40 8
def oImm (o : List Byte) : Nat := eF o 48 4
def oClap (o : List Byte) : Nat := eF o 52 2
def oInc (o : List Byte) : Nat := eF o 54 2
def oTag (o : List Byte) : Nat := eF o 56 4
/-- The order ships a page. -/
def isPage (o : List Byte) : Bool := oKind o == 1 || oKind o == 2
/-- Head dimension of a FORMAT (R282). -/
def fmtDim (f : Nat) : Nat := 32 * 2 ^ bits f 2 2
/-- Bytes of one token row of data (R280). -/
def fmtRow (f : Nat) : Nat := fmtDim f * (if bits f 0 2 = 0 then 8 else 4) / 8
/-- Bytes of the two scale areas and the two data areas of a native page (R281): where its trailer begins. -/
def trailerAt (f : Nat) : Nat := 32 * fmtRow f + 2 * fmtDim f
/-- The four addresses of pool n (R442): KD, VD, KS, VS. -/
def poolAddr (s : State) (n i : Nat) : Nat := bits (oget s 0x6011 (n + 1)) (64 * i) 64
/-- The four parts of frame FRAME of pool POOL: address, bytes of a token row, all bytes (R429). -/
def frameParts (s : State) (o : List Byte) : List (Nat × Nat × Nat) :=
  let f := oFormat o
  let r := fmtRow f
  let z := fmtDim f / 16
  let p (i row : Nat) := (poolAddr s (oPool o) i + oFrame o * 16 * row, row, 16 * row)
  [p 0 r, p 1 r, p 2 z, p 3 z]

/-! Checks (R427, R428). -/

/-- The first condition of R427 that an order of binding b meets: its code, CHECK and SIDE. -/
def orderBad (s : State) (b slot : Nat) (o : List Byte) : Option (Nat × Nat × Nat) :=
  let c := bindReader s b
  let p := bindPart s b
  let q := oQp o
  let k := oKind o
  let page := isPage o
  let place (a n : Nat) : Bool := partMem s c a n && protOk s p a n false
  let parts : List (Nat × Nat) := if k = 1 then (frameParts s o).map (fun x => (x.1, x.2.2)) else [(oLocal o, trailerAt (oFormat o) + 64)]
  let tr := outerAddr s (oLocal o + trailerAt (oFormat o))
  firstBad [
    (anyMesh s (dlyUnit (bindEngine s b)) (slotAddr s c (bindReel s b) slot) 64, (7, 1, 0)),
    (eF o 60 4 != 0 || eF o 14 1 != 0 || !(page || k == 3) || decide (2 ≤ oFlags o) || (page && (oValid o == 0 || decide (16 < oValid o))) ||
      (page && (decide (16 ≤ oFormat o) || decide (2 ≤ bits (oFormat o) 0 2))) || decide (0x4000 ≤ oClap o) ||
      (k == 3 && (oFormat o != 0 || oValid o != 0 || oHead o != 0 || oLayer o != 0)) || (k != 2 && oLocal o != 0) ||
      (k != 1 && (oFrame o != 0 || oPool o != 0)) || decide (0x4000000 ≤ oFrame o), (3, 2, 0)),
    ((page && oFirst o % 16 != 0) || oLocal o % 64 != 0, (5, 3, 0)),
    (page && decide (1048576 < oFirst o + oValid o), (0x0D, 4, 0)),
    (q / 512 != bindEngine s b || qget s q 3 != p.val || qget s q 1 == 0, (6, 5, 2)),
    (k == 1 && (decide (16 ≤ oPool o) || oget s 0x6011 (oPool o + 1) == 0), (6, 5, 3)),
    (page && parts.any (fun x => !place x.1 x.2), (6, 5, 1)),
    (k == 2 && (rdLE s (tr + 13) 1 != 1 || rdLE s (tr + 24) 8 != oSeq o || rdLE s (tr + 20) 4 != oFirst o || rdLE s (tr + 18) 2 != oLayer o ||
      rdLE s (tr + 16) 2 != oHead o || rdLE s (tr + 15) 1 != oValid o || rdLE s (tr + 14) 1 != oFormat o), (3, 6, 1))]
/-- The fault of a discarded order (R427, R428). -/
def orderRep (s : State) (b slot : Nat) (x : Nat × Nat × Nat) : FaultRep :=
  { part := (bindPart s b).val, code := x.1, time := 0, cluster := 0xFF, engine := 10, pc := 0,
    addr := slotAddr s (bindCluster s b) (bindReel s b) slot, detail := det x.2.1 0 x.2.2 b, cold := false, instr := 0, cflags := 0,
    sub := bindEngine s b }

/-! Trackers (R433). -/

/-- A tracker with no page. -/
def Tracker.fresh (id q seq : Nat) (orphan : Bool) : Tracker :=
  { id := id, qp := q, seq := seq, count := 0, acked := 0, crc := 2 ^ 32 - 1, bytes := 0, bad := false, firstTc := 0, sealed := false,
    orphan := orphan }
/-- The open tracker of a pair: no SEAL order has been queued for it and no discard has orphaned it. -/
def openTracker (s : State) (q seq : Nat) : Option Tracker :=
  s.dly.trackers.find? (fun t => t.qp == q && t.seq == seq && !t.sealed && !t.orphan)
/-- Free trackers of engine e (R433, DLY_TRACKERS_FREE). -/
def trackersFree (s : State) (e : Nat) : Nat := 4096 - (s.dly.trackers.filter (fun t => qpEngine t.qp == e)).length
/-- The state with f applied to tracker id. -/
def modTrk (s : State) (id : Option Nat) (f : Tracker → Tracker) : State :=
  match id with
  | some i => { s with dly := { s.dly with trackers := mapIf (fun t => t.id == i) f s.dly.trackers } }
  | none => s
/-- The state with tracker id freed. -/
def freeTrk (s : State) (id : Option Nat) : State :=
  match id with
  | some i => { s with dly := { s.dly with trackers := s.dly.trackers.filter (fun t => t.id != i) } }
  | none => s
/-- Tracker id. -/
def trkOf (s : State) (id : Option Nat) : Option Tracker := id.bind (fun i => s.dly.trackers.find? (fun t => t.id == i))
/-- An order takes its place at a tracker (R433, R434): none when it needs a new one and none is free. -/
def takeTracker (s : State) (o : List Byte) (orphan : Bool) : Option (Option Nat × State) :=
  let q := oQp o
  match openTracker s q (oSeq o) with
  | some t =>
    some (some t.id, modTrk s (some t.id) (fun t => if isPage o then { t with count := t.count + 1 } else { t with sealed := true }))
  | none =>
    if !isPage o then some (none, s)
    else if trackersFree s (qpEngine q) = 0 then none
    else
      let i := s.dly.nextTrk
      let t := { Tracker.fresh i q (oSeq o) orphan with count := 1 }
      some (some i, { s with dly := { s.dly with trackers := s.dly.trackers ++ [t], nextTrk := i + 1 } })

/-! Claims (R426). -/

/-- The queue of queue pair q has room: orders leave it when their transmission begins (log entry 29). -/
def qpRoom (s : State) (q : Nat) : Bool := decide (((qpOf s q).msgs.filter (fun m => m.total == 0)).length < 64)
/-- The order that binding b holds. -/
def heldOf (s : State) (b : Nat) : Option DlyHeld := s.dly.held.find? (fun h => h.b == b)
/-- Binding b holds nothing. -/
def dropHeld (s : State) (b : Nat) : State := { s with dly := { s.dly with held := s.dly.held.filter (fun h => h.b != b) } }
/-- An order that passed its checks: it takes its place at a tracker, then at the queue; without room the binding holds it (R426). An order
of a queue pair in ERROR is flushed (R420). -/
def placeOrder (s : State) (h : DlyHeld) : State :=
  let q := oQp h.order
  let hold (s : State) (h : DlyHeld) : State :=
    let s1 := dropHeld s h.b
    { s1 with dly := { s1.dly with held := s1.dly.held ++ [h] } }
  if qget s q 1 ≠ 1 then slotDone (obump (dropHeld s h.b) (0x6100 + q) 17 1) h.b h.slot
  else
    match (if h.got then some (h.trk, s) else takeTracker s h.order h.slot.isNone) with
    | none =>
      if (heldOf s h.b).isSome then s
      else logEv (hold s h) (dlyUnit (qpEngine q)) 0x0504 0 (payOf [(16, h.b), (18, q), (20, oSeq h.order)])
    | some (trk, s1) =>
      if !qpRoom s1 q then hold s1 { h with got := true, trk := trk }
      else
        let m : DlyMsg := { order := h.order, binding := h.b, trk := trk, head := [], trailer := [], psn := 0, sent := 0, total := 0 }
        activity (slotDone (modQp (dropHeld s1 h.b) q (fun x => { x with msgs := x.msgs ++ [m] })) h.b h.slot)
/-- A held order could now be placed. -/
def heldReady (s : State) (h : DlyHeld) : Bool :=
  let q := oQp h.order
  qget s q 1 != 1 ||
    (qpRoom s q && (h.got || !isPage h.order || (openTracker s q (oSeq h.order)).isSome || trackersFree s (qpEngine q) != 0))
/-- Engine e can serve binding b: enabled, and READY or with a held order for which there is room. -/
def bindReady (s : State) (e b : Nat) : Bool :=
  match heldOf s b with
  | some h => bindEngine s b == e && heldReady s h
  | none => bit (bindWord s b) 15 && bindEngine s b == e && reelReady s (bindReader s b) (bindReel s b)
/-- Engines serve no orders while the module is drained or out of ACTIVE and IDLE (R440). -/
def dailiesServe (s : State) : Bool := !drained s && decide (oget s 0x2001 0 ≤ 1)
/-- DLY_ORDER_CLAIM (R426): the next binding by round robin that is ready is served. -/
def orderClaim (s : State) (e : Fin 2) : State :=
  let last := s.dly.lastBinding[e]
  match ((List.range 32).map (fun i => (last + 1 + i) % 32)).find? (bindReady s e.val) with
  | none => s
  | some b =>
    if !dailiesServe s || !mayStart s then s
    else
      let s1 := { s with dly := { s.dly with lastBinding := vset s.dly.lastBinding e b } }
      match heldOf s1 b with
      | some h => placeOrder s1 h
      | none =>
        let c := bindReader s1 b
        let r := bindReel s1 b
        let slot := reelNext s1 c r
        let o := rdBytes s1 (slotAddr s1 c r slot) 64
        let s2 := (bindBoth s1 b).foldl (fun s d => reelClaim s d r) s1
        let s3 := meshDone s2 (dlyUnit (bindEngine s1 b)) false (slotAddr s1 c r slot) 64
        match orderBad s2 b slot o with
        | some x => slotDone (raiseF s3 (orderRep s2 b slot x)) b (some slot)
        | none => placeOrder s3 { b := b, slot := some slot, order := o, got := false, trk := none }
/-- DLY_POST (R424): a slot of the binding's reel is reserved, written and committed. -/
def dlyPost (s : State) (b : Nat) (data : List Byte) : Act :=
  let c := bindReader s b
  let r := bindReel s b
  if data.length ≠ 64 then refuse aLength s
  else if drained s then refuse aState s
  else if rlConsumer s c r ≠ 4 then refuse aInconsistent s
  else if !reelFree s c r then refuse aBusy s
  else
    let i := rlGet s c r 6
    let s1 := (bindBoth s b).foldl (fun s d => reelReserve s d r) s
    let s2 := wrOuter s1 (slotAddr s1 c r i) (data.map (fun x => (x, false)))
    (aOk, (bindBoth s b).foldl (fun s d => reelCommit s d r i) s2)
/-! Discard (R439). -/

/-- The bindings through which the orders in the dailies reels of partition p are counted: one of each reel, an enabled one first. -/
def reelBindings (s : State) (p : Fin 8) : List Nat :=
  let l := (List.range 32).filter (fun b => bindPart s b == p && rlConsumer s (bindReader s b) (bindReel s b) == 4)
  (l.filter (fun b => bit (bindWord s b) 15) ++ l.filter (fun b => !bit (bindWord s b) 15)).foldl
    (fun x b => if x.any (fun y => bindReader s y == bindReader s b && bindReel s y == bindReel s b) then x else x ++ [b]) []
/-- The orders of partition p at the end of its discard: committed orders left in its reels are counted, each reel once, and its trackers with no
SEAL order close when their claimed pages are acknowledged. -/
def ordersDiscard (s : State) (p : Fin 8) : State :=
  let s1 := (reelBindings s p).foldl (fun s b => obump s 0x6032 (bindEngine s b + 1) (rlGet s (bindReader s b) (bindReel s b) 8)) s
  let closing (t : Tracker) : Bool :=
    qget s t.qp 3 == p.val && !t.sealed && !s.dly.held.any (fun h => oKind h.order == 3 && oQp h.order == t.qp && oSeq h.order == t.seq)
  { s1 with dly := { s1.dly with
      trackers := (s1.dly.trackers.filter (fun t => !(closing t && t.acked == t.count))).map (fun t => if closing t then { t with orphan := true } else t),
      held := s1.dly.held.map (fun h => if bindPart s h.b = p then { h with slot := none } else h) } }

/-- DLY_ORDER_CLAIM. -/
def execDlyOrderClaim (e : Fin 2) (s : State) : Host.Outcome State Fault Refusal := .next (orderClaim s e)
/-- DLY_POST. -/
def execDlyPost (via : Iface) (b : Nat) (data : List Byte) (s : State) : Host.Outcome State Fault Refusal :=
  .next (written s via 0x6012 (b % 32 + 1) (dlyPost s (b % 32) data))

end Sys2Proof.Machine
end

