-- ==== Sys2Proof/Machine/Roce.lean ====
section
/-! DEFINITION. Machine/Roce.lean: frames of RoCE v2 (R421), native pages, slates and seals (R429-R431, R435). The layouts of the Ethernet,
IP, UDP and transport headers are those of the standards R421 names (PRESUMED, log entry 30). -/

namespace Sys2Proof.Machine

/-! Frames. -/

/-- CRC-32 of IEEE 802.3, as the ICRC uses it. -/
def crc32 (l : List Byte) : Nat := (l.foldl (crcByte 0xEDB88320) (2 ^ 32 - 1)) ^^^ (2 ^ 32 - 1)
/-- The Internet checksum of bytes: 16-bit ones' complement sum. -/
def inetSum : List Byte → Nat
  | [] => 0
  | [a] => a.toNat * 256
  | a :: b :: t => a.toNat * 256 + b.toNat + inetSum t
/-- The checksum field for them. -/
def inetCheck (l : List Byte) : Nat :=
  let x := inetSum l
  let y := x % 65536 + x / 65536
  let z := y % 65536 + y / 65536
  65535 - z
/-- A default that fuses or straps give (R28, R442, R506): DAP_NODE and ETH_MAC hold 0 until they are set. -/
def fromFuses (s : State) (ix sub v : Nat) : Nat :=
  if ix = 0x1200 ∧ v = 0 then oget s 0x1012 1 + 1
  else if ix = 0x6002 ∧ v = 0 then Config.ethMac (sub - 1)
  else v
/-- The MAC address of port e: the one of the fuses until another is set (R442). -/
def ethMac (s : State) (e : Nat) : List Byte := toLE 6 (fromFuses s 0x6002 (e + 1) (oget s 0x6002 (e + 1)))
/-- The IPv4 address of port e, in wire order. -/
def ethIp4 (s : State) (e : Nat) : List Byte := toBE 4 (oget s 0x6003 (e + 1))
/-- The IPv6 address of port e. -/
def ethIp6 (s : State) (e : Nat) : List Byte := toLE 16 (oget s 0x6004 (e + 1))
/-- The Ethernet header of a frame of port e, with the 802.1Q tag when ETH_VLAN is not 0 (R418). -/
def ethHead (s : State) (e : Nat) (dst : List Byte) (type : Nat) : List Byte :=
  let v := oget s 0x6005 (e + 1)
  dst ++ ethMac s e ++ (if v = 0 then [] else toBE 2 0x8100 ++ toBE 2 v) ++ toBE 2 type
/-- An IPv6 address of the form ::ffff:a.b.c.d selects IPv4 (R421). -/
def mapped4 (ip : List Byte) : Bool := ofBE (slice ip 0 12) == 0xFFFF
/-- The IP header of a packet of queue pair q with n bytes behind it. -/
def ipHead (s : State) (q n : Nat) : List Byte :=
  let e := qpEngine q
  let ip := toLE 16 (qget s q 6)
  let tos := bits (qget s q 7) 0 6 * 4 + (if qget s q 8 = 0 then 0 else 2)
  if mapped4 ip then
    let h (c : Nat) := toBE 1 0x45 ++ toBE 1 tos ++ toBE 2 (n + 20) ++ toBE 2 0 ++ toBE 2 0x4000 ++ toBE 1 64 ++ toBE 1 17 ++ toBE 2 c ++
      ethIp4 s e ++ slice ip 12 4
    h (inetCheck (h 0))
  else toBE 4 (6 * 0x10000000 + tos * 0x100000) ++ toBE 2 n ++ toBE 1 17 ++ toBE 1 64 ++ ethIp6 s e ++ ip
/-- The IP header as the ICRC covers it: the fields that routers change are ones. -/
def ipMasked (ip : List Byte) : List Byte :=
  let ff (l : List Byte) (i : Nat) : List Byte := l.take i ++ [0xFF#8] ++ l.drop (i + 1)
  if ip.length = 20 then [1, 8, 10, 11].foldl ff ip else 0x6F#8 :: ([1, 2, 3, 7].foldl ff ip).drop 1
/-- The ICRC of a packet: the IP header, the UDP header, the transport headers and the payload. -/
def icrc (ip udp rest : List Byte) : Nat :=
  crc32 (List.replicate 8 0xFF#8 ++ ipMasked ip ++ udp.take 6 ++ List.replicate 2 0xFF#8 ++ rest.take 4 ++ [0xFF#8] ++ rest.drop 5)
/-- A RoCE v2 packet of queue pair q as an Ethernet frame without its FCS. -/
def roceFrame (s : State) (q : Nat) (rest : List Byte) : List Byte :=
  let n := rest.length + 12
  let ip := ipHead s q n
  let udp := toBE 2 (0xC000 + q % 0x4000) ++ toBE 2 4791 ++ toBE 2 n ++ toBE 2 0
  ethHead s (qpEngine q) (toLE 6 (qget s q 5)) (if ip.length = 20 then 0x0800 else 0x86DD) ++ ip ++ udp ++ rest ++ toLE 4 (icrc ip udp rest)
/-- The transport headers and payload of packet i of a message of n packets (R421): opcode, AckReq on the last packet, the RETH on the
first, the immediate data on the last when it has them. -/
def packetRest (s : State) (q psn i n : Nat) (imm : Bool) (va rkey total im : Nat) (payload : List Byte) : List Byte :=
  let last := i + 1 == n
  let opc := if n = 1 then (if imm then 0x0B else 0x0A) else if i = 0 then 0x06 else if last then (if imm then 0x09 else 0x08) else 0x07
  toBE 1 opc ++ toBE 1 0x40 ++ toBE 2 0xFFFF ++ toBE 1 0 ++ toBE 3 (qget s q 4) ++ toBE 1 (if last then 0x80 else 0) ++ toBE 3 psn ++
    (if i = 0 then toBE 8 va ++ toBE 4 rkey ++ toBE 4 total else []) ++ (if last && imm then toBE 4 im else []) ++ payload

/-! Pages (R429-R431). -/

/-- n bytes of memory as dailies engine e reads them, with their poison. -/
def readOuter (s : State) (e a n : Nat) : List (Byte × Bool) := rdMesh s (dlyUnit e) (outerAddr s a) n
/-- A native page without its trailer, from a frame: rows at or beyond VALID are zero and not read (R429). -/
def frameBody (s : State) (o : List Byte) : List (Byte × Bool) :=
  ((frameParts s o).map (fun p => readOuter s (qpEngine (oQp o)) p.1 (oValid o * p.2.1) ++ List.replicate (p.2.2 - oValid o * p.2.1) (0#8, false))).flatten
/-- The bytes of an order's page, with the trailer as first composed for PAGE_FRAME and as stored for PAGE_COPY (R423, R429). -/
def pageBytes (s : State) (m : DlyMsg) : List (Byte × Bool) :=
  let o := m.order
  if oKind o = 1 then frameBody s o ++ m.trailer.map (fun b => (b, false)) else readOuter s (qpEngine (oQp o)) (oLocal o) (trailerAt (oFormat o) + 64)
/-- What the mesh had on its way of an order's page has arrived. -/
def pageArrived (s : State) (o : List Byte) : State :=
  if isPage o then
    let parts : List (Nat × Nat) := if oKind o = 1 then (frameParts s o).map (fun p => (p.1, oValid o * p.2.1)) else [(oLocal o, trailerAt (oFormat o) + 64)]
    parts.foldl (fun s x => meshDone s (dlyUnit (qpEngine (oQp o))) false (outerAddr s x.1) x.2) s
  else s
/-- Bytes with a CRC-32C of them behind (R282, R430). -/
def sealed32 (l : List Byte) : List Byte := l ++ toLE 4 (crc32c l)
/-- The trailer of a page shipped from a frame (R282, R429). -/
def composeTrailer (s : State) (o : List Byte) (unit t : Nat) (body : List Byte) : List Byte :=
  let h := toLE 8 t ++ toLE 4 (sourceOf s unit) ++ toLE 1 0 ++ toLE 1 1 ++ toLE 1 (oFormat o) ++ toLE 1 (oValid o) ++ toLE 2 (oHead o) ++
    toLE 2 (oLayer o) ++ toLE 4 (oFirst o) ++ toLE 8 (oSeq o) ++ zeros 28
  h ++ toLE 4 (crc32c (body ++ h))
/-- The poisoned granules of a page, bit by bit (R430). -/
def poisonMask (page : List (Byte × Bool)) : Nat :=
  (List.range (cdiv page.length 64)).foldl (fun x g => if ((page.drop (64 * g)).take 64).any (fun b => b.2) then x + 2 ^ g else x) 0
/-- Set bits of the 144. -/
def popcount (x : Nat) : Nat := ((List.range 144).filter (fun i => bit x i)).length
/-- The slate of a page (R430). -/
def composeSlate (s : State) (o : List Byte) (unit t check mask : Nat) : List Byte :=
  sealed32 (toLE 8 t ++ toLE 4 (sourceOf s unit) ++ toLE 1 1 ++ toLE 1 1 ++
    toLE 1 ((if s.unsync then 1 else 0) + (if mask = 0 then 0 else 2) + (if bit (oFlags o) 0 then 4 else 0)) ++ toLE 1 (oFormat o) ++ toLE 8 (oSeq o) ++
    toLE 4 (oFirst o) ++ toLE 2 (oLayer o) ++ toLE 2 (oHead o) ++ toLE 4 (oTag o) ++ toLE 4 check ++ toLE 1 (oValid o) ++ toLE 1 0 ++ toLE 18 mask)
/-- The seal of a sequence (R435). -/
def composeSeal (s : State) (o : List Byte) (unit t : Nat) (k : Tracker) : List Byte :=
  sealed32 (toLE 8 t ++ toLE 4 (sourceOf s unit) ++ toLE 1 2 ++ toLE 1 1 ++ toLE 1 ((if s.unsync then 1 else 0) + (if k.bad then 2 else 0)) ++
    toLE 1 0 ++ toLE 8 (oSeq o) ++ toLE 4 k.count ++ toLE 4 (k.crc ^^^ (2 ^ 32 - 1)) ++ toLE 4 (oTag o) ++ toLE 4 0 ++ toLE 8 k.bytes ++
    toLE 8 k.firstTc ++ toLE 4 0)
/-- All bytes of a message (R431, R434). -/
def messageBytes (s : State) (m : DlyMsg) : List Byte := if isPage m.order then m.head ++ (pageBytes s m).map (fun x => x.1) else m.head
/-- Packets of a message of n bytes on queue pair q (R421). -/
def packetsOf (s : State) (q n : Nat) : Nat := cdiv n (qget s q 9)

/-- The first transmission of a page (R429-R433): trailer and slate are composed at one timecode, the tracker folds its CHECK, and poison is
logged. -/
def composePage (s : State) (q : Nat) (m : DlyMsg) : DlyMsg × State :=
  let o := m.order
  let unit := dlyUnit (qpEngine q)
  let t := stampTc s unit
  let s1 := stamped s unit t
  let tr := if oKind o = 1 then composeTrailer s1 o unit t ((frameBody s1 o).map (fun x => x.1)) else []
  let page := pageBytes s1 { m with trailer := tr }
  let check := ofLE ((page.drop (page.length - 4)).map (fun x => x.1))
  let mask := poisonMask page
  let n := 64 + page.length
  let s2 := modTrk s1 m.trk (fun k =>
    { k with crc := (toLE 4 check).foldl (crcByte 0x82F63B78) k.crc, bytes := k.bytes + n, bad := k.bad || mask != 0,
             firstTc := if k.bytes = 0 then t else k.firstTc })
  let m1 := { m with head := composeSlate s1 o unit t check mask, trailer := tr, total := packetsOf s q n }
  (m1, if mask = 0 then s2
    else logEv s2 unit 0x0503 0 (payOf [(16, q), (20, oSeq o), (28, oFirst o), (32, oTag o), (36, popcount mask)]))

end Sys2Proof.Machine
end

