-- ==== Sys2Proof/Machine/Dailies.lean ====
section
/-! DEFINITION. Machine/Dailies.lean: queue pairs at work (R420-R423, R437, R438), acknowledgements and seals (R432-R434), and the Ethernet
ports (R418, R444). -/

namespace Sys2Proof.Machine

/-! Transmission (R421, R423, R437). -/

/-- The distance from a to b in PSNs. -/
def psnDist (a b : Nat) : Nat := (b + 2 ^ 24 - a) % 2 ^ 24
/-- A PSN is transmitted and not acknowledged. -/
def psnOut (x : Qp) (psn : Nat) : Bool := decide (psnDist x.una psn < x.unacked.length)
/-- The tokens of a queue pair now (R437), in units of 1/8000 byte: the rate in Mbit/s is the number of them in a nanosecond. -/
def tokensNow (s : State) (q : Nat) : Nat :=
  let x := qpOf s q
  min (qget s q 9 * 8000) (x.tokens + qget s q 0x0E * (s.now - x.tokensAt))
/-- The rate of a queue pair changes; what its bucket holds so far stays. -/
def setRate (s : State) (q r : Nat) : State :=
  qset (modQp s q (fun x => { x with tokens := tokensNow s q, tokensAt := s.now })) q 0x0E r
/-- The message that sends the next new packet: the oldest one not wholly sent. -/
def nextMsg (x : Qp) : Option DlyMsg := x.msgs.find? (fun m => m.total == 0 || decide (m.sent < m.total))
/-- Payload of packet i of a message of n bytes. -/
def payloadLen (s : State) (q n i : Nat) : Nat := min (qget s q 9) (n - i * qget s q 9)
/-- Bytes of a message. -/
def messageLen (m : DlyMsg) : Nat := if isPage m.order then 128 + trailerAt (oFormat m.order) else 64
/-- What queue pair q would send next: the message, the packet's number in it, and whether it is a retransmission (R437). -/
def nextPacket (s : State) (q : Nat) : Option (DlyMsg × Nat × Bool) :=
  let x := qpOf s q
  if qget s q 1 ≠ 1 ∨ x.rnr.isSome then none
  else
    match x.again with
    | some p => (x.msgs.find? (fun m => decide (0 < m.total) && decide (psnDist m.psn p < m.sent))).map (fun m => (m, psnDist m.psn p, true))
    | none =>
      if 256 ≤ x.unacked.length then none
      else match nextMsg x with
        | some m => if m.total = 0 ∧ ¬ isPage m.order then none else some (m, m.sent, false)
        | none => none
/-- Queue pair q has a packet ready and is within its rate (R437): the bucket holds the packet's payload (log entry 32). -/
def qpReady (s : State) (q : Nat) : Bool :=
  match nextPacket s q with
  | some (m, i, _) => decide (payloadLen s q (messageLen m) i * 8000 ≤ tokensNow s q)
  | none => false
/-- The state with message m of queue pair q, found by its place in the queue, replaced. -/
def setMsg (s : State) (q : Nat) (old new : DlyMsg) : State :=
  modQp s q (fun x => match findIdx (fun m => m == old) x.msgs 0 with
    | some i => { x with msgs := x.msgs.take i ++ [new] ++ x.msgs.drop (i + 1) }
    | none => x)
/-- Packet i of message m goes out on the port of queue pair q. -/
def sendPacket (s : State) (q : Nat) (m : DlyMsg) (i : Nat) : State :=
  let b := messageBytes s m
  let mtu := qget s q 9
  let o := m.order
  let imm := !isPage o || bit (oFlags o) 0
  let psn := (m.psn + i) % 2 ^ 24
  let rest := packetRest s q psn i m.total imm (eF o 0 8) (eF o 8 4) b.length (oImm o) ((b.drop (i * mtu)).take mtu)
  let s1 := modQp s q (fun x => { x with tokens := tokensNow s q - payloadLen s q b.length i * 8000, tokensAt := s.now })
  pageArrived { s1 with outs := s1.outs ++ [Out.eth (qpEngine q) (roceFrame s q rest)] } o
/-- The next packet of queue pair q is sent: a new one takes the next PSN; the first of a page composes its slate and trailer (R421, R423). -/
def transmit (s : State) (q : Nat) : State :=
  match nextPacket s q with
  | none => s
  | some (m, i, true) =>
    let p := (m.psn + i) % 2 ^ 24
    let s1 := obump (sendPacket s q m i) (0x6100 + q) 18 1
    modQp s1 q (fun x =>
      { x with unacked := x.unacked.map (fun y => if y.1 = p then (p, s.now) else y),
               again := if psnDist x.una p + 1 < x.unacked.length then some ((p + 1) % 2 ^ 24) else none })
  | some (m, i, false) =>
    let next := qget s q 0x0F
    let c := if m.total = 0 then composePage s q m else (m, s)
    let m1 := if i = 0 then { c.1 with psn := next } else c.1
    let s1 := sendPacket c.2 q m1 i
    let s2 := setMsg s1 q m { m1 with sent := i + 1 }
    modQp (qset s2 q 0x0F ((next + 1) % 2 ^ 24)) q (fun x => { x with unacked := x.unacked ++ [(next, s.now)] })
/-- The queue pair that a port serves next, by round robin (R437). -/
def nextQp (s : State) (e : Fin 2) : Option Nat :=
  let l := (s.dly.qps.map (fun x => x.1)).filter (fun q => qpEngine q == e.val && qpReady s q)
  match l.find? (fun q => decide (s.dly.lastQp[e] < q)) with
  | some q => some q
  | none => l.head?
/-- ROCE_PACKET_TRANSMIT (R437). -/
def rocePacketTransmit (s : State) (e : Fin 2) : State :=
  if !ethUp s e.val then s
  else
    match nextQp s e with
    | some q => transmit { s with dly := { s.dly with lastQp := vset s.dly.lastQp e q } } q
    | none => s

/-! Acknowledgements (R422, R432-R434). -/

/-- A message is wholly acknowledged: counted, its tracker advances, its signal goes to ACK_CLAPPER; refused there, it faults the order (R302, R432). -/
def msgAcked (s : State) (q : Nat) (m : DlyMsg) : State :=
  let e := qpEngine q
  let o := m.order
  let s1 := if isPage o then obump s 0x6030 (e + 1) 1 else obump s 0x6031 (e + 1) 1
  let s2 := if isPage o then modTrk s1 m.trk (fun k => { k with acked := k.acked + 1 }) else freeTrk s1 m.trk
  let s3 := match trkOf s2 m.trk with
    | some k => if k.orphan && k.acked == k.count then freeTrk s2 m.trk else s2
    | none => s2
  if oInc o = 0 then s3
  else
    let rep := { orderRep s3 m.binding 0 (7, 0xF1, 0) with addr := clapGlobal s3 (oClap o), detail := det 0xF1 0 0 0 }
    { s3 with clapOps := s3.clapOps ++ [{ unit := dlyUnit e, op := 2, clap := oClap o, val := BitVec.ofNat 64 (oInc o), cmp := 0, ret := .none,
                                           bad := some rep }] }
/-- The messages that start a list and are covered by an acknowledgement up to PSN una - 1. -/
def ackedMsgs (una : Nat) : List DlyMsg → List DlyMsg × List DlyMsg
  | [] => ([], [])
  | m :: t =>
    if m.total ≠ 0 ∧ m.sent = m.total ∧ psnDist ((m.psn + m.total) % 2 ^ 24) una < 2 ^ 23 then (m :: (ackedMsgs una t).1, (ackedMsgs una t).2)
    else ([], m :: t)
/-- ROCE_ACK (R422): every PSN up to psn is acknowledged; a stale one is ignored. -/
def roceAck (s : State) (q psn : Nat) : State :=
  let x := qpOf s q
  if qget s q 1 ≠ 1 ∨ psnOut x psn = false then s
  else
    let una := (psn + 1) % 2 ^ 24
    let left := x.unacked.drop (psnDist x.una psn + 1)
    let ms := ackedMsgs una x.msgs
    let move (p : Nat) : Option Nat := if decide (psnDist una p < left.length) then some p else if left.isEmpty then none else some una
    let s1 := modQp s q (fun x =>
      { x with una := una, unacked := left, msgs := ms.2, tries := 0, rnrTries := 0, again := x.again.bind move,
               rnr := x.rnr.bind (fun r => (move r.2).map (fun p => (r.1, p))) })
    activity (ms.1.foldl (fun s m => msgAcked s q m) s1)
/-- ROCE_NAK_SEQUENCE (R422): the queue pair goes back to the PSN carried. -/
def roceNakSequence (s : State) (q psn : Nat) : State :=
  if qget s q 1 = 1 ∧ psnOut (qpOf s q) psn = true then modQp s q (fun x => { x with again := some psn, rnr := none }) else s
/-- The wait that an RNR NAK carries, in ns (PRESUMED, log entry 30). -/
def rnrWait (t : Nat) : Nat :=
  10000 * (([65536, 1, 2, 3, 4, 6, 8, 12, 16, 24, 32, 48, 64, 96, 128, 192, 256, 384, 512, 768, 1024, 1536, 2048, 3072, 4096, 6144, 8192, 12288,
            16384, 24576, 32768, 49152] : List Nat)[t % 32]?).getD 0
/-- ROCE_RNR_NAK (R422): it counts against QP_RNR_RETRY, 7 being no limit; then the queue pair waits. -/
def roceRnrNak (s : State) (q psn t : Nat) : State :=
  let x := qpOf s q
  if qget s q 1 ≠ 1 ∨ psnOut x psn = false then s
  else if qget s q 0x0D ≠ 7 ∧ qget s q 0x0D ≤ x.rnrTries then activity (qpError s q 1)
  else modQp s q (fun x => { x with rnrTries := x.rnrTries + 1, rnr := some (s.now + rnrWait t, psn) })
/-- RNR_TIMER_EXPIRY (R422). -/
def rnrTimerExpiry (s : State) (q : Nat) : State :=
  match (qpOf s q).rnr with
  | some (t, p) => if t ≤ s.now then modQp s q (fun x => { x with rnr := none, again := some p }) else s
  | none => s
/-- ROCE_NAK_FATAL (R422): invalid request (0), remote access (1) or remote operational (2) error. -/
def roceNakFatal (s : State) (q kind : Nat) : State := activity (qpError s q (2 + kind % 3))
/-- CNP_RECEIVE (R438). -/
def cnpReceive (s : State) (q : Nat) : State :=
  if qget s q 1 ≠ 1 then s
  else
    let t := tcAt s 20
    let x := qpOf s q
    let s1 := obump (modQp s q (fun x => { x with cnpSeen := true })) (0x6100 + q) 19 1
    if oget s 0x6021 0 * 1000 ≤ (t + 2 ^ 64 - x.lastCut) % 2 ^ 64 then
      let r := qget s q 0x0E
      modQp (setRate s1 q (max (oget s 0x6024 0) (r - r * oget s 0x6020 0 / 256))) q (fun x => { x with lastCut := t })
    else s1
/-- QP_ACK_TIMEOUT (R423, R438): the queue pair retransmits from its oldest unacknowledged packet at half its rate, or enters ERROR. -/
def qpAckTimeout (s : State) (q : Nat) : State :=
  let x := qpOf s q
  match x.unacked with
  | [] => s
  | (p, t) :: _ =>
    if qget s q 1 ≠ 1 ∨ x.rnr.isSome ∨ s.now < t + 4096 * 2 ^ qget s q 0x0B then s
    else if qget s q 0x0C ≤ x.tries then activity (qpError s q 0)
    else
      modQp (setRate s q (max (oget s 0x6024 0) (qget s q 0x0E / 2))) q (fun x =>
        { x with tries := x.tries + 1, again := some p, unacked := x.unacked.map (fun y => (y.1, s.now)) })
/-- CC_PERIOD (R438): every CC_PERIOD microseconds each queue pair in RTS without a CNP gains CC_STEP. -/
def ccPeriod (s : State) : State :=
  if s.now < s.dly.ccAt + oget s 0x6022 0 * 1000 then s
  else
    (s.dly.qps.map (fun x => x.1)).foldl (fun s q =>
      if qget s q 1 ≠ 1 then s
      else modQp (if (qpOf s q).cnpSeen then s else setRate s q (min 800000 (qget s q 0x0E + oget s 0x6023 0))) q (fun x => { x with cnpSeen := false }))
      { s with dly := { s.dly with ccAt := s.now } }
/-- SEAL_SEND (R434): the SEAL order that queue pair q dequeues next, every page of its tracker acknowledged, is compared with its count; the
seal is composed and sent in its turn, or the mismatch is logged. -/
def sealSend (s : State) (q : Nat) : State :=
  match nextMsg (qpOf s q) with
  | none => s
  | some m =>
    if qget s q 1 ≠ 1 ∨ isPage m.order = true ∨ m.total ≠ 0 then s
    else
      let o := m.order
      let k := (trkOf s m.trk).getD (Tracker.fresh 0 q (oSeq o) false)
      let e := qpEngine q
      if k.acked ≠ k.count then s
      else if k.count ≠ oFirst o then
        let s1 := modQp (freeTrk s m.trk) q (fun x => match findIdx (fun y => y == m) x.msgs 0 with
          | some i => { x with msgs := dropAt x.msgs i }
          | none => x)
        activity (logEv s1 (dlyUnit e) 0x0502 0 (payOf [(16, q), (20, oSeq o), (28, k.count), (32, oFirst o), (36, oTag o)]))
      else
        let t := stampTc s (dlyUnit e)
        let s1 := setMsg (stamped s (dlyUnit e) t) q m { m with head := composeSeal s o (dlyUnit e) t k, total := 1 }
        if ethUp s1 e ∧ nextQp s1 (if e = 0 then 0 else 1) = some q then
          transmit { s1 with dly := { s1.dly with lastQp := vset s1.dly.lastQp (if e = 0 then 0 else 1) q } } q
        else s1

/-! The ports (R418, R442, R444). -/

/-- ETH_LINK_UP: a port that is enabled, and not kept down by a drain or the power state, comes up. -/
def ethLinkUp (s : State) (p : Fin 2) : State :=
  let st := oget s 0x6006 (p.val + 1)
  if (st = 1 ∨ st = 2) ∧ oget s 0x6001 (p.val + 1) ≠ 0 ∧ dailiesServe s = true then
    logEv (oset s 0x6006 (p.val + 1) 3) (0x8E + p.val) 0x0505 0 (payOf [(16, p.val)])
  else s
/-- ETH_LINK_DOWN: lock is lost; queue pairs keep their state and timers (R423). -/
def ethLinkDown (s : State) (p : Fin 2) : State := ethDown s p.val 0

/-! Frames received (R418, R422). -/

/-- A frame is discarded and counted. -/
def rxDiscard (s : State) (p : Nat) : State := obump s 0x6007 (p + 1) 1
/-- A RoCE v2 packet with headers and payload `rest` for this port (R422). -/
def roceReceive (s : State) (p : Nat) (rest : List Byte) : State :=
  let dq := ofBE (slice rest 5 3)
  let q := dq - 0x100
  let psn := ofBE (slice rest 9 3)
  let syn := ofBE (slice rest 12 1)
  let opc := ofBE (slice rest 0 1)
  if dq < 0x100 ∨ 0x500 ≤ dq ∨ qpEngine q ≠ p ∨ qget s q 1 ≠ 1 then rxDiscard s p
  else if opc = 0x81 then cnpReceive s q
  else if opc ≠ 0x11 ∨ rest.length < 16 then rxDiscard s p
  else if syn / 32 = 0 then roceAck s q psn
  else if syn / 32 = 1 then roceRnrNak s q psn (syn % 32)
  else if syn / 32 = 3 ∧ syn % 32 = 0 then roceNakSequence s q psn
  else if syn / 32 = 3 ∧ 1 ≤ syn % 32 ∧ syn % 32 ≤ 3 then (if psnOut (qpOf s q) psn then roceNakFatal s q (syn % 32 - 1) else s)
  else rxDiscard s p
/-- A frame of port p goes out, padded to the 60 bytes of the standard. -/
def sendEth (s : State) (p : Nat) (f : List Byte) : State := { s with outs := s.outs ++ [Out.eth p (f ++ zeros (60 - f.length))] }
/-- An ARP request for the port's own address is answered (R418). -/
def arpReceive (s : State) (p : Nat) (b : List Byte) : State :=
  let own := ethIp4 s p
  if slice b 0 8 = toBE 2 1 ++ toBE 2 0x0800 ++ toBE 1 6 ++ toBE 1 4 ++ toBE 2 1 ∧ slice b 24 4 = own ∧ oget s 0x6003 (p + 1) ≠ 0 then
    sendEth s p (ethHead s p (slice b 8 6) 0x0806 ++ toBE 2 1 ++ toBE 2 0x0800 ++ toBE 1 6 ++ toBE 1 4 ++ toBE 2 2 ++ ethMac s p ++ own ++ slice b 8 10)
  else rxDiscard s p
/-- An IPv6 neighbour solicitation for the port's own address is answered (R418). -/
def nsReceive (s : State) (p : Nat) (smac ip icmp : List Byte) : State :=
  let own := ethIp6 s p
  let src := slice ip 8 16
  let none6 := ofBE src == 0
  if slice icmp 0 1 = toBE 1 135 ∧ slice icmp 8 16 = own ∧ oget s 0x6004 (p + 1) ≠ 0 then
    let dst := if none6 then toBE 2 0xFF02 ++ zeros 13 ++ toBE 1 1 else src
    let body (c : Nat) := toBE 1 136 ++ toBE 1 0 ++ toBE 2 c ++ toBE 4 (if none6 then 0x20000000 else 0x60000000) ++ own ++ toBE 1 2 ++ toBE 1 1 ++ ethMac s p
    let sum := inetCheck (own ++ dst ++ toBE 4 32 ++ toBE 4 58 ++ body 0)
    sendEth s p (ethHead s p (if none6 then toBE 6 0x333300000001 else smac) 0x86DD ++ toBE 4 0x60000000 ++ toBE 2 32 ++ toBE 1 58 ++ toBE 1 255 ++
      own ++ dst ++ body sum)
  else rxDiscard s p
/-- The E0 clock listens to PTP messages (R441). -/
def ptpOn (s : State) : Bool := isTimeRoot s && oget s 0x1103 0 == 1
/-- A message for the clock of E0 over transport tr (0 UDP/IPv4, 1 UDP/IPv6, 2 IEEE 802.3) waits with its arrival; one of another version, domain or
transport, or of a type that a slave does not take, is discarded (R441; the layout: log entry 94). -/
def ptpReceive (s : State) (tr : Nat) (m : List Byte) : State :=
  if ptpOn s && tr == oget s 0x6041 0 && ofBE (slice m 1 1) % 16 == 2 && ofBE (slice m 4 1) == oget s 0x6040 0 &&
      [0, 8, 9, 11].contains (ofBE (slice m 0 1) % 16) then
    { s with dly := { s.dly with ptp := { s.dly.ptp with rx := s.dly.ptp.rx ++ [(tcAt s 20, m)] } } }
  else rxDiscard s 0
/-- The UDP datagram behind an IP header. -/
def udpReceive (s : State) (p : Nat) (ip udp : List Byte) (mine : Bool) : State :=
  let port := ofBE (slice udp 2 2)
  let n := ofBE (slice udp 4 2)
  let rest := (udp.take (n - 4)).drop 8
  let crc := ofLE (slice udp (n - 4) 4)
  if port = 4791 then
    if mine = true ∧ 24 ≤ n ∧ n ≤ udp.length ∧ crc = icrc ip (udp.take 8) rest then roceReceive s p rest else rxDiscard s p
  else if (port = 319 ∨ port = 320) ∧ p = 0 then ptpReceive s (if ip.length = 20 then 0 else 1) ((udp.take n).drop 8)
  else rxDiscard s p
/-- ETH_FRAME_RECEIVE (R418, R422): tagged as ETH_VLAN says; ARP and neighbour solicitations are answered, RoCE v2 acknowledgements and CNPs
act, PTP messages on E0 wait for PTP_SYNC while its clock is on; every other frame is discarded and counted. -/
def ethFrameReceive (s : State) (p : Fin 2) (f : List Byte) : State :=
  if !ethUp s p.val then s
  else
    let v := oget s 0x6005 (p.val + 1)
    let tagged := ofBE (slice f 12 2) == 0x8100
    if (if v = 0 then tagged else !tagged || ofBE (slice f 14 2) % 4096 != v) then rxDiscard s p.val
    else
      let h := if v = 0 then f.drop 12 else f.drop 16
      let type := ofBE (slice h 0 2)
      let b := h.drop 2
      if type = 0x0806 then arpReceive s p.val b
      else if type = 0x0800 ∧ ofBE (slice b 0 1) = 0x45 ∧ ofBE (slice b 9 1) = 17 then
        udpReceive s p.val (slice b 0 20) ((b.take (ofBE (slice b 2 2))).drop 20) (slice b 16 4 == ethIp4 s p.val && inetCheck (slice b 0 20) == 0)
      else if type = 0x86DD ∧ ofBE (slice b 6 1) = 17 then
        udpReceive s p.val (slice b 0 40) ((b.drop 40).take (ofBE (slice b 4 2))) (slice b 24 16 == ethIp6 s p.val)
      else if type = 0x86DD ∧ ofBE (slice b 6 1) = 58 then nsReceive s p.val (slice f 6 6) (slice b 0 40) (b.drop 40)
      else if type = 0x88F7 ∧ p.val = 0 then ptpReceive s 2 b
      else rxDiscard s p.val

/-! The rows. -/

/-- A queue pair number. -/
def toQp (q : Nat) : Nat := q % 1024
/-- ROCE_PACKET_TRANSMIT. -/
def execRocePacketTransmit (e : Fin 2) (s : State) : Host.Outcome State Fault Refusal := .next (rocePacketTransmit s e)
/-- ROCE_ACK. -/
def execRoceAck (q psn : Nat) (s : State) : Host.Outcome State Fault Refusal := .next (roceAck s (toQp q) (psn % 2 ^ 24))
/-- ROCE_NAK_SEQUENCE. -/
def execRoceNakSequence (q psn : Nat) (s : State) : Host.Outcome State Fault Refusal := .next (roceNakSequence s (toQp q) (psn % 2 ^ 24))
/-- ROCE_RNR_NAK. -/
def execRoceRnrNak (q psn timer : Nat) (s : State) : Host.Outcome State Fault Refusal := .next (roceRnrNak s (toQp q) (psn % 2 ^ 24) timer)
/-- RNR_TIMER_EXPIRY. -/
def execRnrTimerExpiry (q : Nat) (s : State) : Host.Outcome State Fault Refusal := .next (rnrTimerExpiry s (toQp q))
/-- ROCE_NAK_FATAL. -/
def execRoceNakFatal (q psn kind : Nat) (s : State) : Host.Outcome State Fault Refusal :=
  .next (if psnOut (qpOf s (toQp q)) (psn % 2 ^ 24) then roceNakFatal s (toQp q) kind else s)
/-- CNP_RECEIVE. -/
def execCnpReceive (q : Nat) (s : State) : Host.Outcome State Fault Refusal := .next (cnpReceive s (toQp q))
/-- QP_ACK_TIMEOUT. -/
def execQpAckTimeout (q : Nat) (s : State) : Host.Outcome State Fault Refusal := .next (qpAckTimeout s (toQp q))
/-- CC_PERIOD. -/
def execCcPeriod (s : State) : Host.Outcome State Fault Refusal := .next (ccPeriod s)
/-- SEAL_SEND. -/
def execSealSend (q : Nat) (s : State) : Host.Outcome State Fault Refusal := .next (sealSend s (toQp q))
/-- ETH_LINK_UP. -/
def execEthLinkUp (p : Fin 2) (s : State) : Host.Outcome State Fault Refusal := .next (ethLinkUp s p)
/-- ETH_LINK_DOWN. -/
def execEthLinkDown (p : Fin 2) (s : State) : Host.Outcome State Fault Refusal := .next (ethLinkDown s p)
/-- ETH_FRAME_RECEIVE. -/
def execEthFrameReceive (p : Fin 2) (frame : List Byte) (s : State) : Host.Outcome State Fault Refusal := .next (ethFrameReceive s p frame)

end Sys2Proof.Machine
end

