-- ==== Sys2Proof/Machine/Ptp.lean ====
section
/-! DEFINITION. Machine/Ptp.lean: the IEEE 1588 clock of E0 (R318, R441). The layouts of the messages, the data set comparison and the addresses are those
of IEEE 1588-2019, which R441 names (PRESUMED, log entry 94). -/

namespace Sys2Proof.Machine

/-- The state with f applied to the clock of E0. -/
def modPtp (s : State) (f : Ptp → Ptp) : State := { s with dly := { s.dly with ptp := f s.dly.ptp } }

/-! The fields of a message. -/

/-- Its type: 0 Sync, 1 Delay_Req, 8 Follow_Up, 9 Delay_Resp, 11 Announce. -/
def ptpType (m : List Byte) : Nat := ofBE (slice m 0 1) % 16
/-- The port identity of its sender. -/
def ptpFrom (m : List Byte) : Nat := ofBE (slice m 20 10)
/-- Its sequence number. -/
def ptpSeq (m : List Byte) : Nat := ofBE (slice m 30 2)
/-- Its correction in ns. -/
def ptpCorr (m : List Byte) : Int := sext 64 (ofBE (slice m 8 8)) / 65536
/-- Its timestamp in ns. -/
def ptpStamp (m : List Byte) : Int := ((ofBE (slice m 34 6) * 1000000000 + ofBE (slice m 40 4) : Nat) : Int)
/-- The data set of an Announce as one number: priority 1, class, accuracy, variance, priority 2, identity of the grandmaster, steps removed, sender. -/
def ptpRank (m : List Byte) : Nat := (ofBE (slice m 47 14) * 2 ^ 16 + ofBE (slice m 61 2)) * 2 ^ 80 + ptpFrom m
/-- The port identity of E0. -/
def ptpSelf (s : State) : List Byte := (ethMac s 0).take 3 ++ [0xFF#8, 0xFE#8] ++ (ethMac s 0).drop 3 ++ toBE 2 1

/-! The master (the best master clock algorithm). -/

/-- The better of two masters. -/
def ptpBetter (a : Option PtpPeer) (b : PtpPeer) : Option PtpPeer :=
  match a with
  | some x => if b.rank < x.rank then some b else some x
  | none => some b
/-- The master that E0 follows: the best of those heard in the last 3 s. -/
def ptpBest (s : State) : Option PtpPeer := (s.dly.ptp.peers.filter (fun x => decide (s.now < x.heard + 3000000000))).foldl ptpBetter none
/-- The message comes from that master. -/
def ptpMine (s : State) (m : List Byte) : Bool := (ptpBest s).any (fun x => x.ident == ptpFrom m)
/-- An Announce: the list of masters follows it; with a new master the measurements begin anew. -/
def ptpAnnounce (s : State) (m : List Byte) : State :=
  let peer : PtpPeer := { ident := ptpFrom m, rank := ptpRank m, heard := s.now }
  let s1 := modPtp s (fun x => { x with peers := x.peers.filter (fun y => y.ident != peer.ident) ++ [peer] })
  if (ptpBest s1).map (fun x => x.ident) = (ptpBest s).map (fun x => x.ident) then s1
  else
    let s2 := modPtp s1 (fun x => { x with open_ := none, sync := none, ask := none, path := none })
    { s2 with dly := { s2.dly with ptpGood := 0, ptpMaster := ((ptpBest s1).map (fun x => x.ident / 65536)).getD 0 } }

/-! Measurement. -/

/-- The message to the masters over the transport of PTP_TRANSPORT, as a frame of E0. -/
def ptpFrame (s : State) (m : List Byte) : List Byte :=
  let udp (c : Nat) := toBE 2 319 ++ toBE 2 319 ++ toBE 2 (m.length + 8) ++ toBE 2 c ++ m
  match oget s 0x6041 0 with
  | 0 =>
    let h (c : Nat) := toBE 4 0x45000000 ++ toBE 4 0 ++ toBE 2 0x0111 ++ toBE 2 c ++ ethIp4 s 0 ++ toBE 4 0xE0000181
    let h1 (c : Nat) := (h c).take 2 ++ toBE 2 (m.length + 28) ++ (h c).drop 4
    ethHead s 0 (toBE 6 0x01005E000181) 0x0800 ++ h1 (inetCheck (h1 0)) ++ udp 0
  | 1 =>
    let dst := toBE 2 0xFF0E ++ zeros 12 ++ toBE 2 0x0181
    let sum := inetCheck (ethIp6 s 0 ++ dst ++ toBE 4 (m.length + 8) ++ toBE 4 17 ++ udp 0)
    ethHead s 0 (toBE 6 0x333300000181) 0x86DD ++ toBE 4 0x60000000 ++ toBE 2 (m.length + 8) ++ toBE 1 17 ++ toBE 1 1 ++ ethIp6 s 0 ++ dst ++ udp sum
  | _ => ethHead s 0 (toBE 6 0x011B19000000) 0x88F7 ++ m
/-- A Delay_Req goes out; its departure is noted by the timecode, tx ns off (R441). -/
def ptpAsk (s : State) (tx : Int) : State :=
  if !ethUp s 0 then s
  else
    let q := (s.dly.ptp.ask.map (fun x => (x.1 + 1) % 65536)).getD 0
    let m := toBE 1 1 ++ toBE 1 2 ++ toBE 2 44 ++ toBE 1 (oget s 0x6040 0) ++ zeros 15 ++ ptpSelf s ++ toBE 2 q ++ toBE 1 1 ++ toBE 1 0x7F ++ zeros 10
    sendEth (modPtp s (fun x => { x with ask := some (q, tcAt s 20 + tx) })) 0 (ptpFrame s m)
/-- The lock of the root's clock (R318, R441): a root that has never synchronized steps to the PTP timescale; another slews. -/
def ptpLock (s : State) : State :=
  let step : Int := if s.unsync then s.dly.ptp.lead.getD 0 else 0
  let s1 := if s.unsync then
      modPtp (firstSync s step 0xFF (tcHops s)) (fun x =>
        { x with lead := some 0, open_ := none, sync := none, ask := none, rx := x.rx.map (fun y => (((y.1 : Int) + step).toNat, y.2)) })
    else slew s
  let s2 := oset (oset (oset s1 0x6042 0 2) 0x1101 0 4) 0x1104 0 0xFF
  logEv s2 0x8E 0x0507 0 (payOf [(16, s2.dly.ptpMaster), (24, i2n 8 step)])
/-- An offset of E0's clock from its master has been measured; the clock moves by `follow` (log entry 94), and by all of the offset where a lock steps
the timecode. Sixteen in a row within 100 ns are a lock; the timecode of a locked root is corrected by rate. -/
def ptpMeasured (s : State) (off follow : Int) : State :=
  let good := if off.natAbs ≤ 100 then s.dly.ptpGood + 1 else 0
  let move := if oget s 0x6042 0 ≠ 2 ∧ 16 ≤ good ∧ s.unsync then off else follow
  let s1 := modPtp s (fun x => { x with lead := x.lead.map (fun l => l - move) })
  let s2 := oset { s1 with dly := { s1.dly with ptpGood := min good 16 } } 0x6043 0 (i2n 4 off)
  if oget s 0x6042 0 = 2 then slew s2 else if 16 ≤ good then ptpLock s2 else s2
/-- A Sync that left the master at t1 and arrived at t2: once the path delay is known it gives an offset, the first one the clock itself; a Delay_Req
follows. -/
def ptpOrigin (s : State) (t1 t2 tx follow : Int) : State :=
  let s1 := modPtp s (fun x => { x with open_ := none, sync := some (t1, t2) })
  let s2 := match s.dly.ptp.path with
    | none => s1
    | some d => match s.dly.ptp.lead with
      | none => modPtp s1 (fun x => { x with lead := some (t1 + d - t2) })
      | some l => ptpMeasured s1 (t2 + l - t1 - d) follow
  ptpAsk s2 tx
/-- The clock of E0 takes a message whose arrival it stamped t. -/
def ptpMessage (s : State) (t : Int) (m : List Byte) (tx follow : Int) : State :=
  if ptpType m = 11 then ptpAnnounce s m
  else if !ptpMine s m then s
  else if ptpType m = 0 then
    let s1 := { s with dly := { s.dly with ptpAt := s.now } }
    if bit (ofBE (slice m 6 1)) 1 then modPtp s1 (fun x => { x with open_ := some (ptpSeq m, t, ptpCorr m) })
    else ptpOrigin s1 (ptpStamp m + ptpCorr m) t tx follow
  else if ptpType m = 8 then
    match s.dly.ptp.open_ with
    | some (q, t2, c) => if q = ptpSeq m then ptpOrigin s (ptpStamp m + ptpCorr m + c) t2 tx follow else s
    | none => s
  else
    match s.dly.ptp.ask, s.dly.ptp.sync with
    | some (q, t3), some (t1, t2) =>
      if q = ptpSeq m ∧ slice m 44 10 = ptpSelf s then modPtp s (fun x => { x with path := some (((t2 - t1) + (ptpStamp m - ptpCorr m - t3)) / 2) }) else s
    | _, _ => s
/-- PTP_SYNC (R318, R441): the clock of E0 takes the message that has waited longest: a Sync, Follow_Up, Delay_Resp or Announce. Its stamp at the PCS
is rx ns off, that of a Delay_Req which it draws tx ns off, both within 4 ns; `follow` is how far the clock moves for a measured offset. -/
def ptpSync (s : State) (rx tx follow : Int) : State :=
  match s.dly.ptp.rx with
  | [] => s
  | (t, m) :: rest => ptpMessage (modPtp s (fun x => { x with rx := rest })) (t + rx) m tx follow
/-- PTP_LOST (R441): no Sync of the master for 3 s; the root keeps its last rate and stays ROOT. -/
def ptpLost (s : State) : State :=
  let st := oget s 0x6042 0
  if ptpOn s = true ∧ (st = 1 ∨ st = 2) ∧ s.dly.ptp.lead.isSome ∧ s.dly.ptpAt + 3000000000 ≤ s.now then
    let s1 := oset { s with dly := { s.dly with ptpGood := 0 } } 0x6042 0 3
    logEv s1 0x8E 0x0508 0 (payOf [(16, s.dly.ptpMaster), (24, oget s 0x6043 0)])
  else s

/-- PTP_SYNC. -/
def execPtpSync (rx tx follow : Int) (s : State) : Host.Outcome State Fault Refusal := .next (ptpSync s rx tx follow)
/-- PTP_LOST. -/
def execPtpLost (s : State) : Host.Outcome State Fault Refusal := .next (ptpLost s)

end Sys2Proof.Machine
end

