-- ==== Sys2Proof/Machine/Beacon.lean ====
section
/-! DEFINITION. Machine/Beacon.lean: the director's time beacon (R322, R498). -/

namespace Sys2Proof.Machine

/-- TIME_BEACON_SEND (R322, R498): every 100 ms a director that is SYNCED or ROOT sends a beacon with its timecode at the previous one. -/
def timeBeaconSend (s : State) : State :=
  let due := match s.dir.beaconAt with
    | some t => decide (t + 100000000 ≤ s.now)
    | none => true
  if isDirector s && (tcState s == 2 || tcState s == 4) && dapUp s && due then
    let t := stampTc s 0xC3
    let r : EvRec := { tc := t, src := sourceOf s 0xC3, code := 0x0701, flags := logFlags s 0 false,
                       pay := payOf [(16, s.dir.beaconTc), (24, s.dir.beaconSeq % 2 ^ 32)] }
    let s1 := sendCan (stamped s 0xC3 t) 0x040 (recBytes r)
    { s1 with dir := { s1.dir with beaconSeq := s.dir.beaconSeq + 1, beaconTc := tcAt s 22, beaconAt := some s.now } }
  else s
/-- TIME_BEACON_RECEIVE (R322, R498, R532): a crew module hears the director; the time of the previous beacon and its own stamp of it make a
pair, by which a module without a fabric parent disciplines or steps its timecode and enters COARSE. -/
def timeBeaconReceive (s : State) (f : List Byte) : State :=
  if !dapUp s || isDirector s || f.length != 64 || ofLE (slice f 12 2) != 0x0701 then s
  else
    let seq := ofLE (slice f 24 4)
    let own := tcAt s 22
    let s1 := obump { s with dir := { s.dir with heard := s.now, rxBeacon := some (seq, own) } } 0x1205 2 1
    match s.dir.rxBeacon with
    | none => s1
    | some (q, t) =>
      if (q + 1) % 2 ^ 32 ≠ seq ∨ tcParent s ≠ 0xFF ∨ isTimeRoot s = true then s1
      else
        let d : Int := (ofLE (slice f 16 8) : Int) - t
        let s2 := if s1.unsync then
            let s3 := firstSync s1 d 0xFF (tcHops s1)
            { s3 with dir := { s3.dir with rxBeacon := some (seq, ((own : Int) + d).toNat) } }
          else slew s1
        if tcState s = 5 then s2
        else logEv (modTm (oset s2 0x1101 0 5) (fun x => { x with holdSince := none })) 0xC4 0x0A07 0 (payOf [(16, ofLE (slice f 9 3))])

/-- TIME_BEACON_SEND. -/
def execTimeBeaconSend (s : State) : Host.Outcome State Fault Refusal := .next (timeBeaconSend s)
/-- TIME_BEACON_RECEIVE. -/
def execTimeBeaconReceive (f : List Byte) (s : State) : Host.Outcome State Fault Refusal := .next (timeBeaconReceive s f)

end Sys2Proof.Machine
end

