-- ==== Sys2Proof/Machine/Ecdsa.lean ====
section
/-! DEFINITION. Machine/Ecdsa.lean: the verification of ECDSA signatures over P-384 (FIPS 186-5; R564), in Jacobian coordinates. -/

namespace Sys2Proof.Machine

/-- The prime of P-384. -/
def p384P : Nat := 2 ^ 384 - 2 ^ 128 - 2 ^ 96 + 2 ^ 32 - 1
/-- The order of its base point. -/
def p384N : Nat := 0xffffffffffffffffffffffffffffffffffffffffffffffffc7634d81f4372ddf581a0db248b0a77aecec196accc52973
/-- The coefficient b; a is -3. -/
def p384B : Nat := 0xb3312fa7e23ee7e4988e056be3f82d19181d9c6efe8141120314088f5013875ac656398d8a2ed19d2a85c8edd3ec2aef
/-- The base point. -/
def p384G : Nat × Nat :=
  (0xaa87ca22be8b05378eb1c71ef320ad746e1d3b628ba79b9859f741e082542a385502f25dbf55296c3a545e3872760ab7,
   0x3617de4a96262c6f5d9e98bf9292dc29f8f41dbd289a147ce9da3113b5f0b8c00a60b1ce1d7e819d7a431d7c90ea0e5f)
/-- b to the power e modulo m, over the k low bits of e. -/
def powMod (b e m : Nat) : Nat → Nat
  | 0 => 1 % m
  | k + 1 =>
    let h := powMod b (e / 2) m k
    let q := h * h % m
    if e % 2 = 1 then q * b % m else q
/-- a - b modulo the prime. -/
def subP (a b : Nat) : Nat := (a + p384P - b % p384P) % p384P
/-- A point in Jacobian coordinates; Z 0 is the point at infinity. -/
structure JPoint where
  x : Nat
  y : Nat
  z : Nat
deriving DecidableEq, Repr
/-- The double of a point. -/
def jDouble (q : JPoint) : JPoint :=
  let p := p384P
  let d := q.z * q.z % p
  let g := q.y * q.y % p
  let b := q.x * g % p
  let a := 3 * subP q.x d * (q.x + d) % p
  let x := subP (a * a % p) (8 * b % p)
  { x := x, z := subP (subP ((q.y + q.z) * (q.y + q.z) % p) g) d, y := subP (a * subP (4 * b % p) x % p) (8 * g * g % p) }
/-- The sum of two points. -/
def jAdd (u v : JPoint) : JPoint :=
  let p := p384P
  if u.z = 0 then v
  else if v.z = 0 then u
  else
    let a := u.z * u.z % p
    let b := v.z * v.z % p
    let u1 := u.x * b % p
    let u2 := v.x * a % p
    let s1 := u.y * v.z * b % p
    let s2 := v.y * u.z * a % p
    let h := subP u2 u1
    let r := subP s2 s1
    if h = 0 then (if r = 0 then jDouble u else { x := 1, y := 1, z := 0 })
    else
      let h2 := h * h % p
      let h3 := h * h2 % p
      let w := u1 * h2 % p
      let x := subP (subP (r * r % p) h3) (2 * w % p)
      { x := x, y := subP (r * subP w x % p) (s1 * h3 % p), z := h * u.z * v.z % p }
/-- k times a point, over the n low bits of k. -/
def jMul (q : JPoint) (k : Nat) : Nat → JPoint
  | 0 => { x := 1, y := 1, z := 0 }
  | n + 1 =>
    let h := jDouble (jMul q (k / 2) n)
    if k % 2 = 1 then jAdd h q else h
/-- The point lies on the curve. -/
def onCurve (x y : Nat) : Bool :=
  decide (x < p384P) && decide (y < p384P) && y * y % p384P == (subP (x * x % p384P * x % p384P) (3 * x % p384P) + p384B) % p384P
/-- The signature (r, s) over a digest verifies under the public key (x, y). -/
def ecdsaOk (digest x y r s : Nat) : Bool :=
  decide (0 < r) && decide (r < p384N) && decide (0 < s) && decide (s < p384N) && onCurve x y &&
    (let w := powMod s (p384N - 2) p384N 384
     let q := jAdd (jMul { x := p384G.1, y := p384G.2, z := 1 } (digest * w % p384N) 384) (jMul { x := x, y := y, z := 1 } (r * w % p384N) 384)
     q.z != 0 &&
      (let zi := powMod q.z (p384P - 2) p384P 384
       q.x * (zi * zi % p384P) % p384P % p384N == r))

end Sys2Proof.Machine
end

