-- ==== Sys2Proof/Machine/DebugCore.lean ====
section
/-! DEFINITION. Machine/DebugCore.lean: the end of a debug session (R573-R575). -/

namespace Sys2Proof.Machine

/-- DEBUG_LEVEL. -/
def debugLevel (s : State) : Nat := oget s 0x8010 0
/-- A core goes on after a halt; a CWAIT counts its time from here (R575; log entry 37). -/
def goOn (s : State) (c : Fin 8) : State :=
  modCore s c (fun k => { k with halted := false, step := false, status := match k.status with
    | .cwait n e v t => .cwait n e v (if k.halted then s.now else t)
    | x => x })
/-- The session ends: every halted core resumes, and DEBUG_END is logged (R573, R575, R582). -/
def debugEnd (s : State) (cause : Nat) : State :=
  let lv := debugLevel s
  if lv = 0 then s
  else
    let s1 := (fins 8).foldl (fun s c => if s.cl[c].core.halted then goOn s c else s) s
    let s2 := oset (oset { s1 with sec := { s1.sec with ends := none, token := false } } 0x8010 0 0) 0x8013 0 0xFF
    logEv s2 0xC6 0x0906 0 (payOf [(16, lv), (17, cause)])

end Sys2Proof.Machine
end

