-- ==== Sys2Proof/Machine/Accum.lean ====
section
/-! DEFINITION. Machine/Accum.lean: defined accumulation (R100-R109, R113-R115): exact products, chunks of sixteen summed in
a window and rounded once, and the integer accumulation of the array. -/

namespace Sys2Proof.Machine

/-- A list cut into chunks of 16 consecutive positions (R102); n bounds the number of chunks. -/
def chunks16 {A : Type} : Nat → List A → List (List A)
  | 0, _ => []
  | n + 1, l => if l.isEmpty then [] else l.take 16 :: chunks16 n (l.drop 16)

/-- An exact product of the array (R101, R106); in a cross pass ∞ × 0 is a zero without a flag (R115). -/
def prodA (cross : Bool) (a b : FVal) : FVal × Flags :=
  if a.isNan || b.isNan then (.nan false, snanIV [a, b])
  else if (a.isInf && b.isZero) || (a.isZero && b.isInf) then
    (if cross then (.zero (a.neg != b.neg), 0#8) else (.nan false, fIV))
  else (mulV a b, 0#8)

/-- A product placed in the window whose bit 0 weighs 2^L: truncated toward −∞, and whether a bit was lost (R103). -/
def placeW (L : Int) (v : FVal) : Int × Bool :=
  match v with
  | .fin _ _ e =>
    let s := sigAt v e
    if L ≤ e then (s * (2 ^ (e - L).toNat : Nat), false)
    else
      let d : Int := (2 ^ (L - e).toNat : Nat)
      (s / d, decide (s % d ≠ 0))
  | _ => (0, false)

/-- The value of one chunk of products (R103, R104, R106, R108) as an FP32 code. A chunk with both infinities sets IV even beside a quiet NaN, as R108's
program says (DEDUCED, log entry 102). -/
def chunkF (flush : Bool) (ps : List FVal) : Nat × Flags :=
  let pinf := ps.any (fun v => v.isInf && !v.neg)
  let ninf := ps.any (fun v => v.isInf && v.neg)
  if ps.any FVal.isNan || (pinf && ninf) then (qnan32, flagIf (pinf && ninf) fIV)
  else if pinf then (finf fp32 false, 0#8)
  else if ninf then (finf fp32 true, 0#8)
  else
    let fs := ps.filter (fun v => !v.isZero)
    match fs with
    | [] => (fzero fp32 (ps.all FVal.neg), 0#8)
    | v :: t =>
      let E := t.foldl (fun e w => max e (log2V w)) (log2V v)
      let placed := fs.map (placeW (E - 50))
      let s := placed.foldl (fun x p => x + p.1) (0 : Int)
      let lost := flagIf (placed.any (fun p => p.2)) fIX
      let r := fenc32 flush (ofSig s (E - 50))
      (r.1, r.2 ||| lost)

/-- The accumulator (none: empty) after one more chunk value (R105). -/
def accAdd (flush : Bool) (acc : Option Nat) (c : Nat) : Option Nat × Flags :=
  match acc with
  | none => (some c, 0#8)
  | some a => let r := add32 flush (fdec fp32 a) (fdec fp32 c); (some r.1, r.2)
/-- One pass over the pairs of one plane pair, chunk by chunk (R114). -/
def dotPass (flush cross : Bool) (acc : Option Nat × Flags) (l : List (FVal × FVal)) : Option Nat × Flags :=
  (chunks16 l.length l).foldl (fun st ch =>
    let ps := ch.map (fun p => prodA cross p.1 p.2)
    let fp := ps.foldl (fun f p => f ||| p.2) (0#8 : Flags)
    let c := chunkF flush (ps.map (fun p => p.1))
    let a := accAdd flush st.1 c.1
    (a.1, st.2 ||| fp ||| c.2 ||| a.2)) acc
/-- The initial accumulator of an accumulating element (R105): the plane value after its operand flush, rescaled if asked. -/
def accInit (flush : Bool) (init : Nat) (rescale : Option Nat) : Nat × Flags :=
  let v := fread flush fp32 init
  match rescale with
  | none => (match v.1 with | .zero n => (fzero fp32 n, v.2) | _ => (init, v.2))
  | some f =>
    let g := fread flush fp32 f
    let r := mul32 flush v.1 g.1
    (r.1, v.2 ||| g.2 ||| r.2)
/-- One floating-point output element (R105, R108, R114): `start` is none for an overwrite, `passes` the plane pairs in
order with their cross mark. -/
def dotF (flush : Bool) (start : Option (Nat × Flags)) (passes : List (Bool × List (FVal × FVal))) : Nat × Flags :=
  let st : Option Nat × Flags := match start with
    | none => (none, 0#8)
    | some s => (some s.1, s.2)
  let r := passes.foldl (fun a p => dotPass flush p.1 a p.2) st
  (r.1.getD 0, r.2)

/-- One addition of a chunk sum under INT_OVF (R109). -/
def iaccAdd (sat : Bool) (acc : Option Int) (c : Int) : Option Int × Flags :=
  match acc with
  | none => (some c, 0#8)
  | some a =>
    let x := a + c
    if -2147483648 ≤ x ∧ x ≤ 2147483647 then (some x, 0#8)
    else (some (if sat then (if x < 0 then -2147483648 else 2147483647) else sext 32 (wrapN 32 x)), fOF)
/-- One integer output element (R109). -/
def dotI (sat : Bool) (start : Option Int) (l : List (Int × Int)) : Int × Flags :=
  let r := (chunks16 l.length l).foldl (fun st ch =>
    let c := ch.foldl (fun x p => x + p.1 * p.2) (0 : Int)
    let a := iaccAdd sat st.1 c
    (a.1, st.2 ||| a.2)) ((start, 0#8) : Option Int × Flags)
  (r.1.getD 0, r.2)

/-- The plane pairs of a pass level in their fixed order (R114): 0 hi, 1 mid, 2 lo. -/
def passList : Nat → List (Nat × Nat)
  | 2 => [(0, 1), (1, 0), (0, 0)]
  | 3 => [(0, 2), (2, 0), (1, 1), (0, 1), (1, 0), (0, 0)]
  | _ => [(0, 0)]

end Sys2Proof.Machine
end

