-- ==== Sys2Proof/Machine/Vmath.lean ====
section
/-! DEFINITION. Machine/Vmath.lean: the function unit (R221) and the composites (R222). Each function is evaluated in
fixed point with 256 fraction bits, its last bit made sticky, and rounded once to binary32 (log entry 12). -/

namespace Sys2Proof.Machine

/-- Fraction bits of the fixed-point evaluation. -/
def fxP : Nat := 256
def fxOne : Int := (2 ^ 256 : Nat)
/-- Fixed-point product. -/
def fxMul (a b : Int) : Int := a * b / fxOne

/-- z + z³/3 + z⁵/5 + … from the term p = z^(2k+1), z2 = z². -/
def atanhSum : Nat → Nat → Int → Int → Int
  | 0, _, _, _ => 0
  | n + 1, k, p, z2 => p / (2 * k + 1 : Nat) + atanhSum n (k + 1) (fxMul p z2) z2
/-- artanh z for |z| ≤ 1/3. -/
def fxAtanh (z : Int) : Int := atanhSum 90 0 z (fxMul z z)
/-- z − z³/3 + z⁵/5 − … -/
def fxAtan (z : Int) : Int := atanhSum 90 0 z (-(fxMul z z))
/-- ln 2 = 2 artanh(1/3). -/
def fxLn2 : Int := 2 * fxAtanh (fxOne / 3)
/-- π = 16 arctan(1/5) − 4 arctan(1/239). -/
def fxPi : Int := 16 * fxAtan (fxOne / 5) - 4 * fxAtan (fxOne / 239)
/-- 1 + x/(1)(1 + x/2(…)): the exponential series. -/
def expSum : Nat → Nat → Int → Int → Int
  | 0, _, _, _ => 0
  | n + 1, k, t, x => t + expSum n (k + 1) (fxMul t x / (k + 1 : Nat)) x
/-- e^x for a fixed-point x: mantissa in fixed point and a power of two. -/
def fxExp (x : Int) : Int × Int :=
  let k := (x + fxLn2 / 2) / fxLn2
  (expSum 80 0 fxOne (x - k * fxLn2), k)
/-- 1 − r/3! + r²/5! − … for r = (πx)². -/
def sincSum : Nat → Nat → Int → Int → Int
  | 0, _, _, _ => 0
  | n + 1, k, t, r => t + sincSum n (k + 1) (-(fxMul t r) / ((2 * k + 2) * (2 * k + 3) : Nat)) r
/-- The exact fixed-point image of a finite value with exponent at least −256. -/
def fxOf (v : FVal) : Int := sigAt v (-256)
/-- A positive fixed-point number times 2^k as an inexact value (last bit sticky). -/
def fxVal (neg : Bool) (x k : Int) : FVal := .fin neg (2 * x.toNat + 1) (k - 257)

/-- e^v of a finite value (as the value before rounding). -/
def expFin (v : FVal) : FVal :=
  if v.isZero then .fin false 1 0
  else if 9 ≤ log2V v then (if v.neg then .fin false 1 (-2000) else .fin false 1 2000)
  else let r := fxExp (fxOf v); fxVal false r.1 r.2
def exp2Fin (v : FVal) : FVal :=
  if v.isZero then .fin false 1 0
  else if 9 ≤ log2V v then (if v.neg then .fin false 1 (-2000) else .fin false 1 2000)
  else
    let x := fxOf v
    let k := x / fxOne
    let f := x % fxOne
    if f = 0 then .fin false 1 k else let r := fxExp (fxMul f fxLn2); fxVal false r.1 (r.2 + k)
/-- The power of two and the fixed-point ln of the reduced significand of m·2^e. -/
def lnParts (m : Nat) (e : Int) : Int × Int :=
  let l := Nat.log2 m
  let up := decide (4 * 2 ^ l < 3 * m)
  let d : Nat := if up then 2 ^ (l + 1) else 2 ^ l
  (e + l + (if up then 1 else 0), 2 * fxAtanh (((m : Int) - d) * fxOne / ((m : Int) + d)))
/-- ln and log2 of a positive finite value. -/
def lnFin (m : Nat) (e : Int) : FVal :=
  let p := lnParts m e
  let x := p.1 * fxLn2 + p.2
  if m = 2 ^ Nat.log2 m && e + Nat.log2 m = 0 then .zero false else fxVal (decide (x < 0)) x.natAbs 0
def log2Fin (m : Nat) (e : Int) : FVal :=
  let p := lnParts m e
  if m = 2 ^ Nat.log2 m then ofIntV (e + Nat.log2 m)
  else
    let x := p.1 * fxOne + p.2 * fxOne / fxLn2
    fxVal (decide (x < 0)) x.natAbs 0
def tanhFin (n : Bool) (m : Nat) (e : Int) : FVal :=
  let l := log2V (.fin n m e)
  if l < -20 then .fin n (m * 2 ^ 60 - 1) (e - 60)
  else if 6 ≤ l then .fin n (2 ^ 80 - 1) (-80)
  else
    let r := fxExp (-2 * fxOf (.fin false m e))
    let u := r.1 / (2 ^ (-r.2).toNat : Nat)
    fxVal n ((fxOne - u) * fxOne / (fxOne + u)) 0
/-- sin(π·g/2^d) for 0 < g/2^d ≤ 1/2. -/
def sinPiFrac (neg : Bool) (g d : Nat) : FVal :=
  if 2 * g = 2 ^ d then .fin neg 1 0
  else
    let x : Int := g * fxOne / (2 ^ d : Nat)
    let px := fxMul x fxPi
    let s := sincSum 60 0 fxOne (fxMul px px)
    .fin neg (2 * (g * (fxMul fxPi s).toNat) + 1) (-(d : Int) - 257)
/-- sin(πv) of a finite nonzero value: reduced exactly. -/
def sinPiFin (n : Bool) (m : Nat) (e : Int) : FVal :=
  if 0 ≤ e then .zero n else
  let d := (-e).toNat
  let i := m >>> d
  let f := m % 2 ^ d
  if f = 0 then .zero n
  else sinPiFrac (n != (i % 2 = 1)) (if 2 * f > 2 ^ d then 2 ^ d - f else f) d
/-- cos(πv) of a finite nonzero value. -/
def cosPiFin (m : Nat) (e : Int) : FVal :=
  if 0 < e then .fin false 1 0 else
  let d := (-e).toNat
  let i := m >>> d
  let f := m % 2 ^ d
  let odd := decide (i % 2 = 1)
  if f = 0 then .fin odd 1 0
  else if 2 * f = 2 ^ d then .zero false
  else if 2 * f < 2 ^ d then sinPiFrac odd (2 ^ d - 2 * f) (d + 1)
  else sinPiFrac (!odd) (2 * f - 2 ^ d) (d + 1)

/-- The function unit (R221) by the operation codes 0x20 to 0x28 of R347. -/
def funcUnit (op : Nat) (flush : Bool) (a : FVal) : Nat × Flags :=
  if a.isNan then (qnan32, snanIV [a]) else
  match op with
  | 0x20 => div32 flush (.fin false 1 0) a
  | 0x21 => match a with
    | .zero n => (finf fp32 n, fOF)
    | .inf false => (fzero fp32 false, 0#8)
    | .fin false m e =>
      let r := sqrtSig m e
      let q := quotSig 1 0 r.1 r.2
      fenc32 flush (.fin false (if r.1 % 2 = 1 then q.1 ||| 1 else q.1) q.2)
    | _ => (qnan32, fIV)
  | 0x22 => match a with
    | .inf n => (if n then fzero fp32 false else finf fp32 false, 0#8)
    | v => fenc32 flush (expFin v)
  | 0x23 => match a with
    | .inf n => (if n then fzero fp32 false else finf fp32 false, 0#8)
    | v => fenc32 flush (exp2Fin v)
  | 0x24 => match a with
    | .zero _ => (finf fp32 true, fOF)
    | .inf false => (finf fp32 false, 0#8)
    | .fin false m e => fenc32 flush (lnFin m e)
    | _ => (qnan32, fIV)
  | 0x25 => match a with
    | .zero _ => (finf fp32 true, fOF)
    | .inf false => (finf fp32 false, 0#8)
    | .fin false m e => fenc32 flush (log2Fin m e)
    | _ => (qnan32, fIV)
  | 0x26 => match a with
    | .inf n => fenc32 flush (.fin n 1 0)
    | .fin n m e => fenc32 flush (tanhFin n m e)
    | v => fenc32 flush v
  | 0x27 => match a with
    | .inf _ => (qnan32, fIV)
    | .fin n m e => fenc32 flush (sinPiFin n m e)
    | v => fenc32 flush v
  | _ => match a with
    | .inf _ => (qnan32, fIV)
    | .fin _ m e => fenc32 flush (cosPiFin m e)
    | _ => fenc32 flush (.fin false 1 0)

/-- c0 = rne(√(2/π), f32) and c1 = rne(0.044715, f32) (R222). -/
def geluC0 : FVal := fdec fp32 0x3F4C422A
def geluC1 : FVal := fdec fp32 0x3D372713
def oneV : FVal := .fin false 1 0

/-- A step of a composite: the value of a rounded result, and the flags so far with its own. -/
def seqF (fl : Flags) (r : Nat × Flags) : FVal × Flags := (fdec fp32 r.1, fl ||| r.2)

def expdiff32 (strict flush : Bool) (a b : FVal) : Nat × Flags :=
  let d := seqF 0#8 (laneAdd strict flush a b.negate)
  let r := funcUnit 0x22 flush d.1
  (r.1, d.2 ||| r.2)
def sigmoid32 (strict flush : Bool) (x : FVal) : Nat × Flags :=
  if !x.isNan && !ltV x (.zero false) then
    let e := seqF 0#8 (funcUnit 0x22 flush x.negate)
    let s := seqF e.2 (laneAdd strict flush oneV e.1)
    let r := funcUnit 0x20 flush s.1
    (r.1, s.2 ||| r.2)
  else
    let e := seqF 0#8 (funcUnit 0x22 flush x)
    let s := seqF e.2 (laneAdd strict flush oneV e.1)
    let r := laneDiv strict flush e.1 s.1
    (r.1, s.2 ||| r.2)
def silu32 (strict flush : Bool) (x : FVal) : Nat × Flags :=
  let s := seqF 0#8 (sigmoid32 strict flush x)
  let r := laneMul strict flush x s.1
  (r.1, s.2 ||| r.2)
def gelu32 (strict flush : Bool) (x : FVal) : Nat × Flags :=
  let xx := seqF 0#8 (laneMul strict flush x x)
  let cx := seqF xx.2 (laneMul strict flush geluC1 xx.1)
  let t := seqF cx.2 (laneFma strict flush cx.1 x x)
  let u := seqF t.2 (laneMul strict flush geluC0 t.1)
  let h := seqF u.2 (laneMul strict flush (.fin false 1 (-1)) x)
  let th := seqF h.2 (funcUnit 0x26 flush u.1)
  let s := seqF th.2 (laneAdd strict flush oneV th.1)
  let r := laneMul strict flush h.1 s.1
  (r.1, s.2 ||| r.2)

/-- What a lane holds: a result in FP32, a result in INT32, or an element passed on unchanged (SEL, MOV: R219, R253). -/
inductive Lane where
  | f (code : Nat)
  | i (x : Int)
  | raw (fmt code : Nat)
deriving DecidableEq, Repr

/-- The value a floating-point operation reads from a lane operand, under the flush mode (R77, R214). -/
def Lane.fval (flush : Bool) : Lane → FVal × Flags
  | .f c => fread flush fp32 c
  | .i x => (ofIntV x, 0#8)
  | .raw m c => elemV flush m c
/-- The integer an integer operation reads. -/
def Lane.ival : Lane → Int
  | .f c => sext 32 c
  | .i x => x
  | .raw m c => intOf m c
/-- Is the lane value of a floating-point format? -/
def Lane.isF : Lane → Bool
  | .f _ => true
  | .i _ => false
  | .raw m _ => isFloatFmt m

/-- Kind (0 F, 1 P, 2 C, 3 I) and number of sources of a vector operation code (R347). -/
def opInfo (op : Nat) : Option (Nat × Nat) :=
  if op = 0x01 || op = 0x09 || op = 0x0D || op = 0x0E then some (0, 1)
  else if op = 0x02 || op = 0x03 || op = 0x04 || op = 0x08 || op = 0x0A || op = 0x0B then some (0, 2)
  else if 0x10 ≤ op && op ≤ 0x13 then some (0, 2)
  else if op = 0x05 || op = 0x06 || op = 0x07 || op = 0x0C || op = 0x0F then some (0, 3)
  else if 0x20 ≤ op && op ≤ 0x28 then some (1, 1)
  else if op = 0x30 then some (2, 2)
  else if 0x31 ≤ op && op ≤ 0x33 then some (2, 1)
  else if op = 0x45 || op = 0x4C then some (3, 1)
  else if 0x40 ≤ op && op ≤ 0x4F then some (3, 2)
  else if op = 0x50 then some (3, 3)
  else none

/-- An integer result under ARITH_OVF (R220). -/
def ovfInt (sat : Bool) (x : Int) : Int × Flags :=
  if -2147483648 ≤ x ∧ x ≤ 2147483647 then (x, 0#8)
  else (if sat then (if x < 0 then -2147483648 else 2147483647) else sext 32 (wrapN 32 x), fOF)
def u32 (x : Int) : Nat := wrapN 32 x
def s32 (x : Nat) : Int := sext 32 x

/-- Integer operations (R219, R220). -/
def intOp (op : Nat) (sat : Bool) (a b c : Int) : Int × Flags :=
  let sh := u32 b
  match op with
  | 0x40 => ovfInt sat (a + b)
  | 0x41 => ovfInt sat (a - b)
  | 0x42 => ovfInt sat (a * b)
  | 0x43 => (max a b, 0#8)
  | 0x44 => (min a b, 0#8)
  | 0x45 => ovfInt sat a.natAbs
  | 0x46 => ovfInt sat (a * (2 ^ min sh 64 : Nat))
  | 0x47 => (if 32 ≤ sh then 0 else s32 (u32 a >>> sh), 0#8)
  | 0x48 => (a / (2 ^ min sh 31 : Nat), 0#8)
  | 0x49 => (s32 (u32 a &&& u32 b), 0#8)
  | 0x4A => (s32 (u32 a ||| u32 b), 0#8)
  | 0x4B => (s32 (u32 a ^^^ u32 b), 0#8)
  | 0x4C => (s32 (2 ^ 32 - 1 - u32 a), 0#8)
  | 0x4D => (if a = b then 1 else 0, 0#8)
  | 0x4E => (if a < b then 1 else 0, 0#8)
  | 0x4F => (if u32 a < u32 b then 1 else 0, 0#8)
  | _ => (if c ≠ 0 then a else b, 0#8)

/-- Comparisons (R76): quiet, IV for a signalling NaN only. -/
def cmpOp (op : Nat) (a b : FVal) : Int × Flags :=
  let un := a.isNan || b.isNan
  let r := match op with
    | 0x10 => !un && eqV a b
    | 0x11 => un || !eqV a b
    | 0x12 => !un && ltV a b
    | _ => !un && !ltV b a
  (if r then 1 else 0, snanIV [a, b])

/-- What SEL passes on (R70, R77, R219): a floating-point element with its bits, a subnormal one flushed in flush mode; a small
integer as its FP32 value. Both value operands are read so, the one not taken too (log entry 103). -/
def selLane (flush : Bool) : Lane → Lane × Flags
  | .i x => (.i x, 0#8)
  | .f c => let z := (fread flush fp32 c).2 &&& fFZ; (.f (if z = 0#8 then c else c / 2 ^ 31 * 2 ^ 31), z)
  | .raw m c =>
    if isFloatFmt m then
      let z := (elemV flush m c).2 &&& fFZ
      (.raw m (if z = 0#8 then c else c / 2 ^ (fmtBits m - 1) * 2 ^ (fmtBits m - 1)), z)
    else (.f (fenc32 false (ofIntV (intOf m c))).1, 0#8)

/-- One lane of an operation of R219 other than CVT: `strict` is the mode, `sat` ARITH_OVF, `flush` the VECTOR flush mode. -/
def laneOp (op : Nat) (strict sat flush : Bool) (a b c : Lane) : Lane × Flags :=
  if op = 0x0F then
    let x := selLane flush a
    let y := selLane flush b
    (if c.ival ≠ 0 then x.1 else y.1, x.2 ||| y.2)
  else match opInfo op with
  | some (3, _) => let r := intOp op sat a.ival b.ival c.ival; (.i r.1, r.2)
  | some (_, n) =>
    let x := a.fval flush
    let y := if 2 ≤ n then b.fval flush else (.zero false, 0#8)
    let z := if 3 ≤ n then c.fval flush else (.zero false, 0#8)
    let fl := x.2 ||| y.2 ||| z.2
    let r : Lane × Flags := match op with
      | 0x02 => let r := laneAdd strict flush x.1 y.1; (.f r.1, r.2)
      | 0x03 => let r := laneAdd strict flush x.1 y.1.negate; (.f r.1, r.2)
      | 0x04 => let r := laneMul strict flush x.1 y.1; (.f r.1, r.2)
      | 0x05 =>
        let p := seqF 0#8 (laneMul strict flush x.1 y.1)
        let r := laneMul strict flush p.1 z.1
        (.f r.1, p.2 ||| r.2)
      | 0x06 => let r := laneFma strict flush x.1 y.1 z.1; (.f r.1, r.2)
      | 0x07 => let r := laneFma strict flush x.1 y.1 z.1.negate; (.f r.1, r.2)
      | 0x08 => let r := laneDiv strict flush x.1 y.1; (.f r.1, r.2)
      | 0x09 => let r := laneSqrt strict flush x.1; (.f r.1, r.2)
      | 0x0A => let r := fenc32 flush (maxV x.1 y.1); (.f r.1, r.2 ||| snanIV [x.1, y.1])
      | 0x0B => let r := fenc32 flush (minV x.1 y.1); (.f r.1, r.2 ||| snanIV [x.1, y.1])
      | 0x0C => let r := fenc32 flush (minV (maxV x.1 y.1) z.1); (.f r.1, r.2 ||| snanIV [x.1, y.1, z.1])
      | 0x0D => let r := fenc32 flush x.1.abs; (.f r.1, r.2)
      | 0x0E => let r := fenc32 flush x.1.negate; (.f r.1, r.2)
      | 0x30 => let r := expdiff32 strict flush x.1 y.1; (.f r.1, r.2)
      | 0x31 => let r := sigmoid32 strict flush x.1; (.f r.1, r.2)
      | 0x32 => let r := silu32 strict flush x.1; (.f r.1, r.2)
      | 0x33 => let r := gelu32 strict flush x.1; (.f r.1, r.2)
      | _ =>
        if 0x10 ≤ op && op ≤ 0x13 then let r := cmpOp op x.1 y.1; (.i r.1, r.2)
        else let r := funcUnit op flush x.1; (.f r.1, r.2)
    (r.1, fl ||| r.2)
  | none => (a, 0#8)

end Sys2Proof.Machine
end

