-- ==== Sys2Proof/Machine/Reduce.lean ====
section
/-! DEFINITION. Machine/Reduce.lean: the reduction unit (R226-R231): one statistics entry from the values of its active
positions. -/

namespace Sys2Proof.Machine

/-- The values of positions 16g to 16g + 15, in order (R228). -/
def posChunk {A : Type} (l : List (Nat × A)) (g : Nat) : List A := (l.filter (fun x => x.1 / 16 == g)).map (fun x => x.2)
/-- The chunks that hold an active position. -/
def posGroups {A : Type} (l : List (Nat × A)) : List Nat := (l.map (fun x => x.1 / 16)).eraseDups

/-- SUM or SUMSQ in FP32 (R228): the accumulator after every chunk. -/
def redSumF (sq flush : Bool) (start : Option Nat × Flags) (l : List (Nat × FVal)) : Option Nat × Flags :=
  (posGroups l).foldl (fun st g =>
    let ps := (posChunk l g).map (fun v => if sq then prodA false v v else (v, snanIV [v]))
    let c := chunkF flush (ps.map (fun p => p.1))
    let a := accAdd flush st.1 c.1
    (a.1, st.2 ||| ps.foldl (fun f p => f ||| p.2) (0#8) ||| c.2 ||| a.2)) start
/-- SUM or SUMSQ in INT32 (R228): a chunk sum that fills an empty accumulator is narrowed like an addition. -/
def redSumI (sq sat : Bool) (start : Option Int) (l : List (Nat × Int)) : Option Int × Flags :=
  (posGroups l).foldl (fun st g =>
    let c := (posChunk l g).foldl (fun x v => x + (if sq then v * v else v)) (0 : Int)
    let a := iaccAdd sat (some (st.1.getD 0)) c
    (a.1, st.2 ||| a.2)) ((start, 0#8) : Option Int × Flags)

/-- The better of two (value, index) entries for ARGMAX (big) or ARGMIN (R231): a NaN wins, ties go to the lower index. -/
def argBetter (big : Bool) (a b : FVal × Nat) : FVal × Nat :=
  if a.1.isNan && b.1.isNan then (if a.2 ≤ b.2 then a else b)
  else if a.1.isNan then a
  else if b.1.isNan then b
  else if (if big then ltMax a.1 b.1 else ltMax b.1 a.1) then b
  else if (if big then ltMax b.1 a.1 else ltMax a.1 b.1) then a
  else if a.2 ≤ b.2 then a else b
/-- The same for INT32 entries. -/
def argBetterI (big : Bool) (a b : Int × Nat) : Int × Nat :=
  if (if big then a.1 < b.1 else b.1 < a.1) then b
  else if (if big then b.1 < a.1 else a.1 < b.1) then a
  else if a.2 ≤ b.2 then a else b

/-- An index written by ARGMAX or ARGMIN (R231). -/
def argIdx (bias pos : Nat) : Nat := (pos + bias) % 2 ^ 32

/-- A statistics entry (value code, index) in FP32 from its active positions and, with RED_ACCUM = 1, its old contents
(R227-R231). -/
def redEntryF (op bias : Nat) (flush : Bool) (old : Option (Nat × Nat)) (l : List (Nat × FVal)) : (Nat × Nat) × Flags :=
  let ov := old.map (fun o => (fread flush fp32 o.1, o.2))
  let of0 : Flags := match ov with
    | some o => o.1.2
    | none => 0#8
  if op = 1 ∨ op = 2 then
    let st : Option Nat × Flags := match old with
      | some o => let a := accInit flush o.1 none; (some a.1, a.2)
      | none => (none, 0#8)
    let r := redSumF (op == 2) flush st l
    ((r.1.getD 0, 0), r.2)
  else if op ≤ 5 then
    let f (a b : FVal) : FVal := if op = 4 then minV a b else if op = 5 then maxV a b.abs else maxV a b
    let init : FVal := match ov with
      | some o => o.1.1
      | none => if op = 3 then .inf true else if op = 4 then .inf false else .zero false
    let v := l.foldl (fun a x => f a x.2) init
    let fl := l.foldl (fun a x => a ||| snanIV [x.2]) (snanIV [init])
    (((fenc32 false v).1, 0), of0 ||| fl)
  else
    let big := op == 6
    let best : Option (FVal × Nat) := l.foldl (fun a x =>
      let y := (x.2, argIdx bias x.1)
      match a with
      | some b => some (if b.1.isNan || b.1 == x.2 then b else if x.2.isNan then y
          else if (if big then ltMax b.1 x.2 else ltMax x.2 b.1) then y else b)
      | none => some y) none
    let cand := match ov, best with
      | some o, some b => some (argBetter big (o.1.1, o.2) b)
      | some o, none => some (o.1.1, o.2)
      | none, b => b
    let fl := l.foldl (fun a x => a ||| snanIV [x.2]) (0#8)
    let snO := match ov with
      | some o => snanIV [o.1.1]
      | none => 0#8
    match cand with
    | some c => (((fenc32 false c.1).1, c.2), of0 ||| fl ||| snO)
    | none => ((finf fp32 big, 0xFFFFFFFF), 0#8)

/-- A statistics entry in INT32. -/
def redEntryI (op bias : Nat) (sat : Bool) (old : Option (Nat × Nat)) (l : List (Nat × Int)) : (Nat × Nat) × Flags :=
  let ov := old.map (fun o => (s32 o.1, o.2))
  if op = 1 ∨ op = 2 then
    let r := redSumI (op == 2) sat (ov.map (fun o => o.1)) l
    ((u32 (r.1.getD 0), 0), r.2)
  else if op = 5 then
    let init : Int := match ov with
      | some o => o.1.natAbs
      | none => 0
    let r := ovfInt sat (l.foldl (fun a x => max a x.2.natAbs) init)
    ((u32 r.1, 0), r.2)
  else if op ≤ 4 then
    let init : Int := match ov with
      | some o => o.1
      | none => if op = 3 then -2147483648 else 2147483647
    ((u32 (l.foldl (fun a x => if op = 3 then max a x.2 else min a x.2) init), 0), 0#8)
  else
    let big := op == 6
    let best : Option (Int × Nat) := l.foldl (fun a x =>
      let y := (x.2, argIdx bias x.1)
      match a with
      | some b => some (if (if big then b.1 < x.2 else x.2 < b.1) then y else b)
      | none => some y) none
    let cand := match ov, best with
      | some o, some b => some (argBetterI big o b)
      | some o, none => some o
      | none, b => b
    match cand with
    | some c => ((u32 c.1, c.2), 0#8)
    | none => ((u32 (if big then -2147483648 else 2147483647), 0xFFFFFFFF), 0#8)

/-- The bytes of one entry: 4, or 8 for ARGMAX and ARGMIN (R227). -/
def redSize (op : Nat) : Nat := if op = 6 ∨ op = 7 then 8 else 4
/-- An entry as bytes. -/
def redBytes (op : Nat) (e : Nat × Nat) : List Byte := toLE 4 e.1 ++ (if op = 6 ∨ op = 7 then toLE 4 e.2 else [])

end Sys2Proof.Machine
end

