-- ==== Sys2Proof/Machine/ProgDef.lean ====
section
/-! DEFINITION. Machine/ProgDef.lean: bindings, ports and micro-ops of prep and grade programs (R243-R254, R353), and the
conditions that make a program malformed (R268). -/

namespace Sys2Proof.Machine

/-- A port of a binding (R244). -/
structure Port where
  kind : Nat
  fmt : Nat
  addr : Nat
  win : Nat
  pitch : Int
  estep : Int
  sigClap : Nat
  sigInc : Nat
  reel : Nat
  round : Nat
  sat : Bool
  gran : Nat
  rreg : Nat
  upd : Nat
deriving DecidableEq, Repr

/-- Port p of a binding. -/
def portOf (b : BitVec 1024) (p : Nat) : Port :=
  let o := 8 * (32 + 32 * p)
  { kind := fld b (o + 60) 4, fmt := fld b (o + 56) 4, addr := fld b (o + 192) 64, win := fld b (o + 160) 32,
    pitch := sfld b (o + 128) 32, estep := sfld b (o + 96) 32, sigClap := fld b (o + 80) 16, sigInc := fld b (o + 64) 16,
    reel := fld b (o + 48) 5, round := fld b (o + 40) 2, sat := fld b (o + 42) 1 == 1, gran := fld b (o + 43) 2,
    rreg := fld b (o + 32) 4, upd := fld b (o + 36) 2 }
/-- CODE_OFF, CODE_LEN, RED_OP, RED_DIR, RED_ACCUM, RED_IDX_BIAS, STAT_OFF, STAT_STEP, POST_OFF, POST_STEP, POST_REEL, WB_ROUND
and WB_OVF (R243). -/
def bCodeOff (b : BitVec 1024) : Nat := fld b 64 32
def bCodeLen (b : BitVec 1024) : Nat := fld b 56 8
def bRedOp (b : BitVec 1024) : Nat := fld b 40 3
def bRedDir (b : BitVec 1024) : Nat := fld b 43 1
def bRedAccum (b : BitVec 1024) : Bool := fld b 44 1 == 1
def bRedBias (b : BitVec 1024) : Nat := fld b 96 32
def bStatOff (b : BitVec 1024) : Nat := fld b 128 32
def bStatStep (b : BitVec 1024) : Int := sfld b 160 32
def bPostOff (b : BitVec 1024) : Nat := fld b 192 32
def bPostStep (b : BitVec 1024) : Nat := fld b 224 32
def bPostReel (b : BitVec 1024) : Nat := fld b 48 5
def bWbRound (b : BitVec 1024) : Nat := fld b 32 2
def bWbSat (b : BitVec 1024) : Bool := fld b 34 1 == 1

/-- A micro-op (R353). -/
structure MicroOp where
  op : Nat
  strict : Bool
  sat : Bool
  src : List Nat
  dst : Nat
  red : Bool
  fin : Bool
  imm : Nat
  rsvd : Nat
deriving DecidableEq, Repr

/-- A micro-op word. -/
def microOf (w : Word) : MicroOp :=
  { op := fld w 32 8, strict := fld w 61 1 == 1, sat := fld w 60 1 == 1, src := [fld w 44 4, fld w 48 4, fld w 52 4],
    dst := fld w 56 4, red := fld w 62 1 == 1, fin := fld w 63 1 == 1, imm := fld w 0 32, rsvd := fld w 40 4 }
/-- The number of sources of a micro-op (R250, R253). -/
def microSrcs (op : Nat) : Option Nat := if op = 0x60 ∨ op = 0x61 then some 1 else (opInfo op).map (fun x => x.2)

/-- The byte offset of a program or vector reference of an MMA: its field holds bits [20:1] of a 64-byte unit count (R341). -/
def refByte (x : Nat) : Nat := 128 * x
/-- A vector reference of element i: the byte offset of 512 FP32 values, from a field and a step field (R189, R341). -/
def vecRef (b : OpBlock) (off step i : Nat) : Nat := refByte (fld b off 20) + i * (128 * fld b step 7)
/-- The program reference of a role (R341). -/
def progRef (b : OpBlock) : OpKind → Nat
  | .prepA => fld b 420 20
  | .prepB => fld b 440 20
  | _ => fld b 460 20
/-- The roles of the programs that an MMA names, in the order of R240. -/
def progRoles (b : OpBlock) : List OpKind := [OpKind.prepA, .prepB, .grade].filter (fun r => progRef b r != 0)

/-- The binding at a reference, and a program's code (R243, R246). -/
def readBinding (s : State) (c : Fin 8) (ref : Nat) : BitVec 1024 := BitVec.ofNat 1024 (rdLE s (spBase c + refByte ref) 128)
def readCode (s : State) (c : Fin 8) (b : BitVec 1024) : List Word :=
  (List.range (bCodeLen b)).map (fun i => BitVec.ofNat 64 (rdLE s (spBase c + 64 * bCodeOff b + 8 * i) 8))

/-- The rows and columns that a program of a role processes (R249). -/
def progShape (b : OpBlock) : OpKind → Nat × Nat
  | .prepA => ((mmaF b).m, (mmaF b).k)
  | .prepB => ((mmaF b).k, (mmaF b).n)
  | _ => ((mmaF b).m, (mmaF b).n)
/-- The format of IN (R249): the accumulator's, or the register's. -/
def inFmt (b : OpBlock) (role : OpKind) : Nat :=
  match role with
  | .prepA => (mmaF b).aFmt
  | .prepB => (mmaF b).bFmt
  | _ => if isFloatFmt (mmaF b).aFmt then 1 else 4

/-- The extent of a port of element b from ADDR, or from its slot (R245, R138). -/
def portExt (p : Port) (rows cols b : Nat) : Int × Int :=
  let o : Int := if p.kind = 5 then 0 else b * p.estep
  let e := match p.kind with
    | 2 => extent 0 rows (fmtBits p.fmt) []
    | 3 => extent 0 cols (fmtBits p.fmt) []
    | 6 => extent 0 ((cols + 31) / 32) (fmtBits p.fmt) [(rows, p.pitch)]
    | _ => extent 0 cols (fmtBits p.fmt) [(rows, p.pitch)]
  (o + e.1, o + e.2)
/-- The elements of an MMA. -/
def elems (b : OpBlock) : List Nat := List.range (mmaF b).batch
/-- The element indices over which extents are checked: steps are linear, so the first and the last are extreme. -/
def edgeElems (b : OpBlock) : List Nat := if (mmaF b).batch ≤ 1 then elems b else [0, (mmaF b).batch - 1]
/-- The local address of the statistics vector of element b, from the scratchpad's base. -/
def statOff (bd : BitVec 1024) (b : Nat) : Int := 64 * ((bStatOff bd : Int) + b * bStatStep bd)
/-- The post record of element i (R260), from the scratchpad's base. -/
def postOff (bd : BitVec 1024) (i : Nat) : Int := 64 * ((bPostOff bd : Int) + i * bPostStep bd)
/-- The bytes of a statistics vector. -/
def statBytes (bd : BitVec 1024) (rows cols : Nat) : Nat := redSize (bRedOp bd) * (if bRedDir bd = 0 then rows else cols)
/-- An extent lies in the scratchpad of the cluster. -/
def inSpI (lo hi : Int) : Bool := decide (0 ≤ lo) && decide (hi ≤ spSize)

/-- The type (format code; floats count as FP32) that a source selector has, w giving those of the working values: 0 means unwritten. A prep
write to IN converts into the register's format (R252), so that IN keeps that type (log entry 91). -/
def srcType (b : OpBlock) (role : OpKind) (bd : BitVec 1024) (w : List Nat) (opInt : Bool) (sel : Nat) : Nat :=
  if sel = 1 then inFmt b role
  else if 2 ≤ sel ∧ sel ≤ 5 then w.getD (sel - 2) 0
  else if sel = 6 ∨ sel = 7 then 1
  else if 8 ≤ sel ∧ sel ≤ 10 then (portOf bd (sel - 8)).fmt
  else if sel = 11 then (if opInt then 4 else 1)
  else 0
/-- The type of a micro-op's result (R219, R252, R253): FP32 or INT32. -/
def resType (op dst t0 : Nat) : Nat :=
  if op = 0x60 ∨ op = 0x61 then (if isFloatFmt t0 then 1 else 4)
  else if op = 0x01 then (if 2 ≤ dst ∧ dst ≤ 5 then (if isFloatFmt t0 then 4 else 1) else (if isFloatFmt t0 then 1 else 4))
  else if 0x10 ≤ op ∧ op ≤ 0x13 then 4
  else match opInfo op with
    | some (3, _) => 4
    | _ => 1
/-- A source of type t is accepted at place i of an operation (R214, R253). -/
def typeOk (op i t : Nat) : Bool :=
  if op = 0x60 ∨ op = 0x01 then t != 0
  else if op = 0x61 then isFloatFmt t || t == 4
  else if op = 0x0F ∧ i = 2 then isIntFmt t
  else match opInfo op with
    | some (3, _) => isIntFmt t
    | _ => isFloatFmt t || isSmallInt t
/-- The micro-op computes in INT32, so that IMM is an INT32 (R251). -/
def opIsInt (op i : Nat) : Bool := (op == 0x0F && i == 2) || (match opInfo op with
  | some (3, _) => true
  | _ => false)

/-- The types of W0-W3 after a list of micro-ops. -/
def typesAfter (b : OpBlock) (role : OpKind) (bd : BitVec 1024) (l : List MicroOp) : List Nat :=
  l.foldl (fun w m =>
    if 2 ≤ m.dst ∧ m.dst ≤ 5 then w.set (m.dst - 2) (resType m.op m.dst (srcType b role bd w (opIsInt m.op 0) (m.src.getD 0 0))) else w)
    [0, 0, 0, 0]

/-! Malformed programs (R268). Each check lists its conditions with the granule that each offends: 0 and 1 of the binding, then 2 + k / 8
for micro-op k of the code. -/

/-- The granule of port i of a binding, and that of micro-op k. -/
def portGran (i : Nat) : Nat := if i = 0 then 0 else 1
def opGran (k : Nat) : Nat := 2 + k / 8
/-- The first offending granule of a list of conditions. -/
def firstGran (l : List (Bool × Nat)) : Option Nat :=
  l.foldl (fun m x => if x.1 then some (min x.2 (m.getD x.2)) else m) none
/-- Conditions on the ports of a binding. -/
def eachPort (bd : BitVec 1024) (f : Nat → Port → Bool) : List (Bool × Nat) := (List.range 3).map (fun i => (f i (portOf bd i), portGran i))
/-- Conditions on the micro-ops of a code. -/
def eachOp (code : List MicroOp) (f : Nat → MicroOp → Bool) : List (Bool × Nat) := code.zipIdx.map (fun x => (f x.2 x.1, opGran x.2))

/-- PCHECK 3: reserved fields of binding and code. -/
def pReserved (bd : BitVec 1024) (code : List MicroOp) : List (Bool × Nat) :=
  [(fld bd 0 32 != 0 || fld bd 53 3 != 0 || fld bd 45 3 != 0 || fld bd 35 5 != 0, 0)] ++
    eachPort bd (fun i p =>
      let o := 8 * (32 + 32 * i)
      fld bd o 32 != 0 || fld bd (o + 38) 2 != 0 || fld bd (o + 45) 3 != 0 || fld bd (o + 53) 3 != 0 || decide (7 < p.kind) ||
        decide (8 < p.fmt) || p.gran == 3 || p.upd == 3 || (p.kind == 7 && decide (16383 < p.sigClap))) ++
    eachOp code (fun _ m => m.rsvd != 0 || (microSrcs m.op).isNone || m.src.any (fun x => decide (11 < x)) ||
      m.dst == 6 || m.dst == 7 || decide (11 ≤ m.dst) || (m.imm != 0 && !m.src.contains 11))
/-- PCHECK 4. -/
def pLength (len : Nat) (code : List MicroOp) : List (Bool × Nat) :=
  [(len == 0 || decide (64 < len), 0)] ++ eachOp code (fun k m => m.fin != (k + 1 == len))
/-- PCHECK 5: selectors that the role forbids. -/
def pSelect (b : OpBlock) (role : OpKind) (bd : BitVec 1024) (code : List MicroOp) : List (Bool × Nat) :=
  let grade := role == .grade
  let dsts (l : List MicroOp) : List Nat := l.filterMap (fun m => if 8 ≤ m.dst then some m.dst else none)
  [((!grade && decide (1 < (mmaF b).passes)) || (!grade && bPostOff bd != 0), 0)] ++
    eachOp code (fun k m =>
      let n := (microSrcs m.op).getD 0
      let w := typesAfter b role bd (code.take k)
      m.src.zipIdx.any (fun y =>
        let sel := y.1
        (decide (n ≤ y.2) && sel != 0) || (decide (y.2 < n) && sel == 0) ||
          ((sel == 6 || sel == 7) && !grade) || (sel == 6 && fld b 366 20 == 0) || (sel == 7 && fld b 393 20 == 0) ||
          (decide (8 ≤ sel) && decide (sel ≤ 10) && !([1, 2, 3].contains (portOf bd (sel - 8)).kind)) ||
          (decide (8 ≤ sel) && decide (sel ≤ 10) && (dsts code).contains sel) ||
          (decide (2 ≤ sel) && decide (sel ≤ 5) && w.getD (sel - 2) 0 == 0)) ||
      (m.dst == 0 && !m.red) || (m.dst == 1 && grade) || (!grade && m.red) ||
      (decide (8 ≤ m.dst) && (!grade || !([4, 5, 6, 7].contains (portOf bd (m.dst - 8)).kind) || (dsts (code.take k)).contains m.dst)))
/-- The result type of micro-op k of a code. -/
def opType (b : OpBlock) (role : OpKind) (bd : BitVec 1024) (code : List MicroOp) (k : Nat) (m : MicroOp) : Nat :=
  resType m.op m.dst (srcType b role bd (typesAfter b role bd (code.take k)) (opIsInt m.op 0) (m.src.getD 0 0))
/-- PCHECK 6: types and formats. -/
def pTypes (b : OpBlock) (role : OpKind) (bd : BitVec 1024) (code : List MicroOp) : List (Bool × Nat) :=
  eachPort bd (fun i p => (p.kind != 0 && (p.fmt == 0 || (isNibFmt p.fmt && (p.kind == 2 || p.kind == 3 || p.kind == 6)))) ||
      (decide (4 ≤ p.kind) && p.upd != 0 && code.zipIdx.any (fun x => x.1.dst == 8 + i && opType b role bd code x.2 x.1 == 4))) ++
    eachOp code (fun k m =>
      (List.range ((microSrcs m.op).getD 0)).any (fun i =>
        !typeOk m.op i (srcType b role bd (typesAfter b role bd (code.take k)) (opIsInt m.op i) (m.src.getD i 0))))
/-- PCHECK 7: the reduction. -/
def pRed (b : OpBlock) (role : OpKind) (bd : BitVec 1024) (code : List MicroOp) : List (Bool × Nat) :=
  let reds := code.any (fun m => m.red)
  [((reds && (bRedOp bd == 0 || bStatOff bd == 0)) || (!reds && bRedOp bd != 0), 0)] ++
    eachOp code (fun k m => m.red && ((code.take k).any (fun y => y.red) || (bRedOp bd == 2 && opType b role bd code k m == 4)))
/-- PCHECK 8: addresses, steps and windows; an element without rows or columns has no extent. -/
def pExtent (s : State) (c : Fin 8) (b : OpBlock) (role : OpKind) (bd : BitVec 1024) : List (Bool × Nat) :=
  let sh := progShape b role
  eachPort bd (fun _ p =>
    let a := fmtAlign p.fmt
    let size := if p.kind = 5 then rlSize s c p.reel else 64 * p.win
    p.kind != 0 && (p.addr % 64 != 0 || p.pitch % a != 0 || p.estep % a != 0 ||
      (sh.1 != 0 && sh.2 != 0 && (edgeElems b).any (fun e => !inWindow (portExt p sh.1 sh.2 e) size)) ||
      (p.kind != 5 && p.kind != 7 && !(inSp c p.addr size || (paired s && inSp (mirrorOf c) p.addr size))))) ++
    [(bRedOp bd != 0 && (edgeElems b).any (fun e => !inSpI (statOff bd e) (statOff bd e + statBytes bd sh.1 sh.2)), 0),
     (bPostOff bd != 0 && (edgeElems b).any (fun e => !inSpI (postOff bd e) (postOff bd e + 64)), 0)]
/-- PCHECK 9: sends and reels. -/
def pRemote (s : State) (c : Fin 8) (bd : BitVec 1024) : List (Bool × Nat) :=
  eachPort bd (fun _ p =>
    (p.kind == 7 && (unnumbered s || modulePart p.addr == modNum s || decide (2 ^ 63 ≤ p.addr))) ||
      (p.kind != 7 && (p.sigClap != 0 || p.sigInc != 0)) || (p.kind == 5 && rlConsumer s c p.reel == 0)) ++
    [(bPostOff bd != 0 && rlConsumer s c (bPostReel bd) == 0, 0)]

/-- The PCHECK value and the local address of the first offending granule of a malformed program (R268; which granule offends where two fields do not
agree, log entry 110). -/
def progCheck (s : State) (c : Fin 8) (b : OpBlock) (role : OpKind) : Option (Nat × Nat) :=
  let ba := refByte (progRef b role)
  if spSize < ba + 128 then some (1, spBase c + ba)
  else
    let bd := readBinding s c (progRef b role)
    let ca := 64 * bCodeOff bd
    let code := (readCode s c bd).map microOf
    if spSize < ca + 8 * bCodeLen bd then some (1, spBase c + max ca spSize)
    else
      let badG (a n : Nat) : Option Nat := ((List.range ((n + 63) / 64)).find? (fun i => granBad s ((spBase c + a) / 64 + i))).map (fun i => spBase c + a / 64 * 64 + 64 * i)
      match badG ba 128, badG ca (8 * bCodeLen bd) with
      | some a, _ => some (2, a)
      | none, some a => some (2, a)
      | none, none =>
        firstSome (fun x => (firstGran x.2).map (fun g => (x.1, if g < 2 then spBase c + ba + 64 * g else spBase c + ca + 64 * (g - 2))))
          [(3, pReserved bd code), (4, pLength (bCodeLen bd) code), (5, pSelect b role bd code), (6, pTypes b role bd code),
           (7, pRed b role bd code), (8, pExtent s c b role bd), (9, pRemote s c bd)]

end Sys2Proof.Machine
end

