-- ==== Sys2Proof/Machine/VecDef.lean ====
section
/-! DEFINITION. Machine/VecDef.lean: the fields of VEC and RED blocks (R206-R208, R343-R346), their operands' extents, and which VQ operations
conflict (R232). -/

namespace Sys2Proof.Machine

/-- An operand slot (R344). -/
structure VSlot where
  kind : Nat
  fmt : Nat
  off : Nat
  pitch : Int
  imm : Nat
deriving DecidableEq, Repr

/-- The source slot at bit lo. -/
def srcSlot (b : OpBlock) (lo : Nat) : VSlot :=
  { kind := fld b (lo + 41) 3, fmt := fld b (lo + 37) 4, off := fld b (lo + 16) 21, pitch := sfld b lo 16, imm := fld b lo 32 }
/-- The destination slot. -/
def dstSlot (b : OpBlock) : VSlot :=
  { kind := fld b 283 1, fmt := fld b 279 4, off := fld b 258 21, pitch := sfld b 242 16, imm := 0 }
/-- Fields of a VEC or RED block (R343). -/
def vOp (b : OpBlock) : Nat := fld b 112 8
def vStrict (b : OpBlock) : Bool := fld b 120 1 == 1
def vSat (b : OpBlock) : Bool := fld b 121 1 == 1
def vRows (b : OpBlock) : Nat := fld b 122 16
def vCols (b : OpBlock) : Nat := fld b 138 16
def vMask (b : OpBlock) : Nat := fld b 298 2
def vFill (b : OpBlock) : Nat := fld b 300 2
def vMaskOff (b : OpBlock) : Nat := 64 * fld b 302 21
def vMaskPitch (b : OpBlock) : Int := 64 * sfld b 323 16
def vRedOp (b : OpBlock) : Nat := fld b 352 3
def vRedDir (b : OpBlock) : Nat := fld b 355 1
def vRedStored (b : OpBlock) : Bool := fld b 356 1 == 1
def vRedAccum (b : OpBlock) : Bool := fld b 357 1 == 1
def vRedOff (b : OpBlock) : Nat := 64 * fld b 358 21
def vSrcReelEn (b : OpBlock) : Bool := fld b 284 1 == 1
def vSrcReelOp (b : OpBlock) : Nat := fld b 285 2
def vSrcReel (b : OpBlock) : Nat := fld b 287 5
def vDstReelEn (b : OpBlock) : Bool := fld b 292 1 == 1
def vDstReel (b : OpBlock) : Nat := fld b 293 5
/-- Form B of the body (R343, R345). -/
def vBand (b : OpBlock) : Bool := decide (2 ≤ vMask b)
/-- RED_IDX_BIAS: 0 in form B (R345). -/
def vBias (b : OpBlock) : Nat := if vBand b then 0 else fld b 470 32
/-- An absent slot. -/
def noSlot : VSlot := { kind := 0, fmt := 0, off := 0, pitch := 0, imm := 0 }
/-- The three source slots; form B has no SRC2 (R345). -/
def vSrcs (b : OpBlock) : List VSlot := [srcSlot b 154, srcSlot b 198, if vBand b then noSlot else srcSlot b 384]
/-- The view is empty (R211). -/
def vEmpty (b : OpBlock) : Bool := vRows b == 0 || vCols b == 0

/-- The number of sources of the operation: RED reads SRC0. -/
def vSrcCount (red : Bool) (b : OpBlock) : Nat := if red then 1 else ((opInfo (vOp b)).map (fun x => x.2)).getD 0
/-- The result type of the operation (R214, R219): the source's format for CVT, INT32 for integer operations and comparisons, else
FP32. -/
def vResFmt (b : OpBlock) : Nat :=
  if vOp b = 1 then (srcSlot b 154).fmt
  else if 0x10 ≤ vOp b ∧ vOp b ≤ 0x13 then 4
  else match opInfo (vOp b) with
    | some (3, _) => 4
    | _ => 1
/-- The conversion fields (R84, R224). -/
def vCvt (b : OpBlock) : CvtP :=
  { src := if vOp b = 1 ∧ (srcSlot b 154).kind = 5 then 1 else vResFmt b, dst := (dstSlot b).fmt, round := fld b 339 2, sat := fld b 341 1 == 1,
    mode := fld b 342 2, gran := fld b 344 2, addr := if vBand b then 0 else 64 * fld b 428 21, reg := fld b 346 4, upd := fld b 350 2,
    out := if vBand b then 0 else 64 * fld b 449 21 }

/-! Extents. -/

/-- The extent of an operand from its base (R207), given its kind, format and pitch in bytes. -/
def vExtent (b : OpBlock) (kind fmt : Nat) (pitch : Int) : Int × Int :=
  match kind with
  | 1 => extent 0 (vCols b) (fmtBits fmt) [(vRows b, pitch)]
  | 2 => extent 0 (vRows b) (fmtBits fmt) []
  | 3 => extent 0 (vCols b) (fmtBits fmt) []
  | _ => extent 0 1 (fmtBits fmt) []
/-- The extents of an operation in its scratchpad: operand number, reel (if its window is a slot), low and high byte offset, and
whether it writes (R232, R237). -/
def vExtents (red : Bool) (b : OpBlock) : List (Nat × Option Nat × Int × Int × Bool) :=
  let p := vCvt b
  let src := (vSrcs b).zipIdx.filterMap (fun x =>
    if x.2 < vSrcCount red b ∧ x.1.kind ≠ 0 ∧ x.1.kind ≠ 5 then
      let e := vExtent b x.1.kind x.1.fmt (64 * x.1.pitch)
      let reel := vSrcReelEn b && vSrcReelOp b == x.2
      let o : Int := if reel then 0 else 64 * x.1.off
      some (x.2, if reel then some (vSrcReel b) else none, o + e.1, o + e.2, false)
    else none)
  let d := dstSlot b
  let dst := if !red && d.kind == 1 then
      let e := vExtent b 1 d.fmt (64 * d.pitch)
      let o : Int := if vDstReelEn b then 0 else 64 * d.off
      [(3, if vDstReelEn b then some (vDstReel b) else none, o + e.1, o + e.2, true)]
    else []
  let mask := if vMask b = 1 ∨ vMask b = 3 then
      let e := extent 0 (vCols b) 1 [(vRows b, vMaskPitch b)]
      [(4, none, (vMaskOff b : Int) + e.1, (vMaskOff b : Int) + e.2, false)]
    else []
  let n : Nat := 4 * entryCount p.gran (vRows b) (vCols b)
  let scale := if !red && d.kind == 1 then
      (if p.mode = 1 then [(5, none, (p.addr : Int), (p.addr : Int) + n, false)] else []) ++
        (if p.mode ≠ 0 ∧ p.out ≠ 0 then [(5, none, (p.out : Int), (p.out : Int) + n, true)] else [])
    else []
  let red' := if vRedOp b ≠ 0 then
      let n : Nat := redSize (vRedOp b) * (if vRedDir b = 0 then vRows b else vCols b)
      [(6, none, (vRedOff b : Int), (vRedOff b : Int) + n, true)]
    else []
  src ++ dst ++ mask ++ scale ++ red'

/-- A range of local addresses, and whether it counts as written (R232). -/
abbrev Span := Int × Int × Bool
/-- Two lists of ranges conflict: a written range of one overlaps a range of the other (R232). -/
def spansMeet (l m : List Span) : Bool := l.any (fun a => m.any (fun b => (a.2.2 || b.2.2) && decide (a.1 < b.2.1) && decide (b.1 < a.2.1)))
/-- The ranges of a VEC or RED in flight (R232): reel slots count as written. -/
def vecSpans (s : State) (c : Fin 8) (e : QEntry) : List Span :=
  (vExtents (e.kind == .red) e.blk).map (fun z =>
    let o : Int := match z.2.1 with
      | some r => slotAddr s c r (if z.1 = 3 then e.dslot.getD 0 else e.slot.getD 0)
      | none => spBase c
    (o + z.2.2.1, o + z.2.2.2.1, z.2.2.2.2 || z.2.1.isSome))
/-- The range from the lowest to the highest byte that f gives over every element of an MMA (R232; one range, log entry 111). -/
def overElems (b : OpBlock) (base : Int) (f : Nat → Int × Int) (write : Bool) : List Span :=
  match (edgeElems b).map f with
  | [] => []
  | x :: t => [(base + t.foldl (fun m y => min m y.1) x.1, base + t.foldl (fun m y => max m y.2) x.2, write)]
/-- The ranges with which a prep or grade slot counts (R232). -/
def slotSpans (c : Fin 8) (b : OpBlock) (role : OpKind) (bd : BitVec 1024) : List Span :=
  let sh := progShape b role
  if mmaEmpty b || sh.1 == 0 || sh.2 == 0 then []
  else
    (List.range 3).flatMap (fun i =>
      let p := portOf bd i
      if p.kind = 0 ∨ p.kind = 5 ∨ p.kind = 7 then [] else overElems b p.addr (portExt p sh.1 sh.2) (decide (4 ≤ p.kind))) ++
    (if bRedOp bd ≠ 0 then overElems b (spBase c) (fun e => (statOff bd e, statOff bd e + statBytes bd sh.1 sh.2)) true else []) ++
    (if bPostOff bd ≠ 0 then overElems b (spBase c) (fun e => (postOff bd e, postOff bd e + 64)) true else []) ++
    (if role = .grade then [(366, 386), (393, 413)].flatMap (fun x =>
      if fld b x.1 20 = 0 then [] else overElems b (spBase c) (fun e => ((vecRef b x.1 x.2 e : Int), (vecRef b x.1 x.2 e : Int) + 2048)) false) else [])
/-- The checks of a slot's MMA have been made, and no earlier VQ operation whose ranges conflict with the slot's is unfinished (R232). -/
def slotReady (s : State) (c : Fin 8) (e : QEntry) : Bool :=
  match s.cl[c].progs.find? (fun p => p.mma == e.mma && p.role == e.kind) with
  | some pg => !s.cl[c].flights.any (fun f => (f.e.kind == .vec || f.e.kind == .red) && decide (f.e.id < e.id) && spansMeet (vecSpans s c f.e) (slotSpans c e.blk e.kind pg.bind))
  | none => false
/-- What grade programs of MMAs before operation id have still to post and to commit: their post records and reel slots (R260, R261). -/
def gradeLeft (s : State) (c : Fin 8) (id : Nat) : List Span :=
  s.cl[c].mma.flatMap (fun r =>
    match s.cl[c].progs.find? (fun p => p.mma == r.id && p.role == .grade) with
    | some pg => if id ≤ r.id then [] else r.units.flatMap (fun u =>
        u.posts.map (fun i => ((spBase c : Int) + postOff pg.bind i, (spBase c : Int) + postOff pg.bind i + 64, true)) ++
          u.slots.map (fun y => ((slotAddr s c y.2.1 y.2.2 : Int), (slotAddr s c y.2.1 y.2.2 : Int) + rlSize s c y.2.1, true)))
    | none => [])

end Sys2Proof.Machine
end

