-- ==== Sys2Proof/Machine/Matrix.lean ====
section
/-! DEFINITION. Machine/Matrix.lean: the matrix array (R179-R204): the checks of an MMA, its elements through the pipeline, residue
verdicts, the pair comparison (R264, R451) and the drain. -/

namespace Sys2Proof.Machine

/-! Checks. -/

/-- The accumulator format of an MMA (R182). -/
def accFmt (b : OpBlock) : Nat := if isFloatFmt (mmaF b).aFmt then 1 else 4
/-- A pair of R182. -/
def pairOk (f : MmaF) : Bool :=
  ((f.aFmt == 2 || f.aFmt == 3) && (f.bFmt == 2 || f.bFmt == 3)) || (isSmallInt f.aFmt && isSmallInt f.bFmt)
/-- The ELEMENT field of DETAIL (R194). -/
def elemNo (i : Nat) : Nat := min i 0xFFFF
/-- DETAIL of an MMA fault (R194). -/
def mmaDet (check side elem : Nat) : Nat := check + 256 * side + 65536 * elemNo elem
/-- The scale and rescale references that element i uses; the rescale vector only where it is read (R105, R185, R188, R189). -/
def vecRefs (b : OpBlock) (i : Nat) : List Nat :=
  let f := mmaF b
  (if f.resc && f.accum && (!f.chain || i == 0) && f.m != 0 && f.n != 0 && f.k != 0 then [vecRef b 339 359 i] else []) ++ (if fld b 366 20 ≠ 0 then [vecRef b 366 386 i] else []) ++
    (if fld b 393 20 ≠ 0 then [vecRef b 393 413 i] else [])

/-- The first element for which p holds. -/
def badElem (b : OpBlock) (p : Nat → Bool) : Option Nat := (elems b).find? p
/-- A configured register with the wrong format (R193, CHECK 1). -/
def fmtBadAt (s : State) (c : Fin 8) (r : Int) (fmt : Nat) : Bool :=
  decide (0 ≤ r) && decide (r < 8) && (treg s c r.toNat).fmt != 0 && (treg s c r.toNat).fmt != fmt
/-- A mid or lo register that does not match its hi register (R193, CHECK 1). -/
def planeBadAt (s : State) (c : Fin 8) (r : Int) (n : Nat) : Bool :=
  (regRun r n).any (fun x => let t := treg s c x
    t.fmt != 0 && (t.fmt != 2 || (decide (0 ≤ r) && (treg s c r.toNat).fmt != 0 && decide (curCfg t ≠ curCfg (treg s c r.toNat)))))
/-- A register code outside T0-T7 for an operand or its mid and lo planes (R192). -/
def codeBad (r : Int) (n : Nat) : Bool := decide (r < 0) || decide (8 < r + n)
/-- A region of an operand, in every plane, outside its register. -/
def opndBad (s : State) (c : Fin 8) (r : Int) (n : Nat) (o : Int × Int) (rows cols : Nat) : Bool :=
  (regRun r n).any (fun x => !inReg (treg s c x) o.1 o.2 rows cols)
/-- A vector reference outside the scratchpad or one protection region (R189). -/
def refBad (s : State) (c : Fin 8) (a : Nat) : Bool :=
  !(inSp c (spBase c + a) 2048 && protOk s (partOf s c) (spBase c + a) 2048 false)

/-- The programs of an MMA, read and bound (R242). -/
def bindProgs (s : State) (c : Fin 8) (b : OpBlock) (id : Nat) : List Prog :=
  (progRoles b).map (fun r => let bd := readBinding s c (progRef b r); { mma := id, role := r, bind := bd, code := readCode s c bd })

/-- The first failing position 1-4 of R193: code, ADDR, DETAIL, PCHECK. -/
def mmaCheck (s : State) (c : Fin 8) (b : OpBlock) : Option (Nat × Nat × Nat × Nat) :=
  let f := mmaF b
  let one (side : Nat) (e : Option Nat) (code check : Nat) : Option (Nat × Nat × Nat × Nat) := e.map (fun i => (code, 0, mmaDet check side i, 0))
  let whole (bad : Bool) (code check side : Nat) : Option (Nat × Nat × Nat × Nat) := if bad then some (code, 0, mmaDet check side 0xFFFF, 0) else none
  let wide : Bool := decide (256 < f.m) || decide (256 < f.n)
  let qBad (i : Nat) : Bool :=
    let o := cOrgQ b i
    f.qs && (wide ||
      (f.m != 0 && f.n != 0 && (decide (o.1 < 0) || decide (o.2 < 0) || decide (256 < o.1 + f.m) || decide (256 < o.2 + f.n))))
  firstSome (fun x => x) [
    whole (hBad b || fld b 511 1 == 1 || fld b 185 4 == 8 || fld b 189 4 == 8 || (fld b 480 1 == 1 && fld b 495 16 == 0) ||
      decide (8 < f.aFmt) || decide (8 < f.bFmt) || !pairOk f) 3 1 6,
    one 0 (badElem b (fun i => fmtBadAt s c (aReg b i) f.aFmt)) 3 1,
    one 1 (badElem b (fun i => fmtBadAt s c (bReg b i) f.bFmt)) 3 1,
    one 2 (badElem b (fun i => (treg s c (planeOf b i)).fmt != 0 && (treg s c (planeOf b i)).fmt != accFmt b)) 3 1,
    whole (f.passes == 0 || (decide (1 < f.passes) && !(f.aFmt == 2 && f.bFmt == 2))) 3 1 6,
    one 0 (badElem b (fun i => decide (1 < f.passes) && planeBadAt s c (aReg b i) f.passes)) 3 1,
    one 1 (badElem b (fun i => decide (1 < f.passes) && planeBadAt s c (bReg b i) f.passes)) 3 1,
    whole (f.resc && !isFloatFmt f.aFmt) 3 1 6,
    whole (f.chain && (f.qs || f.alt || anySet b [(319, 10), (329, 10)])) 3 1 6,
    firstSome (fun r => (progCheck s c b r).map (fun x => (14, x.2, mmaDet 2 4 0xFFFF, x.1))) (progRoles b),
    whole (decide (512 < f.m) || decide (512 < f.n) || decide (8192 < f.k)) 1 3 6,
    whole (f.qs && wide && f.batch == 0) 1 3 2,
    one 2 (badElem b qBad) 1 3,
    one 0 (badElem b (fun i => codeBad (aReg b i) f.passes || opndBad s c (aReg b i) f.passes (aOrg b i) f.m f.k)) 1 3,
    one 1 (badElem b (fun i => codeBad (bReg b i) f.passes || opndBad s c (bReg b i) f.passes (bOrg b i) f.k f.n)) 1 3,
    one 2 (badElem b (fun i => !inReg (treg s c (planeOf b i)) (cOrg b i).1 (cOrg b i).2 f.m f.n)) 1 3,
    (badElem b (fun i => (vecRefs b i).any (refBad s c))).map (fun i =>
      (6, spBase c + ((vecRefs b i).find? (refBad s c)).getD 0, mmaDet 4 3 i, 0))]

/-- The checks of an MMA fail: its fault is raised (R193, R268). -/
def mmaFail (s : State) (c : Fin 8) (e : QEntry) (x : Nat × Nat × Nat × Nat) : State :=
  let s1 := if x.1 = 14 then cset s c 0x4052 0 x.2.2.2 else s
  raiseF s1 { opRep s1 c e x.1 x.2.1 x.2.2.1 with engine := 1 }

/-! Dispatch. -/

/-- The array takes no further MMA while one is being fed (R180). -/
def arrayBusy (k : Cluster) : Bool :=
  k.mma.any (fun r => match k.flights.find? (fun f => f.e.id == r.id) with
    | some f => decide (r.next < mmaUnits f.e.blk)
    | none => false)
/-- An MMA dispatches with its checks made and its programs bound (R180, R191): an empty one performs its signal and ends, with
its grade slot. -/
def mmaStart (s : State) (c : Fin 8) (e : QEntry) : State :=
  let s1 := cbump s c 0x4031 1 1
  if mmaEmpty e.blk then
    opSignal (modC s1 c (fun k => { k with vq := k.vq.filter (fun x => !(x.kind == .grade && x.mma == e.id)), progs := k.progs.filter (fun p => p.mma != e.id) })) c e
  else
    modC s1 c (fun k => { k with flights := k.flights ++ [newFlight e RangeReg.reset false], mma := k.mma ++ [{ id := e.id, next := 0, units := [] }] })

/-! Elements. -/

/-- The value of an operand element under the MATRIX flush mode. -/
def opndV (s : State) (c : Fin 8) (flush : Bool) (r i j : Nat) : FVal × Flags := let t := treg s c r; elemV flush t.fmt (t.at i j)
/-- The dot product at (r, j) of element i (R100-R115, R188): start is the accumulator it continues, if any. -/
def dotAt (s : State) (c : Fin 8) (b : OpBlock) (i r j : Nat) (start : Option Nat) : Nat × Flags :=
  let f := mmaF b
  let flush := flushOf s c 1
  let ao := aOrg b i
  let bo := bOrg b i
  let ar := (aReg b i).toNat
  let br := (bReg b i).toNat
  let row := ao.1.toNat + r
  let col := bo.2.toNat + j
  if isFloatFmt f.aFmt then
    let pass (pa pb : Nat) := (List.range f.k).map (fun k =>
      (opndV s c flush (ar + pa) row (ao.2.toNat + k), opndV s c flush (br + pb) (bo.1.toNat + k) col))
    let ps := (passList f.passes).map (fun x => (x != (0, 0), pass x.1 x.2))
    let fz := ps.foldl (fun a p => p.2.foldl (fun a q => a ||| q.1.2 ||| q.2.2) a) (0#8)
    let init := start.map (fun v => accInit flush v
      (if f.resc && f.accum && decide (i = 0 ∨ ¬ f.chain) then some (rdLE s (spBase c + vecRef b 339 359 i + 4 * r) 4) else none))
    if f.k = 0 ∧ start.isSome then (start.getD 0, 0#8)
    else
      let d := dotF flush init (ps.map (fun p => (p.1, p.2.map (fun q => (q.1.1, q.2.1)))))
      (d.1, d.2 ||| fz)
  else
    let l := (List.range f.k).map (fun k =>
      (intOf f.aFmt ((treg s c ar).at row (ao.2.toNat + k)), intOf f.bFmt ((treg s c br).at (bo.1.toNat + k) col)))
    let d := dotI f.sat (start.map s32) l
    (u32 d.1, d.2)

/-- The accumulators of element i, row by row, with the flags raised; prev gives the accumulators of the chain's element
before (R185). -/
def elemRun (s : State) (c : Fin 8) (b : OpBlock) (i : Nat) (prev : Option (List (List Nat))) : List (List Nat) × Flags :=
  let f := mmaF b
  let o := cOrg b i
  let cells := (List.range f.m).map (fun r => (List.range f.n).map (fun j =>
    dotAt s c b i r j (match prev with
      | some p => some ((p.getD r []).getD j 0)
      | none => if f.accum then some ((treg s c (planeOf b i)).at (o.1.toNat + r) (o.2.toNat + j)) else none)))
  (cells.map (fun l => l.map (fun x => x.1)), cells.foldl (fun a l => l.foldl (fun a x => a ||| x.2) a) (0#8))

/-- The side of the first poisoned source of element i (R193, position 5). -/
def elemPoison (s : State) (c : Fin 8) (b : OpBlock) (i : Nat) : Option Nat :=
  let f := mmaF b
  let bad (r : Int) (o : Int × Int) (rows cols : Nat) : Bool :=
    (regRun r f.passes).any (fun x => (treg s c x).anyBad o.1.toNat o.2.toNat rows cols)
  firstBad [(bad (aReg b i) (aOrg b i) f.m f.k, 0), (bad (bReg b i) (bOrg b i) f.k f.n, 1),
    (f.accum && (!f.chain || i == 0) && (treg s c (planeOf b i)).anyBad (cOrg b i).1.toNat (cOrg b i).2.toNat f.m f.n, 2),
    (f.accum && f.resc && f.k != 0 && (!f.chain || i == 0) && anyBad s (spBase c + vecRef b 339 359 i) (4 * f.m), 3)]

/-- The output regions of two elements overlap. -/
def outOverlap (b : OpBlock) (i j : Nat) : Bool :=
  let f := mmaF b
  let p := cOrg b i
  let q := cOrg b j
  planeOf b i == planeOf b j && decide (p.1 < q.1 + f.m) && decide (q.1 < p.1 + f.m) && decide (p.2 < q.2 + f.n) && decide (q.2 < p.2 + f.n)
/-- The MMA names a grade program. -/
def hasGrade (b : OpBlock) : Bool := fld b 460 20 != 0
/-- An earlier unit in the pipeline holds back unit u (R187). -/
def unitHeld (b : OpBlock) (r : MmaRun) (u : Nat) : Bool :=
  !(mmaF b).chain && r.units.any (fun x =>
    (unitElems b x.u).any (fun i => (unitElems b u).any (fun j => outOverlap b i j)) &&
      (((mmaF b).accum && decide (x.stage < 2)) || (hasGrade b && decide (x.stage < 4))))

/-- The output region of element i becomes undefined (R195), that of an element after the failing one in its QSPLIT group too (log entry 107). -/
def undefRegion (s : State) (c : Fin 8) (b : OpBlock) (i : Nat) : State :=
  undefReg s c (planeOf b i) (cOrg b i).1.toNat (cOrg b i).2.toNat (mmaF b).m (mmaF b).n
/-- The MMA ends with a fault (R195): no further unit is fed, the units from u on leave the pipeline, the regions of the elements from i on
become undefined, and its own signal is never performed. -/
def abandonMma (s : State) (c : Fin 8) (id u i : Nat) (b : OpBlock) : State :=
  let s1 := modC s c (fun k => { k with mma := mapIf (fun r => r.id == id) (fun r => { r with next := mmaUnits b, units := r.units.filter (fun x => decide (x.u < u)) }) k.mma })
  modFlight (((elems b).filter (fun j => decide (i ≤ j))).foldl (fun s j => undefRegion s c b j) s1) c id (fun x => { x with phase := 9 })

/-- The state with f applied to unit u of MMA id. -/
def modUnit (s : State) (c : Fin 8) (id u : Nat) (f : MmaUnit → MmaUnit) : State :=
  modC s c (fun k => { k with mma := mapIf (fun r => r.id == id) (fun r => { r with units := mapIf (fun x => x.u == u) f r.units }) k.mma })

/-- The unit's element whose outputs are graded and signalled: the last of a chain (R185). -/
def chainLast (b : OpBlock) (u : Nat) : Bool := !(mmaF b).chain || u + 1 == (mmaF b).batch

/-- MMA_ELEMENT_START (R183-R187, R197): the first slice of the next unit enters; its operands are read, and the pending reads of
registers that no later unit uses end. parity names a 32-bit word of a register found in error (R159): code · 2^26 + row · 8192 + word. -/
def mmaElementStart (s : State) (c : Fin 8) (parity : Option Nat) : State :=
  let k := s.cl[c]
  let cand := k.mma.findSome? (fun r => match k.flights.find? (fun f => f.e.id == r.id) with
    | some f => if r.next < mmaUnits f.e.blk then some (r, f) else none
    | none => none)
  match cand with
  | none => s
  | some (r, fl) =>
    let b := fl.e.blk
    let u := r.next
    let modeHeld := k.mma.any (fun x => decide (x.id < r.id) && (match k.flights.find? (fun f => f.e.id == x.id) with
      | some f => (mmaF f.e.blk).qs != (mmaF b).qs && x.units.any (fun y => decide (y.stage < 2))
      | none => false))
    if unitHeld b r u || modeHeld then s
    else
      let s0 := match parity with
        | some x =>
          if (rdSet fl.e).contains (x / 2 ^ 26) then tileParity s c (x / 2 ^ 26) (some (x % 2 ^ 26)) else s
        | none => s
      let es := unitElems b u
      match es.findSome? (fun i => (elemPoison s0 c b i).map (fun side => (i, side))) with
      | some (i, side) => raiseF (abandonMma s0 c fl.e.id u i b) (opRep s0 c fl.e 7 0 (mmaDet 5 side i))
      | none =>
        let prev := if (mmaF b).chain && u != 0 then (r.units.head?).bind (fun x => (x.res.head?).map (fun y => y.2)) else none
        let runs := es.map (fun i => (i, elemRun s0 c b i prev))
        let fl0 := if (mmaF b).chain then ((r.units.head?).map (fun x => x.flags)).getD 0 else 0
        let unit : MmaUnit :=
          { u := u, res := runs.map (fun x => (x.1, x.2.1)), flags := runs.foldl (fun a x => a ||| x.2.2.toNat) fl0,
            stage := if chainLast b u then 1 else 0, bad := false, drained := [], outst := 0, paired := false, slots := [], sigs := [], posts := [] }
        let s1 := modC s0 c (fun k => { k with mma := mapIf (fun x => x.id == r.id) (fun x =>
          { x with next := u + 1, units := (if (mmaF b).chain then [] else x.units) ++ [unit] }) k.mma })
        modFlight s1 c fl.e.id (fun x => { x with rd := aRegs b (u + 1) ++ bRegs b (u + 1) ++ x.rd.filter (fun g => decide (8 ≤ g)) })

/-- The first unit in the array at a stage, with its flight. -/
def unitAt (k : Cluster) (p : OpBlock → MmaUnit → Bool) : Option (Flight × MmaUnit) :=
  k.mma.findSome? (fun r => match k.flights.find? (fun f => f.e.id == r.id) with
    | some f => (r.units.find? (p f.e.blk)).map (fun u => (f, u))
    | none => none)

/-- The committed rows of a unit in its planes (R159, R179). -/
def commitUnit (s : State) (c : Fin 8) (b : OpBlock) (u : MmaUnit) : State :=
  u.res.foldl (fun s x =>
    let o := cOrg b x.1
    let t := treg s c (planeOf b x.1)
    putReg s c (planeOf b x.1) (t.write o.2.toNat (mmaF b).n
      (x.2.zipIdx.flatMap (fun row => row.1.zipIdx.map (fun v => (o.1.toNat + row.2, o.2.toNat + v.2, v.1, false)))))) s
/-- Every granule of element i's region is poisoned (R202). -/
def poisonElem (s : State) (c : Fin 8) (b : OpBlock) (i : Nat) : State :=
  let o := cOrg b i
  let t := treg s c (planeOf b i)
  let gs := (List.range (mmaF b).m).flatMap (fun r => ((List.range (mmaF b).n).map (fun j => (o.1.toNat + r) * 8192 + granOfCol t.fmt (o.2.toNat + j))).eraseDups)
  putReg s c (planeOf b i) { t with poison := gs.foldl (fun m g => mset false m g true) t.poison }

/-- A unit is complete under R48 and R190. -/
def unitDone (s : State) (b : OpBlock) (u : MmaUnit) : Bool :=
  decide ((if hasGrade b then 5 else 3) ≤ u.stage) && !u.bad && u.outst == 0 && u.slots.isEmpty && u.sigs.isEmpty && u.posts.isEmpty && (!paired s || u.paired)
/-- ELEMENT_SIGNAL (R190): the element signals of a unit; one for a chain. -/
def elemSignals (s : State) (c : Fin 8) (fl : Flight) (u : MmaUnit) : State :=
  let b := fl.e.blk
  if fld b 480 1 = 1 then u.res.foldl (fun s x => sendSignal s c (opRep s c fl.e 0 0 (mmaDet 0 6 x.1)) fl.e.id 1 (fld b 481 14) (fld b 495 16)) s
  else s
/-- The leading complete units of an MMA perform their element signals in batch order; after the last the MMA performs its own
and retires (R48, R190). n bounds the units. -/
def finishMma (s : State) (c : Fin 8) (fl : Flight) : Nat → State
  | 0 => s
  | n + 1 =>
    match s.cl[c].mma.find? (fun r => r.id == fl.e.id) with
    | none => s
    | some r =>
      match r.units with
      | [] =>
        if r.next = mmaUnits fl.e.blk ∧ fl.phase ≠ 9 then
          dropFlight (opSignal (modC s c (fun k => { k with mma := k.mma.filter (fun x => x.id != r.id), progs := k.progs.filter (fun p => p.mma != r.id) })) c fl.e) c r.id
        else s
      | u :: t =>
        if unitDone s fl.e.blk u then
          finishMma (elemSignals (modC s c (fun k => { k with mma := mapIf (fun x => x.id == r.id) (fun x => { x with units := t }) k.mma })) c fl u) c fl n
        else s
/-- The units of MMA id are finished as far as possible. -/
def finishUnits (s : State) (c : Fin 8) (fl : Flight) : State :=
  match flightOf s c fl.e.id with
  | some f => finishMma s c f (mmaUnits fl.e.blk + 1)
  | none => s

/-- The MMA's pending write of a plane ends with the verdict of its last unit there (R52): the planes of the units after u stay pending. -/
def endPlaneWrite (s : State) (c : Fin 8) (fl : Flight) (u : Nat) : State :=
  let more := (((elems fl.e.blk).filter (fun i => decide (u < grpOf fl.e.blk i))).map (planeOf fl.e.blk)).eraseDups
  modFlight s c fl.e.id (fun x => { x with wr := more, rd := x.rd.filter (fun g => decide (g < 8) || more.contains g) })

/-- The counter and the incident class of a failing check: residue (side 5), drain parity (side 2), operand parity. -/
def failCount (side : Nat) : Nat × Nat := if side = 5 then (1, 1) else if side = 2 then (3, 2) else (2, 2)
/-- The checks of elements of unit u fail (R202, R203), each given with its side 0, 1, 2 or 5 and whether it was injected: their regions are
poisoned, the faults counted and raised, and the elements after the first of them are abandoned (R195). -/
def failUnit (s : State) (c : Fin 8) (fl : Flight) (u : MmaUnit) (bad : List (Nat × Nat × Bool)) : State :=
  let b := fl.e.blk
  let first := (bad.head?).map (fun x => x.1) |>.getD 0
  let s1 := abandonMma s c fl.e.id (u.u + 1) (if (mmaF b).chain then mmaUnits b else first + 1) b
  let s2 := modFlight (modUnit s1 c fl.e.id u.u (fun x => { x with bad := true })) c fl.e.id (fun x => { x with wr := [], rd := [] })
  bad.foldl (fun s x =>
    let s3 := poisonElem (cbump s c 0x4032 (failCount x.2.1).1 1) c b x.1
    faultIncident s3 (opRep s3 c fl.e 8 0 (mmaDet 6 x.2.1 x.1)) (16 * c.val + 1) (failCount x.2.1).2 x.2.2) s2

/-- The failing elements of a unit under the verdicts of its elements in order; a missing one passes. -/
def badElems (u : MmaUnit) (vs : List Verdict) : List (Nat × Nat × Bool) :=
  u.res.zipIdx.filterMap (fun x => match vs.getD x.2 .pass with
    | .pass => none
    | .residue => some (x.1.1, 5, false)
    | .operandA => some (x.1.1, 0, false)
    | .operandB => some (x.1.1, 1, false))
/-- The verdicts of the elements of a unit that has been committed (R202): it passes on, or fails. RESIDUE_INJECT makes the first element that
covers PE (0, 0) fail (R204). -/
def takeVerdict (s : State) (c : Fin 8) (fl : Flight) (u : MmaUnit) (vs : List Verdict) : State :=
  let b := fl.e.blk
  let covers := (u.res.find? (fun x => decide (cOrg b x.1 = (0, 0)))).map (fun x => x.1)
  let inj := checkMode s != 0 && cget s c 0x4033 0 == 1 && covers.isSome
  let s1 := if inj then cset s c 0x4033 0 0 else s
  let s2 := endPlaneWrite (modUnit s1 c fl.e.id u.u (fun x => { x with stage := 3 })) c fl u.u
  let found := badElems u vs
  let bad := match covers with
    | some i => if inj && !found.any (fun x => x.1 == i) then (i, 5, true) :: found else found
    | none => found
  if bad.isEmpty then finishUnits s2 c fl else failUnit s2 c fl u bad

/-- MMA_ELEMENT_COMPLETE (R196, R203): the oldest unit fed is committed and its flags recorded; in OFF mode there is no residue
verdict, and only operand parity can fail it. An operand parity error found at the array's edge is the verdict of its element. -/
def mmaElementComplete (s : State) (c : Fin 8) (vs : List Verdict) : State :=
  match unitAt s.cl[c] (fun _ u => u.stage == 1) with
  | none => s
  | some (fl, u) =>
    let n := if (mmaF fl.e.blk).chain then 1 else u.res.length
    let s1 := cbump (setFlags (commitUnit s c fl.e.blk u) c 1 u.flags) c 0x4031 2 n
    let s2 := modUnit s1 c fl.e.id u.u (fun x => { x with stage := 2 })
    let parity := vs.map (fun v => if v = .residue then .pass else v)
    if checkMode s = 0 || !(badElems u parity).isEmpty then takeVerdict s2 c fl u parity else s2

/-- RESIDUE_VERDICT (R202): the verdicts of the elements of the oldest committed unit are in. -/
def residueVerdict (s : State) (c : Fin 8) (vs : List Verdict) : State :=
  match unitAt s.cl[c] (fun _ u => u.stage == 2) with
  | none => s
  | some (fl, u) => takeVerdict s c fl u vs

/-! Pair comparison. -/

/-- CRC-64/XZ (R451): the reflected form of 0x42F0E1EBA9EA3693. -/
def crc64 (l : List Byte) : Nat := (l.foldl (crcByte 0xC96C5795D7870F42) (2 ^ 64 - 1)) ^^^ (2 ^ 64 - 1)
/-- The tile digest of an element's committed region (R451). -/
def tileDigest (s : State) (c : Fin 8) (b : OpBlock) (i : Nat) : Nat :=
  let f := mmaF b
  let o := cOrg b i
  let t := treg s c (planeOf b i)
  crc64 ((List.range f.m).flatMap (fun r => (List.range f.n).flatMap (fun j => toLE 4 (t.at (o.1.toNat + r) (o.2.toNat + j)))))
/-- The pair of cluster c. -/
def pairNo (c : Fin 8) : Nat := c.val / 2
/-- E_PAIR is raised, counted and logged as PAIR_MISMATCH (R452, R470): kind 0 digest, 1 copies, 2 wait. -/
def pairFault (s : State) (lead : Fin 8) (f : FaultRep) (kind elem a b addr : Nat) (injected : Bool) : State :=
  let s1 := logEv s (16 * lead.val + 1) 0x0606 0
    (payOf [(16, pairNo lead), (17, kind), (18, elem), (24, a % 2 ^ 64), (32, b % 2 ^ 64), (40, addr)])
  faultIncident s1 { f with code := 9 } (16 * lead.val + 1) 4 injected

/-- The oldest unit of a cluster that awaits its pair comparison. -/
def awaitsPair (k : Cluster) : Option (Flight × MmaUnit) := unitAt k (fun _ u => decide (3 ≤ u.stage) && !u.paired && !u.bad)

/-! Drain. -/

/-- DRAIN_READ (R196, R258): the oldest unit with its verdict in is read out of its plane, once the plane's drain buffer is free. A
drain parity error of its n-th element (parity) fails that element (R203); word names a 32-bit word of the plane, row · 8192 + word, whose
storage parity fails, and its granule drains poisoned (R159, R259). -/
def drainRead (s : State) (c : Fin 8) (parity : Option (Fin 4)) (word : Option Nat) : State :=
  match unitAt s.cl[c] (fun b u => u.stage == 3 && hasGrade b) with
  | none => s
  | some (fl, u) =>
    let b := fl.e.blk
    let pl : Fin 2 := if planeOf b (u.res.head?.map (fun x => x.1) |>.getD 0) = 8 then 0 else 1
    if (s.cl[c].drainBuf[pl]).isSome then s
    else
      let f := mmaF b
      let s0 := tileParity s c (8 + pl.val) word
      let late := (parity.bind (fun q => u.res[q.val]?)).map (fun x => x.1)
      let vals := u.res.map (fun x =>
        let o := cOrg b x.1
        let t := treg s0 c (planeOf b x.1)
        (x.1, (List.range f.m).map (fun r => (List.range f.n).map (fun j =>
          (t.at (o.1.toNat + r) (o.2.toNat + j), t.bad (o.1.toNat + r) (o.2.toNat + j) || late == some x.1)))))
      let s1 := modC s0 c (fun k => { k with drainBuf := vset k.drainBuf pl (some (fl.e.id, u.u)) })
      let s2 := modUnit s1 c fl.e.id u.u (fun x => { x with stage := 4, drained := vals })
      match late with
      | some i => if u.bad then s2 else failUnit s2 c fl { u with drained := vals } [(i, 2, false)]
      | none => s2

/-- MMA_ELEMENT_START. -/
def execMmaElementStart (c : Fin 8) (parity : Option Nat) (s : State) : Host.Outcome State Fault Refusal := .next (mmaElementStart s c parity)
/-- MMA_ELEMENT_COMPLETE. -/
def execMmaElementComplete (c : Fin 8) (vs : List Verdict) (s : State) : Host.Outcome State Fault Refusal := .next (mmaElementComplete s c vs)
/-- RESIDUE_VERDICT. -/
def execResidueVerdict (c : Fin 8) (vs : List Verdict) (s : State) : Host.Outcome State Fault Refusal := .next (residueVerdict s c vs)
/-- DRAIN_READ. -/
def execDrainRead (c : Fin 8) (parity : Option (Fin 4)) (s : State) (word : Option Nat := none) : Host.Outcome State Fault Refusal :=
  .next (drainRead s c parity word)

end Sys2Proof.Machine
end

