-- ==== Sys2Proof/Machine/Grade.lean ====
section
/-! DEFINITION. Machine/Grade.lean: prep and grade programs at work (R247-R264, R269): the lanes of a row, ports, statistics,
sends, posts, and the pair comparison that releases them. -/

namespace Sys2Proof.Machine

/-- A lane value with its poison (R259). -/
abbrev PV := Lane × Bool

/-- Where a program runs: cluster, binding, element, its shape, the format of IN, the addresses of ROWV and COLV, the slot address of
each REEL port, flush and forced-strict modes. -/
structure ProgCtx where
  c : Fin 8
  bd : BitVec 1024
  elem : Nat
  rows : Nat
  cols : Nat
  inF : Nat
  rowV : Nat
  colV : Nat
  base : List Nat
  flush : Bool
  force : Bool
deriving DecidableEq, Repr

/-- The address of row r (or of the vector) of port i (R245). -/
def portAddr (x : ProgCtx) (i r : Nat) : Nat :=
  let p := portOf x.bd i
  let step : Int := x.elem * p.estep
  match p.kind with
  | 5 => ((x.base.getD i 0 : Int) + r * p.pitch).toNat
  | 2 => ((p.addr : Int) + step).toNat
  | 3 => ((p.addr : Int) + step).toNat
  | _ => ((p.addr : Int) + step + r * p.pitch).toNat
/-- The index of lane (r, j) within the row or vector that a port addresses. -/
def portIdx (p : Port) (r j : Nat) : Nat := if p.kind = 2 then r else if p.kind = 6 then j / 32 else j
/-- The bytes [a, a + n) meet the statistics vector that the program writes (R254). -/
def inStats (x : ProgCtx) (a n : Nat) : Bool :=
  let st : Int := spBase x.c + statOff x.bd x.elem
  bRedOp x.bd != 0 && decide ((a : Int) < st + statBytes x.bd x.rows x.cols) && decide (st < a + n)
/-- The code and poison that source port i gives lane (r, j): a free value where it lies in a statistics entry that the program writes (R254). Other
memory that the program writes reads as it was before the element (log entry 105). -/
def portRead (s : State) (x : ProgCtx) (i r j : Nat) : Nat × Bool :=
  let p := portOf x.bd i
  let v := memElem s x.c p.fmt (portAddr x i r) (portIdx p r j)
  if inStats x (portAddr x i r + portIdx p r j * fmtBits p.fmt / 8) ((fmtBits p.fmt + 7) / 8) then
    (Config.free (s.fresh + (r * x.cols + j) * 3 + i) % 2 ^ fmtBits p.fmt, v.2)
  else v
/-- A vector of FP32 values: entry e. -/
def vecEntry (s : State) (x : ProgCtx) (a e : Nat) : Nat × Bool := memElem s x.c 1 (spBase x.c + a) e

/-- What a row's run has produced: working values, the lanes handed to each port and to the reduction unit, and flags; inn is IN, as the
program last wrote it (R252), and wrote tells whether it has. -/
structure RowRun where
  w : List (List PV)
  ports : List (Nat × List PV)
  inn : List (Nat × Bool)
  wrote : Bool
  red : List PV
  flags : Flags
deriving DecidableEq, Repr

/-- The lanes of a source selector for row r (R251). -/
def srcLanes (s : State) (x : ProgCtx) (st : RowRun) (m : MicroOp) (i r sel : Nat) : List PV :=
  if sel = 1 then st.inn.map (fun v => (.raw x.inF v.1, v.2))
  else if 2 ≤ sel ∧ sel ≤ 5 then st.w.getD (sel - 2) []
  else if sel = 6 then (List.range x.cols).map (fun _ => let v := vecEntry s x x.rowV r; (.f v.1, v.2))
  else if sel = 7 then (List.range x.cols).map (fun j => let v := vecEntry s x x.colV j; (.f v.1, v.2))
  else if 8 ≤ sel ∧ sel ≤ 10 then
    let p := portOf x.bd (sel - 8)
    (List.range x.cols).map (fun j => let v := portRead s x (sel - 8) r j; (.raw p.fmt v.1, v.2))
  else if sel = 11 then (List.range x.cols).map (fun _ => (if opIsInt m.op i then .i (s32 m.imm) else .f m.imm, false))
  else (List.range x.cols).map (fun _ => (.f 0, false))

/-- BLKAMAX of a row (R253): the magnitude maximum of each aligned block of 32 columns. -/
def blkAmax (sat flush : Bool) (l : List PV) : List PV × Flags :=
  let blocks := (List.range ((l.length + 31) / 32)).map (fun k =>
    let b := (l.drop (32 * k)).take 32
    let isF := ((b.head?).map (fun v => v.1.isF)).getD true
    if isF then
      let vs := b.map (fun v => v.1.fval flush)
      let m := vs.foldl (fun a v => maxV a v.1.abs) (.zero false)
      ((Lane.f (fenc32 false m).1, b.any (fun v => v.2)), vs.foldl (fun f v => f ||| v.2 ||| snanIV [v.1]) (0#8))
    else
      let r := ovfInt sat (b.foldl (fun a v => max a v.1.ival.natAbs) (0 : Int))
      ((Lane.i r.1, b.any (fun v => v.2)), r.2))
  ((List.range l.length).map (fun j => ((blocks.getD (j / 32) ((Lane.f 0, false), 0#8)).1)), blocks.foldl (fun f b => f ||| b.2) (0#8))

/-- CVT into a working value (R252): an integer rounds to FP32, a float to INT32 with clamping, to nearest even. -/
def cvtWork (flush : Bool) (v : Lane) : Lane × Flags :=
  if v.isF then
    let x := v.fval flush
    let r := toIntFmt 4 0 x.1
    (.i (s32 r.1), x.2 ||| r.2)
  else let r := fenc32 flush (ofIntV v.ival); (.f r.1, r.2)

/-- A lane value converted into a stored format (R245, R252): bits that already have the format stay. -/
def laneCvt (fmt round : Nat) (sat flush : Bool) (v : Lane) : Nat × Flags :=
  match v with
  | .f c => if fmt = 1 then (c, 0#8) else cvtElem 1 fmt round sat flush c
  | .i k => if fmt = 4 then (codeOf 4 k, 0#8) else cvtElem 4 fmt round sat flush (codeOf 4 k)
  | .raw m c => if m = fmt then (c, 0#8) else cvtElem m fmt round sat flush c
/-- A floating-point lane value as an FP32 code, exact but for the input flush and a signalling NaN (R70, R77). -/
def laneF32 (flush : Bool) (v : Lane) : Nat × Flags :=
  match v with
  | .f c => (c, 0#8)
  | .i k => ((fenc32 false (ofIntV k)).1, 0#8)
  | .raw m c => if m = 1 then (c, 0#8) else let x := elemV flush m c; ((fenc32 false x.1).1, x.2 ||| snanIV [x.1])

/-- One micro-op over the lanes of a row (R247-R254). A write to IN converts into the register's format at once (R252). -/
def microRow (s : State) (x : ProgCtx) (r : Nat) (st : RowRun) (m : MicroOp) : RowRun :=
  let src := (List.range 3).map (fun i => srcLanes s x st m i r (m.src.getD i 0))
  let n := (microSrcs m.op).getD 0
  let at' (i j : Nat) : PV := (src.getD i []).getD j (.f 0, false)
  let work := decide (2 ≤ m.dst) && decide (m.dst ≤ 5)
  let res : List PV × Flags :=
    if m.op = 0x61 then blkAmax m.sat x.flush (src.getD 0 [])
    else
      let l := (List.range x.cols).map (fun j =>
        let a := at' 0 j
        let bad := (List.range n).any (fun i => (at' i j).2)
        if m.op = 0x60 then ((a.1, a.2), (0#8 : Flags))
        else if m.op = 0x01 then (if work then let q := cvtWork x.flush a.1; ((q.1, bad), q.2) else ((a.1, a.2), 0#8))
        else
          let q := laneOp m.op (m.strict || x.force) m.sat x.flush a.1 (at' 1 j).1 (at' 2 j).1
          ((q.1, bad), q.2))
      (l.map (fun v => v.1), l.foldl (fun f v => f ||| v.2) (0#8))
  let back := if m.dst = 1 then res.1.map (fun v => (laneCvt x.inF (bWbRound x.bd) (bWbSat x.bd) x.flush v.1, v.2)) else []
  { w := if work then st.w.set (m.dst - 2) res.1 else st.w,
    ports := if 8 ≤ m.dst then st.ports ++ [(m.dst - 8, res.1)] else st.ports,
    inn := if m.dst = 1 then back.map (fun v => (v.1.1, v.2)) else st.inn,
    wrote := st.wrote || m.dst == 1,
    red := if m.red then res.1 else st.red,
    flags := back.foldl (fun f v => f ||| v.1.2) (st.flags ||| res.2) }
/-- A program over one row. -/
def progRow (s : State) (x : ProgCtx) (code : List MicroOp) (inRow : List (Nat × Bool)) (r : Nat) : RowRun :=
  code.foldl (microRow s x r) { w := [[], [], [], []], ports := [], inn := inRow, wrote := false, red := [], flags := 0#8 }

/-- The DETAIL of a program fault (R238, R269). -/
def progDet (check opnd row : Nat) : Nat := check + 256 * opnd + 65536 * min row 0xFFFF
/-- A fault of a running program (R269). -/
def progRep (s : State) (c : Fin 8) (e : QEntry) (code addr detail : Nat) : FaultRep := { opRep s c e code addr detail with engine := 2 }

/-- The statistics vector after the values of a run, as (row, column, lane) (R227-R231, R254): RED_DIR, RED_OP, RED_ACCUM and
RED_IDX_BIAS of dir, op, acc and bias; entries without a value are written only when they start empty. -/
def redWrite (s : State) (c : Fin 8) (a op dir bias n : Nat) (acc sat flush isF : Bool) (l : List (Nat × Nat × PV)) : State × Flags :=
  let size := redSize op
  (List.range n).foldl (fun st e =>
    let vs := (l.filter (fun x => (if dir = 0 then x.1 else x.2.1) == e)).map (fun x => (if dir = 0 then x.2.1 else x.1, x.2.2))
    if acc && vs.isEmpty then st
    else
      let addr := ownAddr st.1 c (a + size * e)
      let old := if acc then some (rdLE st.1 addr 4, if size = 8 then rdLE st.1 (addr + 4) 4 else 0) else none
      let r : (Nat × Nat) × Flags :=
        if isF then
          let fv := vs.map (fun v => (v.1, v.2.1.fval flush))
          let q := redEntryF op bias flush old (fv.map (fun v => (v.1, v.2.1)))
          (q.1, q.2 ||| fv.foldl (fun f v => f ||| v.2.2) (0#8))
        else redEntryI op bias sat old (vs.map (fun v => (v.1, v.2.1.ival)))
      let bad := vs.any (fun v => v.2.2)
      let s1 := wrMarked st.1 addr ((redBytes op r.1).map (fun b => (b, false)))
      (if bad then { s1 with pz := mset false s1.pz (addr / 64) true } else s1, st.2 ||| r.2)) (s, 0#8)

/-! Prep programs. -/

/-- The context of a program of a role for element i. -/
def progCtx (s : State) (c : Fin 8) (b : OpBlock) (role : OpKind) (bd : BitVec 1024) (i : Nat) (base : List Nat) : ProgCtx :=
  { c := c, bd := bd, elem := i, rows := (progShape b role).1, cols := (progShape b role).2, inF := inFmt b role,
    rowV := vecRef b 366 386 i, colV := vecRef b 393 413 i, base := base, flush := flushOf s c 2, force := cget s c 0x4042 0 == 1 }
/-- The register, region origin and shape of element i for a prep role. -/
def prepRegion (b : OpBlock) (role : OpKind) (i : Nat) : Nat × Nat × Nat :=
  if role = .prepA then ((aReg b i).toNat, (aOrg b i).1.toNat, (aOrg b i).2.toNat) else ((bReg b i).toNat, (bOrg b i).1.toNat, (bOrg b i).2.toNat)
/-- The elements whose regions a prep program transforms: the first of each region (R255). -/
def prepElems (b : OpBlock) (role : OpKind) : List Nat :=
  ((elems b).foldl (fun acc i => if acc.any (fun j => prepRegion b role j == prepRegion b role i) then acc else acc ++ [i]) [])

/-- The sources that a program reads: ports and reference vectors, as (operand, address, bytes, row) for an element; row 0xFFFF where no row
applies (R238, R269). -/
def progReads (x : ProgCtx) (code : List MicroOp) : List (Nat × Nat × Nat × Nat) :=
  let used (sel : Nat) : Bool := code.any (fun m => m.src.contains sel)
  let perRow (f : Nat → Nat × Nat × Nat) : List (Nat × Nat × Nat × Nat) := (List.range x.rows).map (fun r => let y := f r; (y.1, y.2.1, y.2.2, r))
  (List.range 3).flatMap (fun i =>
    let p := portOf x.bd i
    if !used (8 + i) then []
    else if p.kind = 1 then perRow (fun r => (i, portAddr x i r, rowBytes p.fmt x.cols))
    else if p.kind = 2 then perRow (fun r => (i, portAddr x i 0 + r * (fmtBits p.fmt / 8), fmtBits p.fmt / 8))
    else if p.kind = 3 then [(i, portAddr x i 0, rowBytes p.fmt x.cols, 0xFFFF)]
    else []) ++
  (if used 6 then perRow (fun r => (5, spBase x.c + x.rowV + 4 * r, 4)) else []) ++ (if used 7 then [(5, spBase x.c + x.colV, 4 * x.cols, 0xFFFF)] else []) ++
  (if bRedOp x.bd ≠ 0 ∧ bRedAccum x.bd then
    let a := (spBase x.c + statOff x.bd x.elem).toNat
    if bRedDir x.bd = 0 then perRow (fun r => (6, a + redSize (bRedOp x.bd) * r, redSize (bRedOp x.bd)))
    else [(6, a, statBytes x.bd x.rows x.cols, 0xFFFF)]
  else [])
/-- The extents of an element's ports and statistics vector, as (operand, address, bytes, write) (R269, CHECK 4). -/
def progExtents (x : ProgCtx) : List (Nat × Nat × Nat × Bool) :=
  (List.range 3).filterMap (fun i =>
    let p := portOf x.bd i
    if p.kind = 0 ∨ p.kind = 7 ∨ x.rows = 0 ∨ x.cols = 0 then none
    else
      let e := portExt p x.rows x.cols x.elem
      let base := if p.kind = 5 then x.base.getD i 0 else p.addr
      some (i, ((base : Int) + e.1).toNat, (e.2 - e.1).toNat, decide (4 ≤ p.kind))) ++
  (if bRedOp x.bd ≠ 0 then [(6, (spBase x.c + statOff x.bd x.elem).toNat, statBytes x.bd x.rows x.cols, true)] else [])
/-- The first fault of an element of a program before it runs (R269): code, address, and the operand, CHECK and row of DETAIL. -/
def progFault (s : State) (c : Fin 8) (x : ProgCtx) (code : List MicroOp) : Option (Nat × Nat × Nat) :=
  let upd := (List.range 3).find? (fun i =>
    let p := portOf x.bd i
    let r := rrGet s c p.rreg
    decide (4 ≤ p.kind) && p.upd == 1 && r.valid && r.gran != p.gran && code.any (fun m => m.dst == 8 + i))
  match upd with
  | some i => some (3, 0, progDet 1 i 0xFFFF)
  | none =>
    match (progExtents x).find? (fun e => !protOk s (partOf s c) (ownAddr s c e.2.1) e.2.2.1 e.2.2.2) with
    | some e => some (6, e.2.1, progDet 4 e.1 0xFFFF)
    | none =>
      match (progReads x code).find? (fun e => anyBad s (ownAddr s c e.2.1) e.2.2.1) with
      | some e => some (7, e.2.1, progDet 5 e.1 e.2.2.2)
      | none => none

/-- The slot at the head of VQ that may run (R232, R233). -/
def slotHead (s : State) (c : Fin 8) : Option QEntry :=
  match s.cl[c].vq with
  | e :: _ => if slotReady s c e then some e else none
  | [] => none
/-- The head slot leaves VQ. -/
def popSlot (s : State) (c : Fin 8) : State := modC s c (fun k => { k with vq := k.vq.tail })
/-- The head slot has started. -/
def startSlot (s : State) (c : Fin 8) : State :=
  modC s c (fun k => match k.vq with
    | e :: t => { k with vq := { e with checked := true } :: t }
    | [] => k)
/-- An MMA that has not dispatched leaves its queue with its slots and programs; its signal is never performed (R195). -/
def dropMma (s : State) (c : Fin 8) (id : Nat) : State :=
  dropWaiter (modC s c (fun k => { k with
    vq := k.vq.filter (fun x => x.mma != id || !(x.kind == .prepA || x.kind == .prepB || x.kind == .grade)),
    mq := k.mq.filter (fun x => x.id != id), progs := k.progs.filter (fun p => p.mma != id) })) (.gate c id)

/-- A prep slot waits for the registers that it reads and writes, and the one that makes its MMA's checks also for earlier TCFGs of any register
or plane of its MMA (R51, R53, R242). -/
def prepHeld (k : Cluster) (e : QEntry) : Bool :=
  let regs := aRegs e.blk 0 ++ bRegs e.blk 0 ++ planesOf e.blk
  held k e || (!k.progs.any (fun p => p.mma == e.mma) &&
    k.mq.any (fun x => x.kind == .tcfg && decide (x.id < e.mma) && (cfgChanges k x).any (fun g => regs.contains g)))

/-- PREP_SLOT_START (R232, R241, R242, R257): a prep slot at the head of VQ whose registers are free starts; the first one of an MMA reads its
bindings and code and makes its checks, once, and a failing check is the MMA's fault. -/
def prepSlotStart (s : State) (c : Fin 8) : State :=
  match s.cl[c].vq with
  | [] => s
  | e :: _ =>
    if !(e.kind == .prepA || e.kind == .prepB) || e.checked || prepHeld s.cl[c] e then s
    else
      let made := s.cl[c].progs.any (fun p => p.mma == e.mma)
      match (if made then none else mmaCheck s c e.blk) with
      | some x => dropMma (mmaFail s c e x) c e.mma
      | none =>
        let s1 := if made then s else modC s c (fun k =>
          { k with progs := k.progs ++ bindProgs s c e.blk e.mma, mq := mapIf (fun y => y.id == e.mma) (fun y => { y with checked := true }) k.mq })
        if !slotReady s1 c e then s1 else if mmaEmpty e.blk then popSlot s1 c else startSlot s1 c

/-- One element of a prep program: its region transformed in its register (R255, R256). -/
def prepElem (s : State) (c : Fin 8) (e : QEntry) (pg : Prog) (i : Nat) : State × Option FaultRep :=
  let b := e.blk
  let code := pg.code.map microOf
  let x := progCtx s c b e.kind pg.bind i []
  let g := prepRegion b e.kind i
  let t := treg s c g.1
  match progFault s c x code with
  | some q => (s, some (progRep s c e q.1 q.2.1 q.2.2))
  | none =>
    match (List.range x.rows).find? (fun r => t.anyBad (g.2.1 + r) g.2.2 1 x.cols) with
    | some r => (s, some (progRep s c e 7 0 (progDet 5 3 r)))
    | none =>
      let rs := (List.range x.rows).map (fun r =>
        (r, progRow s x code ((List.range x.cols).map (fun j => (t.at (g.2.1 + r) (g.2.2 + j), false))) r))
      let back := rs.flatMap (fun y => if y.2.wrote then y.2.inn.zipIdx.map (fun v => (g.2.1 + y.1, g.2.2 + v.2, v.1.1, false)) else [])
      (setFlags (putReg s c g.1 (t.write g.2.2 x.cols back)) c 2 (rs.foldl (fun f y => f ||| y.2.flags) (0#8)).toNat, none)

/-- A prep program faults at element i: its MMA ends (R195, R269). -/
def prepFault (s : State) (c : Fin 8) (e : QEntry) (i : Nat) (f : FaultRep) : State :=
  ((elems e.blk).filter (fun j => decide (i ≤ j))).foldl (fun s j => undefRegion s c e.blk j) (dropMma (raiseF s f) c e.mma)

/-- PREP_SLOT_COMPLETE (R257): the started slot's program has run over every region, and the slot leaves VQ. parity names a 32-bit word of a
register found in error (R159): code · 2^26 + row · 8192 + word. -/
def prepSlotComplete (s : State) (c : Fin 8) (parity : Option Nat) : State :=
  match s.cl[c].vq with
  | e :: _ =>
    if !(e.kind == .prepA || e.kind == .prepB) || !e.checked then s
    else
      match s.cl[c].progs.find? (fun p => p.mma == e.mma && p.role == e.kind) with
      | none => popSlot s c
      | some pg =>
        let s0 := match parity with
          | some x => if (rdSet e).contains (x / 2 ^ 26) then tileParity s c (x / 2 ^ 26) (some (x % 2 ^ 26)) else s
          | none => s
        let r := (prepElems e.blk e.kind).foldl (fun st i => match st.2 with
          | some _ => st
          | none => let q := prepElem st.1 c e pg i; (q.1, q.2.map (fun f => (i, f)))) (s0, (none : Option (Nat × FaultRep)))
        match r.2 with
        | some (i, f) => prepFault r.1 c e i f
        | none => popSlot r.1 c
  | [] => s

/-! Grade programs. -/

/-- Bytes of packets in the send buffer (R263). -/
def sendBytes (l : List (Nat × Nat × Nat × Packet)) : Nat := l.foldl (fun a x => a + x.2.2.2.data.length) 0
/-- Sent rows enter the send buffer of 1 MiB while it has room (R263). -/
def fillSend : List (Nat × Nat × Nat × Packet) → List (Nat × Nat × Nat × Packet) → List (Nat × Nat × Nat × Packet) × List (Nat × Nat × Nat × Packet)
  | buf, [] => (buf, [])
  | buf, x :: t => if buf.isEmpty || decide (sendBytes buf + x.2.2.2.data.length ≤ 2 ^ 20) then fillSend (buf ++ [x]) t else (buf, x :: t)
/-- The state with the send buffer refilled from the stalled lanes. -/
def sendRefill (s : State) (c : Fin 8) : State :=
  modC s c (fun k => let q := fillSend k.sendBuf k.sendStall; { k with sendBuf := q.1, sendStall := q.2 })
/-- The post record of element i is copied into a slot of its reel, which commits (R260). -/
def postRecord (s : State) (c : Fin 8) (bd : BitVec 1024) (i : Nat) : State :=
  let r := bPostReel bd
  let a := ownAddr s c ((spBase c : Int) + postOff bd i).toNat
  let t := rlGet s c r 6
  let s1 := reelReserve s c r
  reelCommit (wrMarked s1 (slotAddr s c r t) (rdMarked s a 64)) c r t

/-- The unit's held outputs are released as far as they can be: reel commits, then, with every send acknowledged, send signals,
then posts (R260-R262, R264). -/
def settleUnit (s : State) (c : Fin 8) (id u : Nat) : State :=
  match flightOf s c id, (s.cl[c].mma.find? (fun r => r.id == id)).bind (fun r => r.units.find? (fun x => x.u == u)),
      s.cl[c].progs.find? (fun p => p.mma == id && p.role == .grade) with
  | some fl, some x, some pg =>
    if x.stage ≠ 5 ∨ x.bad ∨ (paired s ∧ ¬ x.paired) then s
    else
      let s1 := x.slots.foldl (fun s y => reelCommit s c y.2.1 y.2.2) s
      let s2 := modUnit s1 c id u (fun z => { z with slots := z.slots.filter (fun y => reelHolds s1 c y.2.1 y.2.2) })
      if x.outst ≠ 0 then s2
      else if !x.sigs.isEmpty then
        let s3 := modUnit s2 c id u (fun z => { z with sigs := [], outst := x.sigs.length })
        x.sigs.foldl (fun s y =>
          let p := portOf pg.bind y.2
          let g := p.addr / 2 ^ 48 * 2 ^ 48 + clapAddr p.sigClap
          sendReq s c (progRep s c fl.e 0 g (progDet 0 y.2 0xFFFF))
            (reqPacket 3 (16 * c.val + 2) g 16 2 (jobKey s (partOf s c)) ((toLE 8 p.sigInc ++ zeros 8).map (fun v => (v, false))))
            (.sendSig c id u (progRep s c fl.e 0 g (progDet 0 y.2 0xFFFF)))) s3
      else
        match x.posts with
        | i :: t =>
          if reelFree s2 c (bPostReel pg.bind) then
            let s3 := modUnit (postRecord s2 c pg.bind i) c id u (fun z => { z with posts := t })
            finishUnits s3 c fl
          else modFlight s2 c id (fun y => { y with e := { y.e with reelSince := some (y.e.reelSince.getD s.now) } })
        | [] => finishUnits s2 c fl
  | _, _, _ => s

/-- The data of one port of element i: a row as bytes with poison (R245, R259). A BLOCK port takes the lanes whose column is a multiple of 32, each with
its own column (log entry 104). -/
def portRow (p : Port) (flush : Bool) (l : List PV) : List (Byte × Bool) × Flags :=
  let vs := if p.kind = 6 then (l.zipIdx.filter (fun v => v.2 % 32 == 0)).map (fun v => v.1) else l
  let q := vs.map (fun v => laneCvt p.fmt p.round p.sat flush v.1)
  let bytes := packRow p.fmt (q.map (fun v => v.1))
  (bytes.zipIdx.map (fun b => (b.1,
    ((vs[b.2 * 8 / fmtBits p.fmt]?).map (fun v => v.2)).getD false || (isNibFmt p.fmt && ((vs[b.2 * 2 + 1]?).map (fun v => v.2)).getD false))),
   q.foldl (fun f v => f ||| v.2) (0#8))

/-- The slot addresses of the REEL ports for the pos-th element of a unit (R261). -/
def slotBases (s : State) (c : Fin 8) (bd : BitVec 1024) (pos : Nat) (slots : List (Nat × Nat × Nat)) : List Nat :=
  (List.range 3).map (fun p => slotAddr s c (portOf bd p).reel ((((slots.filter (fun y => y.1 == p))[pos]?).map (fun y => y.2.2)).getD 0))
/-- Element i of a grade program, its drained rows given: the state with its local writes, its packets to send appended, its flags,
statistics and range registers (R254, R259, R262). A range register is updated once per element of a batch (R95: DESIGN CHOICE, log entry 101). -/
def gradeElem (s : State) (c : Fin 8) (e : QEntry) (pg : Prog) (u i : Nat) (rows : List (List (Nat × Bool))) (slots : List (Nat × Nat × Nat)) : State :=
  let b := e.blk
  let code := pg.code.map microOf
  let pos := ((unitElems b u).findIdx? (fun y => y == i)).getD 0
  let x := progCtx s c b .grade pg.bind i (slotBases s c pg.bind pos slots)
  let rs := rows.zipIdx.map (fun row => (row.2, progRow s x code row.1 row.2))
  let flush := x.flush
  let rep := progRep s c e 0 0 0
  let s1 := rs.foldl (fun s y => y.2.ports.foldl (fun s w =>
    let p := portOf pg.bind w.1
    let d := portRow p flush w.2
    let s2 := setFlags s c 2 d.2.toNat
    if p.kind = 7 then
      let a := 2 ^ 48 * modulePart p.addr + (((p.addr : Int) + i * p.estep + y.1 * p.pitch) % (2 ^ 48 : Nat)).toNat
      let pk := writePackets (16 * c.val + 2) (jobKey s (partOf s c)) a (d.1.length + 1) d.1
      let det := progDet 0 w.1 y.1
      modUnit (modC s2 c (fun k => { k with sendStall := k.sendStall ++ pk.map (fun q => (e.mma, u, det, q)) })) c e.mma u (fun z => { z with outst := z.outst + pk.length })
    else emitRow s2 c rep (portAddr x w.1 y.1) d.1) s) { s with fresh := if bRedOp pg.bind = 0 then s.fresh else s.fresh + 3 * x.rows * x.cols }
  let s2 := setFlags s1 c 2 (rs.foldl (fun f y => f ||| y.2.flags) (0#8)).toNat
  let s3 := (List.range 3).foldl (fun s w =>
    let p := portOf pg.bind w
    if 4 ≤ p.kind ∧ p.upd ≠ 0 then
      let l := rs.flatMap (fun y => (y.2.ports.filter (fun z => z.1 == w)).flatMap (fun z =>
        z.2.zipIdx.filterMap (fun v => if v.1.2 || (p.kind == 6 && v.2 % 32 != 0) then none else some (y.1, v.2, laneF32 flush v.1.1))))
      let cp : CvtP := { src := 1, dst := p.fmt, round := p.round, sat := p.sat, mode := 0, gran := p.gran, addr := 0, reg := p.rreg, upd := p.upd, out := 0 }
      rangeUpdate (setFlags s c 2 (l.foldl (fun f v => f ||| v.2.2.2) (0#8)).toNat) c 2 cp flush (l.map (fun v => (v.1, v.2.1, v.2.2.1)))
        (progShape b .grade).1 (progShape b .grade).2
    else s) s2
  if bRedOp pg.bind = 0 then s3
  else
    let m := (code.find? (fun m => m.red))
    let vals := rs.flatMap (fun y => y.2.red.zipIdx.map (fun v => (y.1, v.2, v.1)))
    let isF := ((vals.head?).map (fun v => v.2.2.1.isF)).getD true
    let r := redWrite s3 c (spBase c + statOff pg.bind i).toNat (bRedOp pg.bind) (bRedDir pg.bind) (bRedBias pg.bind)
      (if bRedDir pg.bind = 0 then (progShape b .grade).1 else (progShape b .grade).2) (bRedAccum pg.bind)
      ((m.map (fun y => y.sat)).getD false) flush isF vals
    setFlags r.1 c 2 r.2.toNat

/-- The grade program ends with a fault at element i of unit u (R195, R269): the program stops, that element and the later ones are abandoned, and
the MMA never completes. -/
def gradeFault (s : State) (c : Fin 8) (fl : Flight) (u i : Nat) (f : FaultRep) : State :=
  modUnit (abandonMma (raiseF s f) c fl.e.id (u + 1) i fl.e.blk) c fl.e.id u (fun x => { x with bad := true, stage := 5 })
/-- The first element of unit u whose outputs are graded (R185, R186). -/
def firstElem (b : OpBlock) (u : Nat) : Nat := (unitElems b u).headD 0

/-- The head grade slot with its MMA and the oldest unit whose drain has been read. -/
def gradeHead (s : State) (c : Fin 8) : Option (QEntry × Flight × MmaUnit × Prog) :=
  match slotHead s c with
  | none => none
  | some e =>
    if e.kind ≠ .grade then none
    else
      match flightOf s c e.mma, (s.cl[c].mma.find? (fun r => r.id == e.mma)).bind (fun r => r.units.find? (fun x => x.stage == 4)),
          s.cl[c].progs.find? (fun p => p.mma == e.mma && p.role == .grade) with
      | some fl, some u, some pg => some (e, fl, u, pg)
      | _, _, _ => none

/-- The REEL ports that the program writes (R261). -/
def reelPorts (pg : Prog) : List Nat := (List.range 3).filter (fun i => (portOf pg.bind i).kind == 5)
/-- The slots that a unit's REEL ports still need. -/
def slotsMissing (pg : Prog) (u : MmaUnit) : List Nat :=
  (reelPorts pg).filter (fun i => decide ((u.slots.filter (fun y => y.1 == i)).length < u.res.length))
/-- The head of VQ notes since when it waits for a reel slot (R143). -/
def markReelWait (s : State) (c : Fin 8) : State :=
  modC s c (fun k => match k.vq with
    | e :: t => { k with vq := { e with reelSince := some (e.reelSince.getD s.now) } :: t }
    | [] => k)

/-- GRADE_ELEMENT_END (R258-R262): the program runs over the drained element or group: its stores are made, its sends enter the
send buffer, its drain buffer is free; after the last unit, and once the lanes hold back no sent row, the slot leaves VQ. It waits for reel
slots, and while the lanes are stalled on the send buffer. -/
def gradeElementEnd (s : State) (c : Fin 8) : State :=
  match gradeHead s c with
  | none => s
  | some (e, fl, u, pg) =>
    if !(slotsMissing pg u).isEmpty then markReelWait s c
    else if !s.cl[c].sendStall.isEmpty then s
    else
      let b := e.blk
      let es := u.res.map (fun x => x.1)
      let last := u.u + 1 == mmaUnits b
      let free (s : State) : State := modC s c (fun k => { k with drainBuf := k.drainBuf.map (fun x => if x = some (fl.e.id, u.u) then none else x) })
      let pop (s : State) : State := if last && s.cl[c].sendStall.isEmpty then popSlot s c else s
      match es.zipIdx.findSome? (fun i => (progFault s c (progCtx s c b .grade pg.bind i.1 (slotBases s c pg.bind i.2 u.slots)) (pg.code.map microOf)).map (fun q => (i.1, q))) with
      | some (i, q) => pop (gradeFault (free s) c fl u.u i (progRep s c e q.1 q.2.1 q.2.2))
      | none =>
        let sendP := (List.range 3).filter (fun i => (portOf pg.bind i).kind == 7 && (portOf pg.bind i).sigInc != 0)
        let s1 := modUnit (startSlot (free s) c) c fl.e.id u.u (fun x => { x with
          stage := 5, drained := [], sigs := es.flatMap (fun i => sendP.map (fun p => (i, p))), posts := if bPostOff pg.bind ≠ 0 then es else [] })
        let s2 := sendRefill (u.drained.foldl (fun s x => gradeElem s c e pg u.u x.1 x.2 u.slots) s1) c
        settleUnit (pop s2) c fl.e.id u.u

/-- Every unit of the MMA has been graded. -/
def allGraded (k : Cluster) (b : OpBlock) (id : Nat) : Bool :=
  match k.mma.find? (fun r => r.id == id) with
  | some r => r.next == mmaUnits b && r.units.all (fun u => u.stage == 5)
  | none => true
/-- The send buffer has room again: rows that the lanes hold back enter it, and after the last of them a grade slot that has graded every unit
ends (R263). -/
def sendRoom (s : State) (c : Fin 8) : State :=
  if s.cl[c].sendStall.isEmpty then s
  else
    let s1 := sendRefill s c
    match s1.cl[c].vq with
    | e :: _ => if s1.cl[c].sendStall.isEmpty && e.kind == .grade && allGraded s1.cl[c] e.blk e.mma then popSlot s1 c else s1
    | [] => s1
/-- SEND_BUFFER_DRAIN (R263, R264): the oldest packet of the send buffer whose unit is released leaves for its module. -/
def sendBufferDrain (s : State) (c : Fin 8) : State :=
  let ok (x : Nat × Nat × Nat × Packet) : Bool := !paired s ||
    (((s.cl[c].mma.find? (fun r => r.id == x.1)).bind (fun r => r.units.find? (fun y => y.u == x.2.1))).map (fun y => y.paired)).getD false
  match findIdx ok s.cl[c].sendBuf 0 with
  | none => s
  | some n =>
    match s.cl[c].sendBuf[n]? with
    | none => s
    | some (id, u, det, p) =>
      match flightOf s c id with
      | none => s
      | some fl =>
        let f := progRep s c fl.e 0 (2 ^ 48 * p.dest + p.addr) det
        sendReq (sendRoom (modC s c (fun k => { k with sendBuf := dropAt k.sendBuf n })) c) c f p (.send c id u f)

/-- The answer to a tile-send write or its signal (R262, R269): done, or a fault with its code and CHECK. -/
def sendAnswered (s : State) (c : Fin 8) (id u : Nat) (f : FaultRep) (fault : Option (Nat × Nat)) (bytes : Nat) : State :=
  match fault with
  | some (code, check) =>
    match flightOf s c id with
    | some fl => gradeFault s c fl u (firstElem fl.e.blk u) { f with code := code, detail := f.detail / 256 * 256 + check }
    | none => raiseF s { f with code := code, detail := f.detail / 256 * 256 + check }
  | none => settleUnit (cbump (modUnit s c id u (fun x => { x with outst := x.outst - 1 })) c 0x4051 1 bytes) c id u

/-- PAIR_COMPARISON (R264, R451): the tile digests of the two clusters' copies of an element are compared; equal ones release its
held outputs, different ones fault the take with E_PAIR, and both copies of the element and of every later one are
discarded (R195). PAIR_INJECT flips a bit of the mirror's copy (R469). -/
def pairComparison (s : State) (p : Fin 4) : State :=
  let c := toFin8 (2 * p.val)
  let d := toFin8 (2 * p.val + 1)
  if !paired s then s else
  match awaitsPair s.cl[c], awaitsPair s.cl[d] with
  | some (fl, u), some (fm, w) =>
    if fl.e.id ≠ fm.e.id ∨ u.u ≠ w.u then s
    else
      let inj := bit (oget s 0x7008 0) p.val
      let s1 := if inj then oset s 0x7008 0 (oget s 0x7008 0 - 2 ^ p.val) else s
      let ds := u.res.map (fun x => (x.1, tileDigest s c fl.e.blk x.1, tileDigest s d fm.e.blk x.1 ^^^ (if inj then 1 else 0)))
      match ds.find? (fun x => x.2.1 != x.2.2) with
      | some x =>
        let s2 := modUnit (modUnit s1 c fl.e.id u.u (fun y => { y with bad := true })) d fm.e.id w.u (fun y => { y with bad := true })
        let s3 := abandonMma (abandonMma s2 c fl.e.id (u.u + 1) x.1 fl.e.blk) d fm.e.id (w.u + 1) x.1 fm.e.blk
        pairFault s3 c (opRep s3 c fl.e 9 0 (mmaDet 7 5 x.1)) 0 (elemNo x.1) x.2.1 x.2.2 0 inj
      | none =>
        let s2 := modUnit (modUnit s1 c fl.e.id u.u (fun y => { y with paired := true })) d fm.e.id w.u (fun y => { y with paired := true })
        let settle (s : State) (c : Fin 8) (f : Flight) : State := if hasGrade f.e.blk then settleUnit s c f.e.id u.u else finishUnits s c f
        settle (settle s2 c fl) d fm
  | _, _ => s

/-- PREP_SLOT_START. -/
def execPrepSlotStart (c : Fin 8) (s : State) : Host.Outcome State Fault Refusal := .next (prepSlotStart s c)
/-- PREP_SLOT_COMPLETE. -/
def execPrepSlotComplete (c : Fin 8) (s : State) (parity : Option Nat := none) : Host.Outcome State Fault Refusal :=
  .next (prepSlotComplete s c parity)
/-- GRADE_ELEMENT_END. -/
def execGradeElementEnd (c : Fin 8) (s : State) : Host.Outcome State Fault Refusal := .next (gradeElementEnd s c)
/-- SEND_BUFFER_DRAIN. -/
def execSendBufferDrain (c : Fin 8) (s : State) : Host.Outcome State Fault Refusal := .next (sendBufferDrain s c)
/-- PAIR_COMPARISON. -/
def execPairComparison (p : Fin 4) (s : State) : Host.Outcome State Fault Refusal := .next (pairComparison s p)

end Sys2Proof.Machine
end

