-- ==== Sys2Proof/Machine/Vector.lean ====
section
/-! DEFINITION. Machine/Vector.lean: VEC and RED (R205-R239): checks, masks, lanes, results, reductions. -/

namespace Sys2Proof.Machine

/-! Checks. -/

/-- Reserved bits of a source slot (R344). -/
def slotReserved (b : OpBlock) (lo : Nat) : Bool :=
  let k := fld b (lo + 41) 3
  decide (5 < k) || (k == 0 && fld b lo 44 != 0) || ((k == 2 || k == 3 || k == 4) && fld b lo 16 != 0) || (k == 5 && fld b (lo + 32) 9 != 0)
/-- The operand of the first reserved bit or value of a VEC or RED block (R338, R343-R346); 0 for a field of the operation itself. -/
def vReserved (red : Bool) (b : OpBlock) : Option Nat :=
  firstBad [
    (hBad b || fld b 379 5 != 0 || (!vBand b && fld b 502 10 != 0) || (red && anySet b [(112, 8), (120, 1)]), 0),
    (slotReserved b 154, 0), (slotReserved b 198 || (red && anySet b [(198, 44)]), 1),
    (!vBand b && (slotReserved b 384 || (red && anySet b [(384, 44)])), 2),
    ((fld b 283 1 == 0 && fld b 242 42 != 0) || (red && anySet b [(242, 42)]), 3),
    (vSrcReelOp b == 3 || (red && anySet b [(285, 2), (292, 6)]), 7),
    (fld b 342 2 == 3 || fld b 350 2 == 3 || fld b 344 2 == 3 || (vBand b && fld b 342 2 == 1) ||
      (red && (anySet b [(339, 13)] || (!vBand b && anySet b [(428, 42)]))), 5),
    (red && anySet b [(356, 1)], 6)]
/-- A source of the operation has a format that R214 does not accept. -/
def srcFmtBad (red : Bool) (b : OpBlock) (i : Nat) : Bool :=
  match (vSrcs b)[i]? with
  | some x =>
    if x.kind = 5 then false
    else if red || vOp b = 1 then x.fmt == 0 || decide (8 < x.fmt)
    else !typeOk (vOp b) i x.fmt
  | none => false
/-- The conditions of R226 on a reduction. -/
def redBad (red : Bool) (b : OpBlock) : Bool :=
  let fmt := if red then (srcSlot b 154).fmt else if vRedStored b then (dstSlot b).fmt else vCvt b |>.src
  (red && vRedOp b == 0) || (vRedOp b != 0 && !red && vRedStored b && (dstSlot b).kind == 0) || (vRedOp b == 2 && fmt == 4)
/-- CHECK 1 of R237: the operand concerned. -/
def vFormat (s : State) (c : Fin 8) (red : Bool) (b : OpBlock) : Option Nat :=
  let n := vSrcCount red b
  let p := vCvt b
  let kinds := (vSrcs b).map (fun x => x.kind)
  let src (f : Nat → Bool) : Option Nat := (List.range 3).find? f
  firstSome (fun x => x) [
    vReserved red b,
    if !red && (opInfo (vOp b)).isNone then some 0 else none,
    src (fun i => (decide (i < n) && kinds.getD i 0 == 0) || (decide (n ≤ i) && kinds.getD i 0 != 0)),
    src (fun i => kinds.getD i 0 == 5 && (kinds.take i).contains 5),
    if !red && (dstSlot b).kind == 0 && vRedOp b == 0 then some 3 else none,
    src (fun i => decide (i < n) && srcFmtBad red b i),
    firstBad [
      (!red && (dstSlot b).kind == 1 && ((dstSlot b).fmt == 0 || decide (8 < (dstSlot b).fmt)), 3),
      (vSrcReelEn b && kinds.getD (vSrcReelOp b) 0 != 1, 7),
      (vDstReelEn b && (dstSlot b).kind == 0, 7),
      (redBad red b, 6),
      (!red && (dstSlot b).kind == 1 && (cvtBad s c p || (vOp b != 1 && p.mode != 0 && p.src != 1)), 5)]]

/-- The first failing check of a VEC or RED at dispatch (R211, R237): code, ADDR, OPERAND, CHECK. -/
def vecCheck (s : State) (c : Fin 8) (red : Bool) (b : OpBlock) : Option (Nat × Nat × Nat × Nat) :=
  match vFormat s c red b with
  | some o => some (3, 0, o, 1)
  | none =>
    let ex := if vEmpty b then [] else vExtents red b
    let size (x : Nat × Option Nat × Int × Int × Bool) : Nat := match x.2.1 with
      | some r => rlSize s c r
      | none => spSize
    match ex.find? (fun x => !(decide (0 ≤ x.2.2.1) && decide (x.2.2.2.1 ≤ size x))) with
    | some x => some (4, 0, x.1, 3)
    | none =>
      let prot (x : Nat × Option Nat × Int × Int × Bool) : Bool := match x.2.1 with
        | some r => rlConsumer s c r == 0 || protOk s (partOf s c) (slotAddr s c r 0) (ringBytes s c r) x.2.2.2.2
        | none => protOk s (partOf s c) (spBase c + x.2.2.1.toNat) (x.2.2.2.1 - x.2.2.1).toNat x.2.2.2.2
      match ex.find? (fun x => !prot x) with
      | some x => some (6, spBase c + x.2.2.1.toNat, x.1, 4)
      | none =>
        if (vSrcReelEn b && rlConsumer s c (vSrcReel b) != 2) || (vDstReelEn b && rlConsumer s c (vDstReel b) == 0) then some (6, 0, 7, 4)
        else none

/-- The fault of a VEC or RED: ENGINE 3 for a RED and for the statistics vector (R238). -/
def vecRep (s : State) (c : Fin 8) (e : QEntry) (code addr opnd check row : Nat) : FaultRep :=
  { opRep s c e code addr (progDet check opnd row) with engine := if e.kind = .red ∨ opnd = 6 then 3 else 2 }

/-- A later snapshot waits for an earlier VQ operation that updates its register (R232). -/
def rangeWait (k : Cluster) (e : QEntry) : Bool :=
  let p := vCvt e.blk
  e.kind == .vec && p.mode == 2 && k.flights.any (fun f => f.e.kind == .vec && (vCvt f.e.blk).upd != 0 && (vCvt f.e.blk).reg == p.reg && decide (f.e.id < e.id))
/-- A VEC or RED dispatches (R93, R94). -/
def vecDispatch (s : State) (c : Fin 8) (e : QEntry) : State :=
  let b := e.blk
  let p := vCvt b
  let used := e.kind == .vec && (dstSlot b).kind == 1 && !vEmpty b
  let snap := rrGet s c p.reg
  let s1 := if used then reportCold s c p snap (vRows b) (vCols b) 2 else s
  modC s1 c (fun k => { k with flights := k.flights ++ [newFlight e snap (used && usesCold s c p snap (vRows b) (vCols b))] })

/-! Lanes. -/

/-- The lane (r, j) is active (R212). -/
def vActive (s : State) (c : Fin 8) (b : OpBlock) (r j : Nat) : Bool :=
  let byte := (rdByte s (ownAddr s c ((spBase c : Int) + vMaskOff b + r * vMaskPitch b + (j / 8 : Nat)).toNat)).toNat
  let d : Int := (sfld b 480 32 + j) - (sfld b 448 32 + r)
  let band := decide (sfld b 384 32 ≤ d) && decide (d ≤ sfld b 416 32)
  match vMask b with
  | 0 => true
  | 1 => bit byte (j % 8)
  | 2 => band
  | _ => bit byte (j % 8) && band
/-- The local address of row r (or of the vector) of a source, and the index within it. -/
def srcPlace (s : State) (c : Fin 8) (e : QEntry) (i : Nat) (x : VSlot) (r j : Nat) : Nat × Nat :=
  let base : Nat := if vSrcReelEn e.blk && vSrcReelOp e.blk == i then slotAddr s c (vSrcReel e.blk) (e.slot.getD 0) else spBase c + 64 * x.off
  match x.kind with
  | 1 => (((base : Int) + r * (64 * x.pitch)).toNat, j)
  | 2 => (base, r)
  | 3 => (base, j)
  | _ => (base, 0)
/-- A source of lane (r, j) with its poison. -/
def srcLane (s : State) (c : Fin 8) (e : QEntry) (i r j : Nat) : PV :=
  match (vSrcs e.blk)[i]? with
  | none => (.f 0, false)
  | some x =>
    if x.kind = 0 then (.f 0, false)
    else if x.kind = 5 then (if opIsInt (vOp e.blk) i then .i (s32 x.imm) else .f x.imm, false)
    else
      let a := srcPlace s c e i x r j
      let v := memElem s c x.fmt a.1 a.2
      (.raw x.fmt v.1, v.2)

/-- One active lane's result with its flags (R214-R222). -/
def vLane (s : State) (c : Fin 8) (e : QEntry) (r j : Nat) : Lane × Flags :=
  let b := e.blk
  let a := (srcLane s c e 0 r j).1
  if e.kind = .red ∨ vOp b = 1 then (a, 0#8)
  else laneOp (vOp b) (vStrict b || cget s c 0x4042 0 == 1) (vSat b) (flushOf s c 2) a (srcLane s c e 1 r j).1 (srcLane s c e 2 r j).1
/-- Row r of the mask, as its local address and bytes. -/
def maskRow (c : Fin 8) (b : OpBlock) (r : Nat) : Nat × Nat := (((spBase c : Int) + vMaskOff b + r * vMaskPitch b).toNat, (vCols b + 7) / 8)
/-- Of n entries of size bytes from local address a, the row of the first poisoned one: its number where an entry stands for a row, else none
applies (R238). -/
def badEntry (s : State) (c : Fin 8) (a size n : Nat) (perRow : Bool) : Option Nat :=
  ((List.range n).find? (fun e => anyBad s (ownAddr s c (a + size * e)) size)).map (fun e => if perRow then e else 0xFFFF)
/-- A poisoned mask granule, the first active lane's poisoned source, or a poisoned scale or old statistics entry: row and operand (R213, R237,
R238). -/
def vecPoison (s : State) (c : Fin 8) (e : QEntry) : Option (Nat × Nat) :=
  let b := e.blk
  let red := e.kind == .red
  let rows := List.range (vRows b)
  let cols := List.range (vCols b)
  let p := vCvt b
  firstSome (fun x => x) [
    (if vMask b = 1 ∨ vMask b = 3 then rows.find? (fun r => anyBad s (ownAddr s c (maskRow c b r).1) (maskRow c b r).2) else none).map (fun r => (r, 4)),
    rows.findSome? (fun r => cols.findSome? (fun j =>
      if vActive s c b r j then (List.range (vSrcCount red b)).findSome? (fun i => if (srcLane s c e i r j).2 then some (r, i) else none) else none)),
    (if !red && (dstSlot b).kind == 1 && p.mode == 1 then badEntry s c (spBase c + p.addr) 4 (entryCount p.gran (vRows b) (vCols b)) (p.gran == 1)
      else none).map (fun r => (r, 5)),
    (if vRedOp b ≠ 0 ∧ vRedAccum b then
        badEntry s c (spBase c + vRedOff b) (redSize (vRedOp b)) (if vRedDir b = 0 then vRows b else vCols b) (vRedDir b == 0)
      else none).map (fun r => (r, 6))]

/-- The code of a fill (R213). -/
def fillCode (fill fmt : Nat) : Nat :=
  match fmtF fmt with
  | some F => if fill = 1 then 0 else finf F (fill == 2)
  | none => if fill = 1 then 0 else codeOf fmt (if fill = 2 then fmtLo fmt else fmtHi fmt)
/-- Contiguous runs of the values that are present, with the index of the first. -/
def runsOf {A : Type} : List (Option A) → Nat → List A → List (Nat × List A)
  | [], i, acc => if acc.isEmpty then [] else [(i - acc.length, acc)]
  | some a :: t, i, acc => runsOf t (i + 1) (acc ++ [a])
  | none :: t, i, acc => (if acc.isEmpty then [] else [(i - acc.length, acc)]) ++ runsOf t (i + 1) []
/-- The bytes of a destination row at a: written elements replace their bits, others keep theirs (R72, R123). -/
def rowBytesOf (s : State) (fmt a : Nat) (l : List (Option Nat)) : List (Option Byte) :=
  if isNibFmt fmt then
    (List.range ((l.length + 1) / 2)).map (fun i =>
      let old := (rdByte s (a + i)).toNat
      match l.getD (2 * i) none, l.getD (2 * i + 1) none with
      | none, none => none
      | lo, hi => some (BitVec.ofNat 8 (lo.getD (old % 16) % 16 + 16 * ((hi.getD (if 2 * i + 1 < l.length then old / 16 else 0)) % 16))))
  else l.flatMap (fun x => match x with
    | some v => (toLE (fmtBits fmt / 8) v).map some
    | none => List.replicate (fmtBits fmt / 8) none)

/-- The local address of the destination's row 0. -/
def dstBase (s : State) (c : Fin 8) (e : QEntry) : Nat :=
  if vDstReelEn e.blk then slotAddr s c (vDstReel e.blk) (e.dslot.getD 0) else spBase c + 64 * (dstSlot e.blk).off
/-- The rows of a full operand as (local address, bytes). -/
def rowRuns (b : OpBlock) (base : Nat) (fmt : Nat) (pitch : Int) : List (Nat × Nat) :=
  (List.range (vRows b)).map (fun (r : Nat) => (((base : Int) + r * pitch).toNat, rowBytes fmt (vCols b)))
/-- The bytes of a destination that lie in a source other than one computed in place, in the mask or in the statistics vector (R210). -/
def dstOverlap (s : State) (c : Fin 8) (e : QEntry) : List (Nat × Nat) :=
  let b := e.blk
  let d := dstSlot b
  if e.kind = .red ∨ d.kind = 0 then []
  else
    let dst := rowRuns b (dstBase s c e) d.fmt (64 * d.pitch)
    let srcs := (vSrcs b).zipIdx.flatMap (fun y =>
      let x := y.1
      let a := (srcPlace s c e y.2 x 0 0).1
      if vSrcCount false b ≤ y.2 ∨ x.kind = 0 ∨ x.kind = 5 then []
      else if x.kind = 1 then
        (if fmtBits x.fmt = fmtBits d.fmt ∧ a = dstBase s c e ∧ x.pitch = d.pitch then [] else rowRuns b a x.fmt (64 * x.pitch))
      else [(a, rowBytes x.fmt (if x.kind = 2 then vRows b else if x.kind = 3 then vCols b else 1))])
    let mask := if vMask b = 1 ∨ vMask b = 3 then (List.range (vRows b)).map (maskRow c b) else []
    let stats := if vRedOp b = 0 then [] else [(spBase c + vRedOff b, redSize (vRedOp b) * (if vRedDir b = 0 then vRows b else vCols b))]
    dst.flatMap (fun x => (srcs ++ mask ++ stats).filterMap (fun y =>
      let lo := max x.1 y.1
      let hi := min (x.1 + x.2) (y.1 + y.2)
      if lo < hi then some (lo, hi - lo) else none))
/-- The overlapping bytes become undefined. -/
def undefRuns (s : State) (c : Fin 8) (l : List (Nat × Nat)) : State := l.foldl (fun s x => undefMem s (ownAddr s c x.1) x.2) s

/-- The effects of a VEC or RED operation (R211-R231): destination, scales, range register, statistics and flags. -/
def vecCompute (s : State) (c : Fin 8) (fl : Flight) : State :=
  let e := fl.e
  let b := e.blk
  let red := e.kind == .red
  let p := vCvt b
  let flush := flushOf s c 2
  let d := dstSlot b
  let hasDst := !red && d.kind == 1
  let lanes := (List.range (vRows b)).flatMap (fun r => (List.range (vCols b)).filterMap (fun j =>
    if vActive s c b r j then let q := vLane s c e r j; some (r, j, q.1, q.2) else none))
  let codeIn (v : Lane) : Nat × Flags := match v with
    | .i k => (codeOf 4 k, 0#8)
    | .raw m x => if vOp b = 1 then (x, 0#8) else laneF32 flush (.raw m x)
    | .f x => (x, 0#8)
  let conv := lanes.map (fun x =>
    let q := if p.mode = 0 ∧ vOp b ≠ 1 then laneCvt d.fmt p.round p.sat flush x.2.2.1
      else
        let v := codeIn x.2.2.1
        let q := cvtOne p flush (if p.mode = 0 then 0 else scaleOf s c p fl.snap (entryOf p.gran x.1 x.2.1)) v.1
        (q.1, q.2 ||| v.2)
    (x.1, x.2.1, q))
  let fl0 := lanes.foldl (fun f x => f ||| x.2.2.2) (0#8)
  let fl1 := if hasDst then conv.foldl (fun f x => f ||| x.2.2.2) fl0 ||| snapFlags s c p fl.snap (vRows b) (vCols b) else fl0
  let fl2 := if hasDst && p.upd != 0 then lanes.foldl (fun f x => f ||| (codeIn x.2.2.1).2) fl1 else fl1
  let s1 := setFlags s c 2 fl2.toNat
  let s2 := if hasDst then
      let s2 := (List.range (vRows b)).foldl (fun st (r : Nat) =>
        let a := ownAddr st c ((dstBase s c e : Int) + r * (64 * d.pitch)).toNat
        let mine := conv.filter (fun x => x.1 == r)
        let row := (List.range (vCols b)).map (fun j => match mine.find? (fun x => x.2.1 == j) with
          | some x => some x.2.2.1
          | none => if vFill b = 0 ∨ vMask b = 0 then none else some (fillCode (vFill b) d.fmt))
        (runsOf (rowBytesOf st d.fmt a row) 0 []).foldl (fun st y => wrBytes st (a + y.1) y.2) st) s1
      rangeUpdate (writeScales s2 c p fl.snap (vRows b) (vCols b)) c 2 p flush (lanes.map (fun x => (x.1, x.2.1, (codeIn x.2.2.1).1))) (vRows b) (vCols b)
    else s1
  let s3 := if vRedOp b ≠ 0 then
      let vals : List (Nat × Nat × PV) :=
        if !red && vRedStored b then conv.map (fun x => (x.1, x.2.1, (Lane.raw d.fmt x.2.2.1, false)))
        else lanes.map (fun x => (x.1, x.2.1, (x.2.2.1, false)))
      let isF := if !red && vRedStored b then isFloatFmt d.fmt else if red then isFloatFmt (srcSlot b 154).fmt || (srcSlot b 154).kind == 5 else isFloatFmt p.src
      let n := if vRedDir b = 0 then vRows b else vCols b
      let r := redWrite s2 c (spBase c + vRedOff b) (vRedOp b) (vRedDir b) (vBias b) n (vRedAccum b) (vSat b) flush isF vals
      setFlags r.1 c 2 r.2.toNat
    else s2
  s3

/-- A VEC or RED operation with its overlaps (R210): elements of the destination that lie in another operand are undefined, as operands and as
results. -/
def vecRun (s : State) (c : Fin 8) (fl : Flight) : State :=
  match dstOverlap s c fl.e with
  | [] => vecCompute s c fl
  | l => undefRuns (vecCompute (undefRuns s c l) c fl) c l

/-- The destination and the statistics of an operation that faulted while it ran become undefined (R237). -/
def vecUndef (s : State) (c : Fin 8) (e : QEntry) : State :=
  (vExtents (e.kind == .red) e.blk).foldl (fun s z =>
    if z.1 = 3 then
      let d := dstSlot e.blk
      undefRuns s c (rowRuns e.blk (dstBase s c e) d.fmt (64 * d.pitch))
    else if z.1 = 6 then undefMem s (ownAddr s c (spBase c + z.2.2.1.toNat)) (z.2.2.2.1 - z.2.2.1).toNat
    else s) s

/-- VQ_OP_COMPLETE (R234): the n-th VEC or RED in flight completes: it releases and commits its slots and performs its signal. It
waits for earlier operations whose extents conflict (R232). -/
def vqOpComplete (s : State) (c : Fin 8) (n : Nat) : State :=
  let k := s.cl[c]
  let vq := k.flights.filter (fun f => f.e.kind == .vec || f.e.kind == .red)
  match vq[n]? with
  | none => s
  | some fl =>
    let e := fl.e
    let b := e.blk
    let done (s : State) : State :=
      let wait := match e.dslot with
        | some i => vDstReelEn b && reelHolds s c (vDstReel b) i
        | none => false
      if wait then s else dropFlight (opSignal (cbump s c 0x4041 (if e.kind = .red then 2 else 1) 1) c e) c e.id
    if fl.phase = 1 then done s
    else if (vq.take n).any (fun f => spansMeet (vecSpans s c f.e) (vecSpans s c e)) || spansMeet (gradeLeft s c e.id) (vecSpans s c e) then s
    else
      match (if vEmpty b then none else vecPoison s c e) with
      | some x =>
        let s1 := vecUndef s c e
        dropFlight (raiseF s1 (vecRep s1 c e 7 0 x.2 5 x.1)) c e.id
      | none =>
        let s1 := if vEmpty b then s else vecRun s c fl
        let s2 := modFlight s1 c e.id (fun x => { x with phase := 1 })
        let s3 := match e.slot with
          | some i => if vSrcReelEn b then reelRelease s2 c (vSrcReel b) i else s2
          | none => s2
        let s4 := match e.dslot with
          | some i => if vDstReelEn b then reelCommit s3 c (vDstReel b) i else s3
          | none => s3
        done s4

/-- VQ_OP_COMPLETE. -/
def execVqOpComplete (c : Fin 8) (n : Nat) (s : State) : Host.Outcome State Fault Refusal := .next (vqOpComplete s c n)

end Sys2Proof.Machine
end

