-- ==== Sys2Proof/Machine/Dispatching.lean ====
section
/-! DEFINITION. Machine/Dispatching.lean: dispatch from the engine queues (R47, R51-R53, R302, R306), gate and CWAIT timeouts (R47,
R50), and the slots of reels: reservation, commit, claim, release and wait timeout (R142, R143). -/

namespace Sys2Proof.Machine

/-! Gates. -/

/-- The cluster's queue without the operation at its head; an MMA takes its prep and grade slots with it. -/
def popOp (s : State) (c : Fin 8) (q : QSel) (e : QEntry) : State :=
  modC s c (fun k =>
    let k1 := qPut k q ((qGet k q).filter (fun x => !(x.id == e.id && x.kind == e.kind)))
    if e.kind = .mma then { k1 with vq := k1.vq.filter (fun x => x.mma != e.id || !(x.kind == .prepA || x.kind == .prepB || x.kind == .grade)) } else k1)
/-- An operation at the head of its queue ends with a fault. -/
def headFault (s : State) (c : Fin 8) (q : QSel) (e : QEntry) (f : FaultRep) : State :=
  dropWaiter (popOp (raiseF s f) c q e) (.gate c e.id)
/-- A fault of an operation's gate or signal clapper (R302): which 0xF0 or 0xF1. -/
def clapRep (s : State) (c : Fin 8) (e : QEntry) (code clap which : Nat) : FaultRep := opRep s c e code (clapGlobal s clap) (det which 0 0 0)
/-- The gate or signal clapper of an operation lies outside the job's regions (R302). -/
def gateCheck (s : State) (c : Fin 8) (e : QEntry) : Option FaultRep :=
  let b := e.blk
  if e.kind = .clap then none
  else if hGateEn b && !protOk s (partOf s c) (clapAddr (hGateClap b)) 64 false then some (clapRep s c e 6 (hGateClap b) 0xF0)
  else if hSigEn b && !protOk s (partOf s c) (clapAddr (hSigClap b)) 64 true then some (clapRep s c e 6 (hSigClap b) 0xF1)
  else if e.kind = .mma && fld b 480 1 == 1 && !protOk s (partOf s c) (clapAddr (fld b 481 14)) 64 true then some (clapRep s c e 6 (fld b 481 14) 0xF1)
  else none
/-- The operation has a gate that has not been released. -/
def gateShut (s : State) (c : Fin 8) (e : QEntry) : Bool := e.kind != .clap && hGateEn e.blk && !s.freed.contains (.gate c e.id)
/-- The state with f applied to the entry at the head of a queue. -/
def modHead (s : State) (c : Fin 8) (q : QSel) (f : QEntry → QEntry) : State :=
  modC s c (fun k => qPut k q (match qGet k q with
    | e :: t => f e :: t
    | [] => []))

/-! CLAP. -/

/-- DETAIL of a CLAP fault (R307). -/
def clapDet (check op : Nat) : Nat := check + 65536 * op
/-- The first failing check 1-3 of R306. -/
def clapCheck (s : State) (c : Fin 8) (r : ClapReq) : Option (Nat × Nat) :=
  let g := r.target.toNat
  let a := localPart g
  firstBad [
    (g % 64 != 0, (5, 1)),
    (decide (2 ^ 63 ≤ g) || (!unnumbered s && !validModule s (modulePart g)) || !(decide (clapBase ≤ a) && decide (a < clapBase + 0x100000)), (6, 2)),
    (isLocal s g && !protOk s (partOf s c) a 64 (r.op != 0), (6, 3))]
/-- A CLAP dispatches (R298, R304): to the clapper's home, or to another module. -/
def clapDispatch (s : State) (c : Fin 8) (e : QEntry) : State :=
  let r := e.clap
  let g := r.target.toNat
  let rep (code check : Nat) : FaultRep := opRep s c e code g (clapDet check r.op)
  let ret : ClapRet := if clapReturns r.op then .core c r.rd else .none
  if isLocal s g then
    emitClap s c (rep 0 0) { unit := 16 * c.val + 8, op := r.op, clap := (localPart g - clapBase) / 64, val := r.val, cmp := r.cmp, ret := ret,
                             bad := some (rep 7 6) }
  else
    sendReq s c (rep 0 0) (clapPacket (16 * c.val + 8) g r.op (jobKey s (partOf s c)) r.val r.cmp) (.clap (rep 0 0) ret)

/-! Dispatch. -/

/-- The reel slots that the entry at the head of a queue must hold before it dispatches (R172, R209): a source, then a destination. -/
def slotWanted (e : QEntry) : Option Nat × Option Nat :=
  let b := e.blk
  match e.kind with
  | .tld => (if (tileF b).isReel then some (tileF b).reel else none, none)
  | .vec => (if vSrcReelEn b then some (vSrcReel b) else none, if vDstReelEn b then some (vDstReel b) else none)
  | .red => (if vSrcReelEn b then some (vSrcReel b) else none, none)
  | _ => (none, none)
/-- The entry still waits for a slot. -/
def slotsWait (e : QEntry) : Bool :=
  let w := slotWanted e
  (w.1.isSome && e.slot.isNone) || (w.2.isSome && e.dslot.isNone)

/-- The fault of an operation's own checks at dispatch, if any. -/
def ownCheck (s : State) (c : Fin 8) (e : QEntry) : Option FaultRep :=
  let b := e.blk
  match e.kind with
  | .tld => tileFault s c e true
  | .tst => tileFault s c e false
  | .vec => (vecCheck s c false b).map (fun x => vecRep s c e x.1 x.2.1 x.2.2.1 x.2.2.2 0xFFFF)
  | .red => (vecCheck s c true b).map (fun x => vecRep s c e x.1 x.2.1 x.2.2.1 x.2.2.2 0xFFFF)
  | .stream => if stReserved b then some (opRep s c e 3 0 (det 0xFE 0xFF 0xFF 0xFF)) else none
  | .gather => (gatherCheck s c b).map (fun x => opRep s c e x.1 x.2.1 (gatherDet x.2.2.1 x.2.2.2 0xFFFF))
  | .tsend => if tsendReserved b then some (opRep s c e 3 0 (det 0xFE 0xFF 0xFF 0xFF))
      else (tsendCheck s c b).map (fun x => opRep s c e x.1 x.2.1 (descDet x.2.2.1 x.2.2.2 0))
  | .digest => if digestReserved b then some (opRep s c e 3 0 (det 0xFE 0xFF 0xFF 0xFF))
      else (digestCheck s c b).map (fun x => opRep s c e x.1 x.2.1 x.2.2)
  | .clap => (clapCheck s c e.clap).map (fun x => opRep s c e x.1 e.clap.target.toNat (clapDet x.2 e.clap.op))
  | _ => none

/-- The operation's unit is free to take it; an MMA waits for its prep slots (R241). -/
def unitFree (k : Cluster) (e : QEntry) : Bool :=
  match e.kind with
  | .mma => !arrayBusy k && !held k e && !k.vq.any (fun x => x.mma == e.id && (x.kind == .prepA || x.kind == .prepB))
  | .vec => !rangeWait k e
  | .red => true
  | .clap => true
  | kd => if isSqKind kd then !engineBusy k (engNo e.blk) else !held k e

/-- The operation dispatches, its checks made. -/
def dispatchOp (s : State) (c : Fin 8) (e : QEntry) : State :=
  match e.kind with
  | .tcfg => tcfgRun s c e
  | .tld => tileDispatch s c e true
  | .tst => tileDispatch s c e false
  | .mma =>
    let s1 := if s.cl[c].progs.any (fun p => p.mma == e.id) then s else modC s c (fun k => { k with progs := k.progs ++ bindProgs s c e.blk e.id })
    mmaStart s1 c e
  | .vec => vecDispatch s c e
  | .red => vecDispatch s c e
  | .stream => streamDispatch s c e
  | .clap => clapDispatch s c e
  | .digest => digestDispatch s c e
  | .prepA => s
  | .prepB => s
  | .grade => s
  | _ => modC s c (fun k => { k with flights := k.flights ++ [newFlight e RangeReg.reset false] })

/-- An operation whose gate is open dispatches when its unit is free, its checks pass and it holds its slots (R51). -/
def tryDispatch (s : State) (c : Fin 8) (q : QSel) (e : QEntry) : State :=
  if !unitFree s.cl[c] e then s
  else
    match (if e.kind = .mma ∧ ¬ e.checked then mmaCheck s c e.blk else none) with
    | some x => dropMma (mmaFail s c e x) c e.id
    | none =>
      match (if e.checked then none else ownCheck s c e) with
      | some f => headFault (countSeqlen s c f.code) c q e f
      | none =>
        if slotsWait e then modHead s c q (fun x => { x with checked := true, reelSince := some (x.reelSince.getD s.now) })
        else
          let s1 := modC s c (fun k => qPut k q ((qGet k q).drop 1))
          dispatchOp (dropWaiter s1 (.gate c e.id)) c e

/-- The ECC of a queue entry finds an uncorrectable error: its operation faults with E_POISON and a DETAIL that the specification does not give
(R447); that of a prep or grade slot is its MMA's fault. -/
def entryFault (s : State) (c : Fin 8) (q : QSel) (e : QEntry) : State :=
  let d := draw s
  let f := opRep s c e 7 0 (d.1 % 2 ^ 32)
  if e.kind = .prepA ∨ e.kind = .prepB then prepFault d.2 c e 0 f
  else if e.kind = .grade then
    match flightOf d.2 c e.mma with
    | some fl => popSlot (abandonMma (raiseF d.2 f) c fl.e.id 0 0 fl.e.blk) c
    | none => dropMma (raiseF d.2 f) c e.mma
  else headFault d.2 c q e f

/-- OP_DISPATCH (R51): the operation at the head of a queue; ecc tells that its entry's own ECC finds an uncorrectable error
(R447). Prep and grade slots at the head of VQ start and advance by their own commands. -/
def opDispatch (s : State) (c : Fin 8) (q : QSel) (ecc : Bool) : State :=
  match qGet s.cl[c] q with
  | [] => s
  | e :: _ =>
    let slot := e.kind == .prepA || e.kind == .prepB || e.kind == .grade
    if ecc then (if slot && e.checked then s else entryFault s c q e)
    else if slot then s
    else
      match (if e.waitSince.isSome ∨ e.checked then none else gateCheck s c e) with
      | some f => headFault s c q e f
      | none =>
        if gateShut s c e then modHead s c q (fun x => { x with waitSince := some (x.waitSince.getD s.now) })
        else tryDispatch s c q e

/-- GATE_TIMEOUT_EXPIRY (R47, R50, R302, R303): a gate at the head of queue q, or the core's CWAIT, has waited longer than
GATE_TIMEOUT; 0 means no limit. -/
def gateTimeoutExpiry (s : State) (c : Fin 8) (q : Option QSel) : State :=
  let t := cget s c 0x4005 0
  if t = 0 then s
  else
    match q with
    | some q =>
      match qGet s.cl[c] q with
      | e :: _ =>
        match e.waitSince with
        | some since => if gateShut s c e && elapsedUs s since t then headFault s c q e (clapRep s c e 12 (hGateClap e.blk) 0xF0) else s
        | none => s
      | [] => s
    | none =>
      match s.cl[c].core.status with
      | .cwait n _ _ since =>
        if elapsedUs s since t && !s.freed.contains (.cwait c) && !s.cl[c].core.halted then
          dropWaiter (coreFaultCode s c 28 12 (clapGlobal s n) 0) (.cwait c)
        else s
      | _ => s

/-! Reels. -/

/-- The tile store on the path that has no slot yet (R172). -/
def tstWaiting (k : Cluster) : Option Flight :=
  k.flights.find? (fun f => f.e.kind == .tst && f.phase == 0 && (tileF f.e.blk).isReel && f.e.slot.isNone && onPath k f.e.id)
/-- The entry at the head of a queue that waits for slots. -/
def headWaiting (k : Cluster) (q : QSel) : Option QEntry :=
  match qGet k q with
  | e :: _ => if e.checked && slotsWait e then some e else none
  | [] => none
/-- The descriptor of an engine that waits to start. -/
def descWaiting (s : State) (i : Fin 8) (e : Fin 4) : Option DescRun :=
  (streamOf s i e).bind (fun x => (x.1.descs.find? (fun d => !d.started)).bind (fun d => if d.waitSince.isSome then some d else none))

/-- REEL_RESERVE (R142, R146, R172, R209, R260, R261): the producer named takes the slot at the tail of reel r of cluster c, once one
is free. -/
def reelReserveRow (s : State) (c : Fin 8) (r : Nat) (u : ReelUser) : State :=
  let n := r % 32
  let t := rlGet s c n 6
  let free := reelFree s c n
  match u with
  | .op .mq =>
    match tstWaiting s.cl[c] with
    | some f =>
      if (tileF f.e.blk).reel ≠ n then s
      else if free then modFlight (reelReserve s c n) c f.e.id (fun x => { x with e := { x.e with slot := some t } })
      else modFlight s c f.e.id (fun x => { x with e := { x.e with reelSince := some (x.e.reelSince.getD s.now) } })
    | none => s
  | .op .vq =>
    match headWaiting s.cl[c] .vq with
    | some e => if (slotWanted e).2 = some n && e.dslot.isNone && free then modHead (reelReserve s c n) c .vq (fun x => { x with dslot := some t }) else s
    | none => s
  | .desc i e =>
    match descWaiting s i e with
    | some d =>
      if (descF d.d).isDR && (descF d.d).dReel == n && (dstMissing s i d).contains c && free then
        modDesc (reelReserve s c n) i e d.idx (fun x => { x with dstSlots := x.dstSlots ++ [(c.val, t)] })
      else s
    | none => s
  | .port p =>
    match gradeHead s c with
    | some (_, fl, un, pg) =>
      if (slotsMissing pg un).contains p && (portOf pg.bind p).reel == n && free then
        modUnit (reelReserve s c n) c fl.e.id un.u (fun x => { x with slots := x.slots ++ [(p, n, t)] })
      else s
    | none => s
  | .post =>
    match s.cl[c].mma.findSome? (fun m => (m.units.find? (fun x => x.stage == 5 && !x.posts.isEmpty)).map (fun x => (m.id, x.u))) with
    | some (id, un) => settleUnit s c id un
    | none => s
  | _ => s

/-- Grade units that waited for an earlier reservation to commit go on (R261). -/
def settleAll (s : State) (c : Fin 8) : State :=
  (s.cl[c].mma.flatMap (fun m => m.units.map (fun x => (m.id, x.u)))).foldl (fun s x => settleUnit s c x.1 x.2) s
/-- REEL_COMMIT (R142). -/
def reelCommitRow (s : State) (c : Fin 8) (r : Nat) : State := settleAll (reelCommitNext s c (r % 32)) c
/-- REEL_RELEASE (R142). -/
def reelReleaseRow (s : State) (c : Fin 8) (r : Nat) : State := reelReleaseNext s c (r % 32)

/-- REEL_CLAIM (R142, R172, R209): the consumer named claims the oldest committed slot of reel r, once one is ready. -/
def reelClaimRow (s : State) (c : Fin 8) (r : Nat) (u : ReelUser) : State :=
  let n := r % 32
  if !reelReady s c n then s
  else
    let i := reelNext s c n
    match u with
    | .op q =>
      match headWaiting s.cl[c] q with
      | some e => if (slotWanted e).1 = some n && e.slot.isNone then modHead (reelClaim s c n) c q (fun x => { x with slot := some i }) else s
      | none => s
    | .desc j e =>
      match descWaiting s j e with
      | some d => if j = c && srcMissing d && (descF d.d).sReel == n then modDesc (reelClaim s c n) c e d.idx (fun x => { x with srcSlot := some i }) else s
      | none => s
    | _ => s

/-- REEL_WAIT_TIMEOUT (R143, R172): the waiting operation, for MQ the store in flight before the load at the head, has waited longer than the GATE_TIMEOUT of its cluster and faults. -/
def reelWaitTimeout (s : State) (c : Fin 8) (u : ReelUser) : State :=
  let t := cget s c 0x4005 0
  let late (o : Option Nat) : Bool := match o with
    | some since => t != 0 && elapsedUs s since t
    | none => false
  match u with
  | .op q =>
    let store := (tstWaiting s.cl[c]).bind (fun f => if q = .mq && late f.e.reelSince then some f else none)
    let head := (headWaiting s.cl[c] q).bind (fun e => if late e.reelSince then some e else none)
    match store, head with
    | some f, _ => flightFault s c f 12 0 (det 8 2 3 (tileF f.e.blk).reg)
    | none, some e => headFault s c q e (if e.kind = .tld then opRep s c e 12 0 (det 8 1 3 (tileF e.blk).reg) else vecRep s c e 12 0 7 6 0xFFFF)
    | none, none => s
  | .desc i e =>
    match descWaiting s i e, streamOf s i e with
    | some d, some (_, fl) =>
      if i = c && late d.waitSince && (srcMissing d || !(dstMissing s i d).isEmpty) then descFault s c e fl d.idx 12 0 11 4 else s
    | _, _ => s
  | .port _ =>
    match gradeHead s c, s.cl[c].vq with
    | some (e, fl, un, pg), h :: _ =>
      if late h.reelSince && !(slotsMissing pg un).isEmpty then gradeFault s c fl un.u (firstElem e.blk un.u) (progRep s c e 12 0 (progDet 6 7 0xFFFF)) else s
    | _, _ => s
  | .post =>
    match s.cl[c].mma.findSome? (fun m => (m.units.find? (fun x => x.stage == 5 && !x.posts.isEmpty && x.outst == 0 && x.sigs.isEmpty)).map (fun x => (m.id, x))) with
    | some (id, un) =>
      match flightOf s c id with
      | some fl => if late fl.e.reelSince then gradeFault s c fl un.u (firstElem fl.e.blk un.u) (progRep s c fl.e 12 0 (progDet 6 7 0xFFFF)) else s
      | none => s
    | none => s
  | _ => s

/-- OP_DISPATCH. -/
def execOpDispatch (c : Fin 8) (q : QSel) (ecc : Bool) (s : State) : Host.Outcome State Fault Refusal := .next (opDispatch s c q ecc)
/-- GATE_TIMEOUT_EXPIRY. -/
def execGateTimeoutExpiry (c : Fin 8) (q : Option QSel) (s : State) : Host.Outcome State Fault Refusal := .next (gateTimeoutExpiry s c q)
/-- REEL_RESERVE. -/
def execReelReserve (c : Fin 8) (r : Nat) (u : ReelUser) (s : State) : Host.Outcome State Fault Refusal := .next (reelReserveRow s c r u)
/-- REEL_COMMIT. -/
def execReelCommit (c : Fin 8) (r : Nat) (s : State) : Host.Outcome State Fault Refusal := .next (reelCommitRow s c r)
/-- REEL_CLAIM. -/
def execReelClaim (c : Fin 8) (r : Nat) (u : ReelUser) (s : State) : Host.Outcome State Fault Refusal := .next (reelClaimRow s c r u)
/-- REEL_RELEASE. -/
def execReelRelease (c : Fin 8) (r : Nat) (s : State) : Host.Outcome State Fault Refusal := .next (reelReleaseRow s c r)
/-- REEL_WAIT_TIMEOUT. -/
def execReelWaitTimeout (c : Fin 8) (u : ReelUser) (s : State) : Host.Outcome State Fault Refusal := .next (reelWaitTimeout s c u)

end Sys2Proof.Machine
end

