-- ==== Sys2Proof/Machine/Clappers.lean ====
section
/-! DEFINITION. Machine/Clappers.lean: the homes of the clappers: operations (R294-R297, R304, R449), waiters (R300-R303, R394, R403,
R516), poison (R308), window loads (R37), and host operations (R295, R299, R511). -/

namespace Sys2Proof.Machine

/-- The home that performs the operations on clapper n: in PAIRED mode the leader's (R297, R449). -/
def homeOf (s : State) (n : Nat) : Fin 8 := if paired s then leader (clapHome n) else clapHome n
/-- The homes perform operations: not in PARK, STANDBY or OFF (R294). -/
def clapsServed (s : State) : Bool := decide (oget s 0x2001 0 ≤ 1)

/-! Waiters. -/

/-- A value satisfies a waiter (R300). -/
def satisfied (w : Waiter) (v : Word) : Bool := if w.eq then v == w.value else decide (w.value.toNat ≤ v.toNat)
/-- The queues of a cluster. -/
def allQs : List QSel := [.mq, .vq, .yq, .sq 0, .sq 1, .sq 2, .sq 3]
/-- The operation at the head of a queue whose place in issue order is id and that waits at its gate, with its queue. -/
def gateHead (k : Cluster) (id : Nat) : Option (QSel × QEntry) :=
  firstSome (fun q => match qGet k q with
    | e :: _ => if e.id = id ∧ e.kind ≠ .clap ∧ hGateEn e.blk = true ∧ e.waitSince.isSome then some (q, e) else none
    | [] => none) allQs
/-- WAITER_RELEASE (R300): a waiter proceeds. -/
def releaseOne (s : State) (w : Waiter) : State :=
  match w.who with
  | .cwait c =>
    match s.cl[c].core.status with
    | .cwait _ _ _ _ => retireNext (modCore s c (fun k => { k with status := .running })) c 4
    | _ => s
  | .entry g seq k => fireEntry s g seq k
  | .status g seq => statusFire s g seq
  | x => { s with freed := s.freed ++ [x] }
/-- The waiters of clapper n that value v satisfies are released. -/
def releaseAll (s : State) (n : Nat) (v : Word) : State :=
  let hit (w : Waiter) : Bool := w.clap == n && satisfied w v
  (s.waiters.filter hit).foldl releaseOne { s with waiters := s.waiters.filter (fun w => !hit w) }
/-- The start gate of partition p fails: the take completes REFUSED (R516). -/
def startRefused (s : State) (p : Fin 8) (code : Nat) : State :=
  match s.hf[p].gate with
  | some t => dropWaiter (completeIdle (modF s p (fun h => { h with gate := none })) p t 4 code) (.start p)
  | none => s
/-- A waiter finds its clapper poisoned (R302, R303, R516); a trigger stays registered. -/
def waiterPoisoned (s : State) (n : Nat) (w : Who) : State :=
  match w with
  | .gate c id =>
    match gateHead s.cl[c] id with
    | some (q, e) => headFault s c q e (clapRep s c e 7 n 0xF0)
    | none => s
  | .cwait c => dropWaiter (coreFault s c 27 (clapGlobal s n) 0) (.cwait c)
  | .start p => startRefused s p 7
  | _ => s

/-! Storage. -/

/-- CLAP_POISON (R308): clapper n becomes poisoned; it is counted and logged, and its waiters fault. -/
def clapPoison (s : State) (n : Nat) : State :=
  let h := clapHome n
  let s1 := incident (cbump { s with clapPz := mset false s.clapPz n true } h 0x4071 2 1) (16 * h.val + 8) 7 0x0A08 0
    (payOf [(16, n), (18, h.val)]) (takeId s h)
  (s1.waiters.filter (fun w => w.clap == n)).foldl (fun s w => waiterPoisoned s n w.who) s1
/-- What the read of a clapper's storage finds (R308). -/
def clapEcc (s : State) (n : Nat) (err : MemErr) : State :=
  match err with
  | .none => s
  | .corrected => cbump s (clapHome n) 0x4071 1 1
  | .uncorrectable => clapPoison s n
/-- The home performs operation op on clapper n (R296, R297): the old value and the state, or none when the clapper is poisoned and the
operation is not a SET (R308). -/
def homePerform (s : State) (n op : Nat) (x cmp : Word) : Option Word × State :=
  if clapBad s n && op != 1 then (none, s)
  else
    let old := clapGet s n
    let v := clapApply op old x cmp
    let s1 := { s with clapVal := mset 0 s.clapVal n v, clapPz := if op = 1 then mset false s.clapPz n false else s.clapPz }
    (some old, releaseAll (obump s1 (cobj (homeOf s n) 0x4070) 1 1) n v)

/-- The home performs a READ outside CLAP (R37, R295): what the storage holds, or none when the clapper is poisoned. -/
def homeRead (s : State) (n : Nat) (err : MemErr) : Option Word × State :=
  let s1 := clapEcc s n err
  if clapBad s1 n then (none, s1) else (some (clapGet s1 n), obump s1 (cobj (homeOf s1 n) 0x4070) 1 1)

/-! Operations. -/

/-- A value returned by a home (8 + m: by module m) sets out for the destination register of a CLAP; in PAIRED mode for that of both clusters
(R50, R448). -/
def returnTo (s : State) (c : Fin 8) (rd : Nat) (v : Word) (source : Nat) : State :=
  let cs := if paired s then [c, mirrorOf c] else [c]
  cs.foldl (fun s c => if s.cl[c].core.awaits.contains rd then { s with clapRes := s.clapRes ++ [(c, rd, v, source)] } else s) s
/-- The request of a collective's entry is answered (R395). -/
def entryAnswered (s : State) (g seq k : Nat) : State :=
  match (groupOf s g).run with
  | some r =>
    if r.seq = seq then
      modRun s g (fun r => { r with entries := (r.entries.zipIdx).map (fun y => if y.2 = k then { y.1 with outst := y.1.outst - 1 } else y.1) })
    else s
  | none => s
/-- An operation has been performed: the old value goes where it is awaited. -/
def clapDone (s : State) (m : ClapMsg) (old : Word) : State :=
  match m.ret with
  | .none => s
  | .core c rd => returnTo s c rd old (homeOf s m.clap).val
  | .coll _ _ _ => s
  | .fabric p => answer (cbump s (homeOf s m.clap) 0x4070 2 1) p 0 (if clapReturns m.op then toLE 8 old.toNat else []) 0
  | .entry g seq k => entryAnswered s g seq k
/-- An operation is refused on a poisoned clapper: its issuer faults with E_POISON (R302, R304, R306, R308); a collective whose signal it was ends as a
failed one does (R388, R404; its CHECK and SIDE: log entry 96). -/
def clapRefused (s : State) (m : ClapMsg) : State :=
  let s1 := match m.bad with
    | some f => raiseF s f
    | none => s
  match m.ret with
  | .fabric p => answer s1 p 2 [] 0
  | .coll g seq k =>
    let rep := collRep s1 g (m.unit - 0x80) 7 6 4 k (clapGlobal s m.clap)
    match (groupOf s1 g).run with
    | some r => if r.seq = seq ∧ gget s1 g 11 = 2 then collFault s1 g (m.unit - 0x80) 7 6 4 k (clapGlobal s m.clap) else raiseF s1 rep
    | none => raiseF s1 rep
  | .entry g seq k =>
    match (groupOf s1 g).run with
    | some r => if r.seq = seq then collFault (entryAnswered s1 g seq k) g (m.unit - 0x80) 7 6 4 k (clapGlobal s m.clap) else s1
    | none => s1
  | _ => s1
/-- An earlier operation holds m back: one of the same unit to the same home (R18, R298, R305), or a signal of the same operation that comes
before it (R135, R190). -/
def heldBack (s : State) (x m : ClapMsg) : Bool :=
  (x.unit == m.unit && homeOf s x.clap == homeOf s m.clap) || (m.grp != 0 && x.grp == m.grp)
/-- CLAPPER_OP_PERFORM (R297): the home takes the n-th waiting operation. -/
def clapperOpPerform (s : State) (n : Nat) (err : MemErr) : State :=
  match s.clapOps[n]? with
  | none => s
  | some m =>
    if !clapsServed s || (s.clapOps.take n).any (fun x => heldBack s x m) then s
    else
      let r := homePerform (clapEcc { s with clapOps := dropAt s.clapOps n } m.clap err) m.clap m.op m.val m.cmp
      match r.1 with
      | some old => clapDone r.2 m old
      | none => clapRefused r.2 m

/-! Registration. -/

/-- A waiter takes its place in the clapper's order, and is tested at once (R300); err is what the read of the storage finds (R308). -/
def enrol (s0 : State) (w : Waiter) (err : MemErr) : State :=
  let s := clapEcc s0 w.clap err
  if clapBad s w.clap then waiterPoisoned s w.clap w.who
  else if satisfied w (clapGet s w.clap) then releaseOne s w
  else { s with waiters := s.waiters ++ [w] }
/-- A clapper number in an object, as one of the 16,384. -/
def clapNo (n : Nat) : Nat := n % 16384
/-- WAITER_REGISTER (R300, R301): the gate at a head of a queue, a CWAIT, an armed entry, status or launch trigger, or a start gate registers
at its clapper. -/
def waiterRegister (s : State) (w : Who) (err : MemErr) : State :=
  if s.waiters.any (fun x => x.who == w) || s.freed.contains w then s
  else
    match w with
    | .gate c id =>
      match gateHead s.cl[c] id with
      | some (_, e) => enrol s { clap := hGateClap e.blk, eq := fld e.blk 78 1 == 1, value := BitVec.ofNat 64 (fld e.blk 0 64), who := w } err
      | none => s
    | .cwait c =>
      match s.cl[c].core.status with
      | .cwait n eq v _ => enrol s { clap := n, eq := eq, value := v, who := w } err
      | _ => s
    | .entry g seq k =>
      match (groupOf s g).run with
      | some r =>
        match r.entries[k]? with
        | some x =>
          if r.seq = seq ∧ x.stage = 1 ∧ gget s g 11 = 2 ∧ eFlag x.bytes 0 = true then
            enrol s { clap := clapNo (eF x.bytes 12 2), eq := false, value := BitVec.ofNat 64 (eF x.bytes 0 8 + seq * eF x.bytes 8 4), who := w } err
          else s
        | none => s
      | none => s
    | .status g seq =>
      match (groupOf s g).run with
      | some r =>
        if r.seq = seq ∧ gget s g 11 = 2 then enrol s { clap := clapNo (gget s g 6), eq := false, value := BitVec.ofNat 64 (seq + 1), who := w } err
        else s
      | none => s
    | .launch g =>
      if gget s g 1 = 1 ∧ drained s = false then
        enrol s { clap := clapNo (gget s g 5), eq := false, value := BitVec.ofNat 64 (gget s g 9 + 1), who := w } err
      else s
    | .start p =>
      match s.hf[p].gate with
      | some t =>
        if !bit t.flags 0 then s
        else if !protOk s p (clapAddr (clapNo t.startClap)) 64 false then startRefused s p 6
        else enrol s { clap := clapNo t.startClap, eq := false, value := BitVec.ofNat 64 t.startValue, who := w } err
      | none => s

/-! Window loads. -/

/-- The bytes that a window load of n bytes at local address a reads, or none where they are poisoned, and the state after the read: of memory, or of a
clapper's VALUE at the offset modulo 8 (R295), a READ that its home performs (R296, R308, R325). -/
def windowRead (s : State) (c : Fin 8) (a n : Nat) (err : MemErr) : Option (List Byte) × State :=
  let plain (x : Nat) : Option (List Byte) × State :=
    (if anyMesh s (16 * c.val) x n then none else some (rdBytes s x n), meshDone s (16 * c.val) false x n)
  match region a with
  | .clap k => ((homeRead s k err).1.map (fun v => slice (toLE 8 v.toNat) (a % 8) n), (homeRead s k err).2)
  | .sp _ => plain (ownAddr s c a)
  | _ => plain a
/-- WINDOW_LOAD_RESPONSE (R37, R49, R308): the response of a window load releases the core, or traps it; err is what a clapper's storage is found to
hold. -/
def windowLoadResponse (s : State) (c : Fin 8) (err : MemErr) : State :=
  match s.cl[c].core.status with
  | .winLoad rd n sg g remote reply =>
    let pc := s.cl[c].core.pc
    let word := match fetch s c with
      | .ins _ _ w => w
      | .bad _ w => w
    let len := if word % 4 = 3 then 4 else 2
    let back (s1 : State) : State := modCore s1 c (fun k => { k with status := .running })
    let done (s1 : State) : Option (List Byte) → State
      | none => coreFaultCode s1 c 5 7 (2 ^ 63 + g) word
      | some l => retire (modCore s1 c (fun k => xput k rd (if sg then sxW (8 * n) (ofLE l) else BitVec.ofNat 64 (ofLE l)))) c
          (pc + BitVec.ofNat 64 len)
    if remote then
      match reply with
      | some (code, bad, l) => if code = 0 then done (back s) (if bad then none else some l)
          else if code = 12 then coreFault (back s) c 30 (2 ^ 63 + g) word else coreFault (back s) c 5 (2 ^ 63 + g) word
      | none => s
    else
      let r := windowRead s c (localPart g) n err
      done (back r.2) r.1
  | _ => s

/-! The host. -/

/-- The reason to refuse a host access of PERM bit b to the block of clapper n (R511). -/
def hostClapBad (s : State) (p : Fin 8) (n b : Nat) : Option Nat :=
  firstBad [(decide (16384 ≤ n), 3), (!barOpen s, 2), (!protKey s (jobKey s p) (clapAddr n) 64 b, 0)]
/-- A host write that performs operation op on clapper n (R295, R308, R511). -/
def hostClapWrite (s : State) (p : Fin 8) (n op : Nat) (v : Word) (err : MemErr) (field : Nat) : State :=
  if !pcieUp s then s
  else
    match hostClapBad s p n 5 with
    | some r => hostRefused s p 4 r (0x40000000 + 64 * n + field) true
    | none =>
      let r := homePerform (clapEcc s n err) n op v 0
      match r.1 with
      | some _ => r.2
      | none => obump r.2 0x9003 7 1
/-- A PCIe AtomicOp with operands of `size` bytes at byte `field` of the block of clapper n (R299): on VALUE with 64-bit operands it is completed with
the old value, or with EP set when the clapper is poisoned (R308); any other is an unsupported request (R511). -/
def hostAtomic (s : State) (p : Fin 8) (n field size op : Nat) (v cmp : Word) (err : MemErr) : State :=
  if !pcieUp s then s
  else
    match firstBad [(decide (16384 ≤ n), 3), (!barOpen s, 2), (size != 8 || field != 0, 1), (!protKey s (jobKey s p) (clapAddr n) 64 5, 0)] with
    | some r => hostRefused s p 4 r (0x40000000 + 64 * n + field) false
    | none =>
      let r := homePerform (clapEcc s n err) n op v cmp
      match r.1 with
      | some old => { r.2 with outs := r.2.outs ++ [Out.cpl p.val (toLE 8 old.toNat) false] }
      | none => obump { r.2 with outs := r.2.outs ++ [Out.cpl p.val (zeros 8) true] } 0x9003 4 1
/-- HOST_CLAP_RESERVED_WRITE (R295): discarded and counted. -/
def hostClapReserved (s : State) (p : Fin 8) (n : Nat) : State :=
  if !pcieUp s then s
  else
    match hostClapBad s p n 5 with
    | some r => hostRefused s p 4 r (0x40000000 + 64 * n + 24) true
    | none => cbump s (clapHome n) 0x4071 3 1

/-- CLAPPER_OP_PERFORM. -/
def execClapperOpPerform (n : Nat) (err : MemErr) (s : State) : Host.Outcome State Fault Refusal := .next (clapperOpPerform s n err)
/-- WAITER_REGISTER. -/
def execWaiterRegister (w : Who) (s : State) (err : MemErr := .none) : Host.Outcome State Fault Refusal := .next (waiterRegister s w err)
/-- WINDOW_LOAD_RESPONSE. -/
def execWindowLoadResponse (c : Fin 8) (s : State) (err : MemErr := .none) : Host.Outcome State Fault Refusal := .next (windowLoadResponse s c err)
/-- HOST_CLAP_SET. -/
def execHostClapSet (p : Fin 8) (n : Nat) (v : Word) (err : MemErr) (s : State) : Host.Outcome State Fault Refusal :=
  .next (hostClapWrite s p n 1 v err 0)
/-- HOST_CLAP_ADD. -/
def execHostClapAdd (p : Fin 8) (n : Nat) (v : Word) (err : MemErr) (s : State) : Host.Outcome State Fault Refusal :=
  .next (hostClapWrite s p n 2 v err 8)
/-- HOST_CLAP_MAX. -/
def execHostClapMax (p : Fin 8) (n : Nat) (v : Word) (err : MemErr) (s : State) : Host.Outcome State Fault Refusal :=
  .next (hostClapWrite s p n 3 v err 16)
/-- HOST_ATOMIC_FETCHADD. -/
def execHostAtomicFetchadd (p : Fin 8) (n : Nat) (v : Word) (err : MemErr) (s : State) (field : Nat := 0) (size : Nat := 8) : Host.Outcome State Fault Refusal :=
  .next (hostAtomic s p n field size 4 v 0 err)
/-- HOST_ATOMIC_SWAP. -/
def execHostAtomicSwap (p : Fin 8) (n : Nat) (v : Word) (err : MemErr) (s : State) (field : Nat := 0) (size : Nat := 8) : Host.Outcome State Fault Refusal :=
  .next (hostAtomic s p n field size 5 v 0 err)
/-- HOST_ATOMIC_CAS. -/
def execHostAtomicCas (p : Fin 8) (n : Nat) (v cmp : Word) (err : MemErr) (s : State) (field : Nat := 0) (size : Nat := 8) : Host.Outcome State Fault Refusal :=
  .next (hostAtomic s p n field size 6 v cmp err)
/-- HOST_CLAP_RESERVED_WRITE. -/
def execHostClapReservedWrite (p : Fin 8) (n : Nat) (s : State) : Host.Outcome State Fault Refusal := .next (hostClapReserved s p n)

end Sys2Proof.Machine
end

