-- ==== Sys2Proof/Machine/Idle.lean ====
section
/-! DEFINITION. Machine/Idle.lean: when the block that an object configures is idle (R475, R476), for the values that are held until then. -/

namespace Sys2Proof.Machine

/-! Blocks and islands (R21, R524, R546). -/

/-- The islands that PARK turns off (R546). -/
def parkIslands : List Nat := [0, 1, 2, 3, 4, 5, 6, 7, 8, 9, 10, 11, 12, 13, 14, 15, 20]
/-- Island i is powered (R524, R546). -/
def islandOn (s : State) (i : Nat) : Bool :=
  let b := oget s 0x9010 0
  if i = 23 then decide (s.boot.kind ≠ 4)
  else if 4 ≤ s.boot.kind then false
  else if i = 22 then decide (1 ≤ b)
  else if b < 3 ∨ b = 11 ∨ s.pow.prot.isSome = true then false
  else if b < 9 then true
  else if oget s 0x2001 0 = 2 then !parkIslands.contains i
  else decide (oget s 0x2001 0 ≠ 3)
/-- The cluster of a per-cluster index. -/
def clusterOfIx (ix : Nat) : Fin 8 := toFin8 ((ix - 0x4000) / 0x100)
/-- The island of the block that an object configures (R21). -/
def objIsland (ix : Nat) : Nat :=
  if 0x3100 ≤ ix ∧ ix < 0x3200 then (ix - 0x3100) / 0x20
  else if 0x3010 ≤ ix ∧ ix < 0x3014 then 12
  else if 0x3020 ≤ ix ∧ ix < 0x3023 then 0
  else if 0x3030 ≤ ix ∧ ix < 0x3050 then 12
  else if 0x3050 ≤ ix ∧ ix < 0x3052 then 0
  else if 0x4000 ≤ ix ∧ ix < 0x4800 then (clusterOfIx ix).val
  else if 0x5001 ≤ ix ∧ ix < 0x5010 then 18
  else if 0x5010 ≤ ix ∧ ix < 0x5016 then (if ix < 0x5013 then 18 else 19)
  else if 0x5020 ≤ ix ∧ ix < 0x5200 then 16
  else if 0x6000 ≤ ix ∧ ix < 0x6500 then 20
  else if 0x9100 ≤ ix ∧ ix < 0x9108 then 21
  else 22
/-! Idle (R475). -/

/-- No partition with the job key k runs a take (R577); no key is 0. -/
def keyQuiet (s : State) (k : Nat) : Bool := (fins 8).all (fun p => k == 0 || jobKey s p != k || s.hf[p].run.isNone)
/-- The held value of an object, or the value in effect. -/
def heldOr (s : State) (ix sub : Nat) : Nat :=
  match s.dict.held.find? (fun h => h.ix == ix && h.sub == sub) with
  | some h => ofLE h.val
  | none => oget s ix sub
/-- An order of binding b is under way (R424, R426). -/
def bindBusy (s : State) (b : Nat) : Bool := s.dly.held.any (fun h => h.b == b) || s.dly.qps.any (fun x => x.2.msgs.any (fun m => m.binding == b))
/-- An order that names pool n is under way. -/
def poolBusy (s : State) (n : Nat) : Bool :=
  s.dly.held.any (fun h => isPage h.order && oPool h.order == n) || s.dly.qps.any (fun x => x.2.msgs.any (fun m => isPage m.order && oPool m.order == n))
/-- The block of an object with the idle apply point is idle, when the value v is about to apply (R416, R420, R446, R475, R536, R548, R577).
A PARTITION value applies to an idle cluster at once, also when the partition it names runs a take (R68; DESIGN CHOICE, log entry 86). -/
def blockIdle (s : State) (ix sub v : Nat) : Bool :=
  islandOn s (objIsland ix) &&
    (if 0x3100 ≤ ix ∧ ix < 0x3200 then clusterState s (toFin8 ((ix - 0x3100) / 0x20)) == 0
     else if 0x4000 ≤ ix ∧ ix < 0x4800 then clusterState s (clusterOfIx ix) == 0
     else if ix = 0x5024 then s.coll.groups.all (fun x => oget s (0x5100 + x.1) 11 != 2)
     else if 0x5100 ≤ ix ∧ ix < 0x5200 then oget s ix 11 == 0 && (groupOf s (ix - 0x5100)).waiting.isEmpty
     else if ix = 0x6010 then !bindBusy s (sub - 1)
     else if ix = 0x6011 then !poolBusy s (sub - 1)
     else if 0x6100 ≤ ix ∧ ix < 0x6500 then oget s ix 1 == 0
     else if ix = 0x7001 then (fins 8).all (fun c => clusterState s c == 0)
     else if ix = 0x8030 then s.hf[toFin8 (sub - 1)].run.isNone
     else if 0x8100 ≤ ix ∧ ix < 0x8180 then keyQuiet s (oget s ix 3) && keyQuiet s (if sub = 3 then v else heldOr s ix 3)
     else if 0x9100 ≤ ix ∧ ix < 0x9108 then (if sub ≤ 8 then !bit (oget s ix 11) ((sub - 1) % 4) else oget s ix 11 == 0)
     else true)

/-- The object applies when its block is idle. -/
def appliesIdle (ix sub : Nat) : Bool := match objRow ix sub with
  | some r => r.app == .idle
  | none => false
/-- A held value of one of the blocks that a take of the clusters cs uses, the clusters with their reels and range registers, the checking mode, job keys
and protection regions, whose apply point has been reached: it applies before the take starts (R99, R476, R478). -/
def dueBefore (s : State) (cs : List (Fin 8)) (h : Held) : Bool :=
  appliesIdle h.ix h.sub && blockIdle s h.ix h.sub (ofLE h.val) &&
    (if 0x4000 ≤ h.ix ∧ h.ix < 0x4800 then cs.contains (clusterOfIx h.ix)
     else if 0x3100 ≤ h.ix ∧ h.ix < 0x3200 then cs.contains (toFin8 ((h.ix - 0x3100) / 0x20))
     else h.ix == 0x7001 || h.ix == 0x8030 || (decide (0x8100 ≤ h.ix) && decide (h.ix < 0x8180)))

end Sys2Proof.Machine
end

