-- ==== Sys2Proof/Machine/Takes.lean ====
section
/-! DEFINITION. Machine/Takes.lean: take queues, the scheduler, the start, end and discard of takes, and completions (R41, R57, R58, R64-R67,
R512-R523). -/

namespace Sys2Proof.Machine

/-! Queues (R512, R520, R536). -/

/-- An object of function p (R536). -/
def fnGet (s : State) (p : Fin 8) (sub : Nat) : Nat := oget s (0x9100 + p.val) sub
/-- The state with it at v. -/
def fnSet (s : State) (p : Fin 8) (sub v : Nat) : State := oset s (0x9100 + p.val) sub v
/-- A counter of function p rises by one. -/
def fnBump (s : State) (p : Fin 8) (sub : Nat) : State := obump s (0x9100 + p.val) sub 1
/-- Queue q of function p is enabled. -/
def tqOn (s : State) (p : Fin 8) (q : Fin 4) : Bool := bit (fnGet s p 0x0B) q.val
/-- TQ_SIZE of a queue. -/
def tqSize (s : State) (p : Fin 8) (q : Fin 4) : Nat := fnGet s p (5 + q.val)
/-- The completion ring has room for one more entry (R518). -/
def cqRoom (s : State) (p : Fin 8) : Bool :=
  let n := fnGet s p 0x0A
  let h := s.hf[p]
  decide ((h.cqTail + 1) % n ≠ h.cqHead)
/-- BAR0 registers and queues work from the end of S3 (R526). -/
def hostServed (s : State) : Bool := decide (4 ≤ oget s 0x9010 0) && decide (oget s 0x9010 0 ≤ 10)
/-- TQ_TAIL (R520): a doorbell of a disabled queue, or beyond its size, is dropped and counted. -/
def tqTail (s : State) (p : Fin 8) (q : Fin 4) (v : Nat) : State :=
  if !hostServed s then s
  else if !tqOn s p q || decide (tqSize s p q ≤ v) then fnBump s p 0x0F
  else modF s p (fun h => { h with tail := vset h.tail q v })
/-- CQ_HEAD (R518, R520). -/
def cqHead (s : State) (p : Fin 8) (v : Nat) : State :=
  if !hostServed s then s
  else if fnGet s p 0x0A ≤ v then fnBump s p 0x0F
  else modF s p (fun h => { h with cqHead := v })
/-- HOST_QUEUE_ERROR (R523): queue q (none: the completion ring, which disables every queue) is disabled and the error logged. -/
def queueError (s : State) (p : Fin 8) (q : Option (Fin 4)) (cause addr : Nat) : State :=
  let en := fnGet s p 0x0B
  let s1 := fnSet s p 0x0B (match q with
    | some q => if bit en q.val then en - 2 ^ q.val else en
    | none => 0)
  logEv s1 0x85 0x0802 0 (payOf [(16, p.val), (17, match q with
    | some q => q.val
    | none => 0xFF), (18, cause), (24, addr)])
/-- A write of TQ_ENABLE (R521, R536): a queue without its rings is not enabled; a queue disabled completes its fetched entry ABORTED; the first
enable starts the completion ring anew. -/
def tqEnable (s : State) (p : Fin 8) (v : Nat) : Act :=
  let old := fnGet s p 0x0B
  if 16 ≤ v then refuse aRange s
  else if (fins 4).any (fun q => bit v q.val && !bit old q.val && (fnGet s p (1 + q.val) == 0 || fnGet s p 9 == 0)) then refuse aInconsistent s
  else
    let s1 := fnSet s p 0x0B v
    let s2 := endFetched s1 p 1 (fun t => bit old t.q && !bit v t.q)
    (aOk, activity (if old = 0 ∧ v ≠ 0 then modF s2 p (fun h => { h with cqHead := 0, cqTail := 0, phase := true }) else s2))

/-! Entries (R513, R514). -/

/-- A take entry (R513) of queue q. -/
def takeEntry (q : Nat) (b : List Byte) : TakeEnt :=
  { q := q, id := eF b 0 8, targ := eF b 8 8, image := eF b 16 8, imageLen := eF b 24 4, entry := eF b 28 4, flags := eF b 32 1,
    startClap := eF b 34 2, doneClap := eF b 36 2, startValue := eF b 40 8 }
/-- The first check of R514 that an entry fails. -/
def takeEntryBad (s : State) (p : Fin 8) (b : List Byte) : Option Nat :=
  let t := takeEntry 0 b
  let c := toFin8 (((clustersOf s p).head?.map (fun c => c.val)).getD 8)
  firstBad [
    (eF b 48 16 != 0 || eF b 38 2 != 0 || eF b 33 1 != 0 || decide (8 ≤ t.flags) || (bit t.flags 0 && decide (16384 ≤ t.startClap)) ||
      (bit t.flags 1 && decide (16384 ≤ t.doneClap)), 3),
    (t.image % 64 != 0 || t.entry % 2 == 1, 5),
    (decide (t.imageLen < 4) || decide (65536 < t.imageLen) || t.imageLen % 4 != 0 || decide (t.imageLen ≤ t.entry), 0x0E),
    (decide (2 ^ 63 ≤ t.image) || !isLocal s t.image ||
      !(inHbm (localPart t.image) t.imageLen || (!(clustersOf s p).isEmpty && partMem s c (localPart t.image) t.imageLen)), 6)]
/-- TAKE_ENTRY_FETCH (R512): the read of the entry at the head of an enabled queue, at most one entry ahead. -/
def takeEntryFetch (s : State) (p : Fin 8) (q : Fin 4) : State :=
  let h := s.hf[p]
  if hostServed s && pcieUp s && tqOn s p q && h.head[q] != h.tail[q] && !h.fetching[q] && h.fetched[q].isNone && !h.gate.any (fun t => t.q == q.val) then
    { modF s p (fun h => { h with fetching := vset h.fetching q true }) with
      outs := s.outs ++ [Out.hostRead p.val (fnGet s p (1 + q.val) + 64 * h.head[q]) 64] }
  else s
/-- The read under way of queue q ends without its entry (R523). -/
def fetchFailed (s : State) (p : Fin 8) (q : Fin 4) (cause : Nat) : State :=
  let h := s.hf[p]
  if h.fetching[q] then
    queueError (modF s p (fun h => { h with fetching := vset h.fetching q false })) p (some q) cause (fnGet s p (1 + q.val) + 64 * h.head[q])
  else s
/-- The state with f applied to the clock and power state. -/
def modPow (s : State) (f : Power → Power) : State := { s with pow := f s.pow }
/-- A wake from PARK by a fetched take begins (R548, R551). -/
def parkWake (s : State) : State :=
  if oget s 0x2001 0 = 2 ∧ oget s 0x2005 0 = 1 ∧ s.pow.want = none ∧ ((fins 8).any (fun p => !(fetchedTakes s p).isEmpty)) = true then
    modPow s (fun p => { p with want := some (1, 3, s.now) })
  else s
/-- TAKE_ENTRY_ARRIVAL (R512, R514, R519, R522): a whole entry advances TQ_HEAD and is checked; an Unsupported Request or Completer Abort (bad 1)
or a poisoned completion (bad 2) disables the queue. An entry of a queue disabled meanwhile completes ABORTED; a fetched take may wake the module from
PARK (R548). -/
def takeEntryArrival (s : State) (p : Fin 8) (q : Fin 4) (b : List Byte) (bad : Nat) : State :=
  let h := s.hf[p]
  if !h.fetching[q] then s
  else if bad ≠ 0 then fetchFailed s p q (if bad = 1 then 1 else 2)
  else
    let t := takeEntry q.val b
    let s1 := fnBump (modF s p (fun h => { h with fetching := vset h.fetching q false, head := vset h.head q ((h.head[q] + 1) % tqSize s p q) })) p 0x0D
    if !tqOn s p q then completeIdle s1 p t 1 0x0F
    else
      match takeEntryBad s p b with
      | some code => completeIdle s1 p t 4 code
      | none => if drained s then completeIdle s1 p t 2 0x0F else parkWake (modF s1 p (fun h => { h with fetched := vset h.fetched q (some t) }))

/-! The scheduler (R33, R516). -/

/-- TAKE_SCHEDULE (R516, R518, R519): the next fetched take by round robin over the queues goes to its start gate; with no cluster it completes
EMPTY. A completion that waits for room in the ring holds the partition. -/
def takeSchedule (s : State) (p : Fin 8) : State :=
  let h := s.hf[p]
  if h.run.isSome || h.gate.isSome || (!h.compl.isEmpty && !cqRoom s p) || oget s 0x9010 0 != 9 || !mayStart s then s
  else
    match ((fins 4).map (fun i => (h.rr + 1 + i.val) % 4)).find? (fun q => (h.fetched.toList[q]?.bind id).isSome) with
    | none => s
    | some q =>
      match h.fetched.toList[q]?.bind id with
      | none => s
      | some t =>
        let qf : Fin 4 := ⟨q % 4, Nat.mod_lt _ (by decide)⟩
        let s1 := modF s p (fun h => { h with rr := q, fetched := vset h.fetched qf none })
        if (clustersOf s p).isEmpty then completeIdle s1 p t 3 0x0F
        else activity (modF s1 p (fun h => { h with gate := some t }))
/-- The value of a held object takes effect at cycle 0 of a take start (R475): RANGE_CLEAR clears registers, every other take-boundary
object takes its value. -/
def takeApply (s : State) (h : Held) : State :=
  if h.ix % 0x100 = 0x16 ∧ 0x4000 ≤ h.ix ∧ h.ix < 0x4800 then
    modC s (toFin8 ((h.ix - 0x4000) / 0x100)) (fun k =>
      { k with rr := (fins 16).foldl (fun v i => if bit (ofLE h.val) i.val then vset v i RangeReg.reset else v) k.rr })
  else oset s h.ix h.sub (ofLE h.val)
/-- A held value concerns the clusters that start (R475): a cluster's own objects, or an object of the module. -/
def takeConcerns (cs : List (Fin 8)) (h : Held) : Bool :=
  (match objRow h.ix h.sub with
    | some r => r.app == .take
    | none => false) &&
    (if 0x4000 ≤ h.ix ∧ h.ix < 0x4800 then cs.contains (toFin8 ((h.ix - 0x4000) / 0x100)) else true)
/-- A cluster at cycle 0 (R41): queues empty, registers and planes unconfigured. -/
def startCluster (k : Cluster) : Cluster :=
  { stopCluster k with reg := Vector.replicate 10 TReg.reset }
/-- TAKE_START (R41, R83, R99, R204, R469, R475, R476): the chosen take, its start gate satisfied and every held value of its blocks applied, starts on
every cluster of the partition; where no residue or no pair is checked, an injection that waits is dropped. -/
def takeStart (s : State) (p : Fin 8) : State :=
  match s.hf[p].gate with
  | none => s
  | some t =>
    let cs := clustersOf s p
    if (bit t.flags 0 && !s.freed.contains (.start p)) || !cs.all (fun c => clusterState s c == 0) || drained s || s.dict.held.any (dueBefore s cs) then s
    else
      let r : TakeRun := { ent := t, startTc := tcNow s, started := true, unsync := s.unsync, faults := [], stop := none, ended := [] }
      let s1 := modF { s with freed := s.freed.filter (fun w => w != .start p) } p (fun h => { h with gate := none, run := some r, lastTake := t.id })
      let s2 := (s1.dict.held.filter (takeConcerns cs)).foldl takeApply
        { s1 with dict := { s1.dict with held := s1.dict.held.filter (fun h => !takeConcerns cs h) } }
      let s2 := if paired s then s2 else oset s2 0x7008 0 0
      let s2 := if checkMode s2 = 0 then cs.foldl (fun s c => cset s c 0x4033 0 0) s2 else s2
      activity (cs.foldl (fun s c =>
        let s1 := cset (cset (modC s c startCluster) c 0x4002 0 1) c 0x4003 0 t.id
        [1, 2, 3].foldl (fun s i => cset s c 0x4011 i 0) s1) s2)
/-- A take whose image cannot be loaded faults (R515): CAUSE 29. -/
def imageFault (s : State) (c : Fin 8) (code image : Nat) : State := raiseF s (repOf s c 0 0 0 code image (det 29 0 0 0))
/-- CORE_RELEASE (R41, R515): the image is in core-local memory and the core is released. -/
def coreRelease (s : State) (c : Fin 8) : State :=
  let p := partOf s c
  match s.hf[p].run with
  | none => s
  | some r =>
    let t := r.ent
    let a := localPart t.image
    if clusterState s c ≠ 1 ∨ r.stop.isSome then s
    else if r.faults.any (fun f => f.cluster == c.val) ∨ s.faults.any (fun f => f.cluster == c.val && f.part == p.val) then s
    else if !protOk s p a t.imageLen false then imageFault s c 6 t.image
    else if anyMesh s (16 * c.val) (outerAddr s a) t.imageLen then imageFault (meshDone s (16 * c.val) false (outerAddr s a) t.imageLen) c 7 t.image
    else
      let img := rdBytes s (outerAddr s a) t.imageLen
      let regs : Vector Word 32 := vset (vset (Vector.replicate 32 0) 10 (BitVec.ofNat 64 t.targ)) 11 (BitVec.ofNat 64 (prank s c))
      let s1 := modC s c (fun k =>
        { k with clm := (img.zipIdx).foldl (fun m x => mset 0 m x.2 x.1) [], clmDraw := 0,
                 core := { Core.reset with x := regs, pc := BitVec.ofNat 64 t.entry, status := .running } })
      cset s1 c 0x4002 0 2

/-! The end of a take (R57, R58, R516, R517). -/

/-- A unit belongs to cluster c. -/
def unitIn (c : Fin 8) (unit : Nat) : Bool := decide (unit < 0x80) && unit / 16 == c.val
/-- Requests and clapper operations of cluster c that are on their way (R57, R65, 4). -/
def outstanding (s : State) (c : Fin 8) : Bool :=
  s.reqs.any (fun r => unitIn c r.pkt.srcUnit) || s.clapOps.any (fun m => unitIn c m.unit) || !s.cl[c].core.wstores.isEmpty
/-- Every queue of cluster c is empty and everything dispatched has retired (R57): no value of a CLAP is on its way back, and no operation has
faulted, even if its report has not arrived. -/
def clusterQuiet (s : State) (c : Fin 8) : Bool :=
  let k := s.cl[c]
  !s.faults.any (fun f => f.cluster == c.val && f.part == (partOf s c).val) && !s.clapRes.any (fun r => r.1 == c) && allQs.all (fun q => (qGet k q).isEmpty) && k.flights.isEmpty && k.mma.isEmpty && k.sendBuf.isEmpty && k.sendStall.isEmpty && k.egress.isEmpty && !outstanding s c
/-- The record of an engine fault is written (R12, R64, R462): SECONDARY unless it is the one chosen; E_RESIDUE and E_PAIR carry a continuity
record. -/
def faultRecord (s : State) (f : FaultRep) (take : Nat) (chosen : Bool) : State :=
  let u := faultUnit f
  let fl := (if chosen then 0 else 0x4000) ||| (if f.cold then 2 else 0)
  let side := f.detail / 256 % 256
  if f.code = 8 ∨ f.code = 9 then
    logCont s f.time u f.code fl (faultPay f take) 0 (if f.code = 9 then 4 else if side = 5 then 1 else 2) f.cflags take f.instr
  else logEvAt s f.time u f.code fl (faultPay f take)
/-- Reports of a collective or an order that are still on their way when a completion is handed over belong to no take (R58): they are recorded with
TAKE 0 (R388; log entry 81). -/
def lateReports (s : State) (p : Fin 8) : State :=
  (s.faults.filter (fun f => f.part == p.val && f.cluster == 0xFF)).foldl (fun s f => faultRecord s f 0 true)
    { s with faults := s.faults.filter (fun f => f.part != p.val) }
/-- The completion of a take is handed over (R57, R68, R516-R518): DONE_CLAPPER is signalled first when the code is 0. -/
def takeDone (s0 : State) (p : Fin 8) (r : TakeRun) (disp code : Nat) : State :=
  let s := lateReports s0 p
  let t := r.ent
  let n := clapNo t.doneClap
  let sig := if code = 0 ∧ bit t.flags 1 = true ∧ protOk s p (clapAddr n) 64 true = true then homePerform s n 2 1 0 else (none, s)
  let s1 := sig.2
  let x : Compl := { id := t.id, code := code, disp := disp, q := t.q, startTc := r.startTc, endTc := tcNow s1, flags := takeFlagsOf s1 p,
                     signalled := sig.1.isSome, unsync := r.unsync || s1.unsync, irq := bit t.flags 2 }
  let s2 := (clustersOf s1 p).foldl (fun s c =>
    cset (cbump (modCore s c (fun k => { k with status := .stopped })) c 0x4004 (if code = 0 then 1 else 2) 1) c 0x4002 0 (if drained s then 6 else 0)) s1
  activity (handOver (modF s2 p (fun h => { h with run := none })) p x)
/-- CLUSTER_ENDED (R33, R57): a cluster at TEND is quiet; with the last of them the take completes with code 0. -/
def clusterEnded (s : State) (c : Fin 8) : State :=
  let p := partOf s c
  match s.hf[p].run with
  | none => s
  | some r =>
    if r.stop.isSome || s.cl[c].core.status != .ended || s.cl[c].core.halted || !clusterQuiet s c || r.ended.contains c.val then s
    else
      let r1 := { r with ended := r.ended ++ [c.val] }
      let s1 := modF s p (fun h => { h with run := some r1 })
      if (clustersOf s p).all (fun d => r1.ended.contains d.val) then takeDone s1 p r1 0 0 else s1
/-- FAULT_REPORT (R58, R64, R388, R427): a report reaches the take controller and starts the discard. With no take running, a fault of a
collective or an order is recorded with TAKE 0, and any other belongs to no take. -/
def faultReport (s : State) (p : Fin 8) (n : Nat) : State :=
  match (s.faults.filter (fun f => f.part == p.val))[n]? with
  | none => s
  | some f =>
    let s1 := match findIdx (fun g => g == f) s.faults 0 with
      | some i => { s with faults := dropAt s.faults i }
      | none => s
    match s1.hf[p].run with
    | some r => discardStart (modF s1 p (fun h => { h with run := some { r with faults := r.faults ++ [f] } })) p .fault
    | none => if f.cluster = 0xFF then faultRecord s1 f 0 true else s1
/-- A fault takes its place in the order of R64: by TIMECODE, then SOURCE. -/
def faultInsert (f : FaultRep) : List FaultRep → List FaultRep
  | [] => [f]
  | g :: t => if f.time < g.time ∨ (f.time = g.time ∧ faultUnit f < faultUnit g) then f :: g :: t else g :: faultInsert f t
/-- The faults of a take in that order. -/
def faultsSorted (l : List FaultRep) : List FaultRep := l.foldl (fun a f => faultInsert f a) []
/-- The take ends in the discard: the first fault is chosen, unless an abort or a drain came before it (R64, R66, R519). -/
def discardCode (r : TakeRun) : Nat × Bool :=
  match faultsSorted r.faults, r.stop with
  | f :: _, some (.fault, _) => (f.code, true)
  | f :: _, some (_, t) => if f.time < t then (f.code, true) else (0x0F, false)
  | _, _ => (0x0F, false)
/-- DISCARD_COMPLETE (R64-R67, R439): once nothing of the partition is outstanding, its reels are emptied, its orders disposed of, the records
written, and the completion handed over. Reports still on their way count as reported (DEDUCED, log entry 85). A take discarded by a reset leaves no completion (R529). -/
def discardComplete (s : State) (p : Fin 8) : State :=
  match s.hf[p].run with
  | none => s
  | some r =>
    match r.stop with
    | none => s
    | some (why, _) =>
      let cs := clustersOf s p
      let gs := groupsOf s p
      if cs.any (outstanding s) || gs.any (fun g => (groupOf s g).run.isSome) then s
      else
        let own := s.faults.filter (fun f => f.part == p.val)
        let s1 := ordersDiscard { s with faults := s.faults.filter (fun f => f.part != p.val) } p
        let s2 := cs.foldl (fun s c => (List.range 32).foldl (fun s n => reelEmpty s c n) s) s1
        let r1 := { r with faults := r.faults ++ own }
        let code := discardCode r1
        let s3 := ((faultsSorted r1.faults).zipIdx).foldl (fun s x => faultRecord s x.1 r.ent.id (code.2 && x.2 == 0)) s2
        if why = .reset then
          activity (modF (cs.foldl (fun s c => cset s c 0x4002 0 (if drained s then 6 else 0)) s3) p (fun h => { h with run := none }))
        else takeDone s3 p r1 (if why = .abort then 1 else 0) code.1
/-- ABORT (R521): every match is acted on; a write without a match is counted. -/
def abortTake (s : State) (p : Fin 8) (id : Nat) : State :=
  if !hostServed s then s
  else
    let run := s.hf[p].run.any (fun r => r.ent.id == id)
    let hit := (fetchedTakes s p).any (fun t => t.id == id)
    if !run && !hit then fnBump s p 0x0E
    else
      let s1 := if run then
          match s.hf[p].run with
          | some r =>
            if r.stop.isNone then discardStart s p .abort
            else modF s p (fun h => { h with run := some { r with stop := r.stop.map (fun x => if x.1 = .fault then (.abort, tcNow s) else if x.1 = .drain then (.abort, x.2) else x) } })
          | none => s
        else s
      activity (endFetched s1 p 1 (fun t => t.id == id))

/-! Completions (R517, R518, R522, R523). -/

/-- The 32 bytes of a completion entry (R517). -/
def complBytes (x : Compl) (phase : Bool) : List Byte :=
  toLE 8 x.id ++ toLE 8 x.startTc ++ toLE 8 x.endTc ++ toLE 1 x.code ++ toLE 1 x.disp ++
    toLE 1 ((if phase then 1 else 0) + (if x.unsync then 2 else 0) + (if x.signalled then 4 else 0)) ++ toLE 1 x.q ++ toLE 1 x.flags ++ zeros 3
/-- COMPLETION_WRITE (R518, R522, R523): the oldest completion is written to the ring when there is room, then its MSI-X message follows; a
write that fails disables every queue, and the completion is held. -/
def completionWrite (s : State) (p : Fin 8) (fail : Bool) : State :=
  let h := s.hf[p]
  match h.compl with
  | [] => s
  | x :: rest =>
    let a := fnGet s p 9 + 32 * h.cqTail
    if !cqRoom s p || fnGet s p 0x0B == 0 || !pcieUp s then s
    else if fail then queueError s p none 3 a
    else
      let n := fnGet s p 0x0A
      let last := h.cqTail + 1 == n
      let s1 := modF { s with outs := s.outs ++ [Out.hostWrite p.val a (complBytes x h.phase)] } p (fun h =>
        { h with compl := rest, cqTail := (h.cqTail + 1) % n, phase := if last then !h.phase else h.phase })
      if x.irq then msix s1 p 0 else s1

/-! The rows. -/

/-- TQ_TAIL. -/
def execTqTail (p : Fin 8) (q : Fin 4) (v : Nat) (s : State) : Host.Outcome State Fault Refusal := .next (tqTail s p q v)
/-- CQ_HEAD. -/
def execCqHead (p : Fin 8) (v : Nat) (s : State) : Host.Outcome State Fault Refusal := .next (cqHead s p v)
/-- ABORT. -/
def execAbort (p : Fin 8) (id : Word) (s : State) : Host.Outcome State Fault Refusal := .next (abortTake s p id.toNat)
/-- TQ_ENABLE. -/
def execTqEnable (via : Iface) (p : Fin 8) (v : Nat) (s : State) : Host.Outcome State Fault Refusal :=
  .next (written s via (0x9100 + p.val) 0x0B (tqEnable s p v))
/-- TAKE_ENTRY_FETCH. -/
def execTakeEntryFetch (p : Fin 8) (q : Fin 4) (s : State) : Host.Outcome State Fault Refusal := .next (takeEntryFetch s p q)
/-- TAKE_ENTRY_ARRIVAL. -/
def execTakeEntryArrival (p : Fin 8) (q : Fin 4) (entry : List Byte) (bad : Nat) (s : State) : Host.Outcome State Fault Refusal :=
  .next (takeEntryArrival s p q entry bad)
/-- TAKE_SCHEDULE. -/
def execTakeSchedule (p : Fin 8) (s : State) : Host.Outcome State Fault Refusal := .next (takeSchedule s p)
/-- TAKE_START. -/
def execTakeStart (p : Fin 8) (s : State) : Host.Outcome State Fault Refusal := .next (takeStart s p)
/-- CORE_RELEASE. -/
def execCoreRelease (c : Fin 8) (s : State) : Host.Outcome State Fault Refusal := .next (coreRelease s c)
/-- CLUSTER_ENDED. -/
def execClusterEnded (c : Fin 8) (s : State) : Host.Outcome State Fault Refusal := .next (clusterEnded s c)
/-- FAULT_REPORT. -/
def execFaultReport (p : Fin 8) (n : Nat) (s : State) : Host.Outcome State Fault Refusal := .next (faultReport s p n)
/-- DISCARD_COMPLETE. -/
def execDiscardComplete (p : Fin 8) (s : State) : Host.Outcome State Fault Refusal := .next (discardComplete s p)
/-- COMPLETION_WRITE. -/
def execCompletionWrite (p : Fin 8) (fail : Bool) (s : State) : Host.Outcome State Fault Refusal := .next (completionWrite s p fail)
/-- PCIE_COMPLETION_TIMEOUT (R523): the read of a take entry gets no completion. -/
def execPcieCompletionTimeout (p : Fin 8) (q : Fin 4) (s : State) : Host.Outcome State Fault Refusal :=
  .next (if s.hf[p].fetching[q] then fetchFailed (obump s 0x9003 5 1) p q 0 else s)

end Sys2Proof.Machine
end

