-- ==== Sys2Proof/Machine/Power.lean ====
section
/-! DEFINITION. Machine/Power.lean: clock sources and PLLs (R539-R543), cluster clocks, the power limiter and thermal targets (R545, R556,
R558), power states (R546-R553), telemetry (R557), protective shutdown (R559) and unit failures (R561). -/

namespace Sys2Proof.Machine

/-! Islands and clocks (R21, R540-R546). -/

/-- A number as an island with a PLL or without. -/
def toIsland (n : Nat) : Fin 24 := ⟨n % 24, Nat.mod_lt _ (by decide)⟩
/-- The unit of the clock and power control of an island (R561). -/
def islandUnit (i : Nat) : Nat := if i < 8 then 16 * i + 13 else 0xD0 + i
/-- The islands that STANDBY turns off. -/
def standbyIslands : List Nat := parkIslands ++ [16, 17, 18, 19, 21]
/-- A set of islands as a mask, bit i for island i. -/
def islandMask (l : List Nat) : Nat := l.foldl (fun a i => a ||| 2 ^ i) 0
/-- x with bit i set to b. -/
def withBit (x i : Nat) (b : Bool) : Nat := if bit x i = b then x else if b then x + 2 ^ i else x - 2 ^ i
/-- PLL_LOCK of an island (R540). -/
def pllLock (s : State) (i : Nat) (on : Bool) : State := oset s 0x2010 0 (withBit (oget s 0x2010 0) (8 + i) on)
/-- The clock of an island in MHz while it is powered (R21, R562); islands 18-21 have none stated (log entry 34). -/
def islandMhz (s : State) (i : Nat) : Nat :=
  if i < 8 then oget s 0x2023 (i + 1) else if i < 12 then 2000 else if i < 18 then 1600 else if i = 22 then 400 else if i = 23 then 0
  else Config.islandMhz i
/-- Islands gain or lose power: their clocks and locks (R540, R562); an unpowered rail reads 0 (R557). -/
def islandsPower (s : State) (l : List Nat) (on : Bool) : State :=
  l.foldl (fun s i =>
    let s1 := oset (if i < 22 then pllLock s i on else s) 0x2013 (i + 1) (if on then islandMhz s i else 0)
    if on then s1 else oset (oset s1 0x2035 (i + 1) 0) 0x2036 (i + 1) 0) s
/-- The cluster islands are powered. -/
def clustersOn (s : State) : Bool := islandOn s 0
/-- The clocks of the clusters (R545): each runs at the lowest of CLUSTER_FREQ_MAX, the limiter's target and its die's thermal target;
FREQ_LIMITER names what holds it below 1,800 MHz (log entry 35). -/
def freqUpdate (s : State) : State :=
  (fins 8).foldl (fun s c =>
    let m := oget s 0x2022 0
    let p := s.pow.target
    let t := (s.pow.thermal.toList[c.val / 2]?).getD 1800
    let f := min m (min p t)
    let lim := if f = 1800 then 0 else (if m = f then 1 else 0) + (if p = f then 2 else 0) + (if t = f then 4 else 0)
    let s1 := oset (oset s 0x2023 (c.val + 1) f) 0x2024 (c.val + 1) lim
    if clustersOn s then oset s1 0x2013 (c.val + 1) f else s1) s

/-! Losing state with power (R128, R546, R552). -/

/-- The memory that a power state keeps: HBM, scratchpads. -/
def keepMem (s : State) (hbm sp : Bool) : State :=
  let keep (a : Nat) : Bool := if a < hbmSize then hbm else sp
  { s with mem := s.mem.filter (fun x => keep x.1), pz := s.pz.filter (fun x => keep (x.1 * 64)) }
/-- The stacks that have not failed read a state in HBM_STATE (R155). -/
def hbmStates (s : State) (v : Nat) : State :=
  (List.range 12).foldl (fun s k => if oget s 0x3010 (k + 1) = 3 then s else oset s 0x3010 (k + 1) v) s
/-- CLUSTER_STATE of every cluster. -/
def clusterStates (s : State) (v : Nat) : State := (fins 8).foldl (fun s c => cset s c 0x4002 0 v) s
/-- A cluster in PARK keeps its range registers and reels; its core, tile registers and planes are lost (R546). -/
def parkCluster (k : Cluster) : Cluster := { Cluster.reset with reels := k.reels, rr := k.rr, nextId := k.nextId }
/-- The PCIe link falls: PCIE_LINK is logged (R538). -/
def pcieDown (s : State) : State :=
  if pcieUp s then logEv (oset (oset s 0x9001 0 0) 0x9002 0 0) 0xC0 0x0804 0 0 else s
/-- POWER_STATE is logged (R563). -/
def powerEvent (s : State) (old cause since : Nat) : State :=
  logEv s 0xEA 0x0101 0 (payOf [(16, old), (17, oget s 0x2001 0), (18, cause), (20, (s.now - since) / 1000 % 2 ^ 32)])
/-- The timecode without the fabric (R552): ROOT stays, a synchronized module enters HOLDOVER. -/
def tcHold (s : State) : State :=
  if tcState s = 4 ∨ s.unsync = true ∨ tcState s = 3 then s
  else enterHoldover (oset s 0x1104 0 0xFF) (tcParent s)

/-! Power requests (R548-R552). -/

/-- The wake from STANDBY begins with boot step S3 (R552). -/
def standbyWake (s : State) (cause : Nat) : State :=
  modPow { oset s 0x9010 0 3 with boot := { s.boot with startAt := s.now, times := [], s3At := 0, s5 := false, s6 := false, kind := 3, failed := none } }
    (fun p => { p with want := some (1, cause, s.now) })
/-- A power request begins (R548): one for the present state completes at once. -/
def powerStart (s : State) (v cause : Nat) : State :=
  let cur := oget s 0x2001 0
  if cur = v ∨ (v = 1 ∧ cur = 0) then oset s 0x2003 0 2
  else if v = 1 ∧ cur = 3 then standbyWake (oset s 0x2003 0 1) cause
  else modPow (oset s 0x2003 0 1) (fun p => { p with want := some (v, cause, s.now) })
/-- The cause of a request in a POWER_STATE event. -/
def requestCause : Iface → Nat
  | .fn _ => 1
  | .dap => 2
  | .jtag => 1
/-- A write of POWER_REQUEST (R548, R559, R574): held while the module is ACTIVE. -/
def powerRequest (s : State) (via : Iface) (v : Nat) (nohold : Bool) : Act :=
  if v = 0 ∨ 3 < v then refuse aRange s
  else if s.pow.prot.isSome ∨ (v = 2 ∧ oget s 0x2001 0 = 3) ∨ debugLevel s = 3 then refuse aState s
  else if s.pow.want.isSome then refuse aBusy s
  else if oget s 0x2001 0 = 0 then
    let r := holdValue s via 0x2002 0 (toLE 1 v) false nohold
    if r.1 = aOk then (aOk, oset r.2 0x2003 0 1) else r
  else (aOk, powerStart s v (requestCause via))
/-- Every handshake that the model keeps open for the islands of an entry (R549): requests, clapper operations, entry reads and packets. -/
def openHandshakes (s : State) (target : Nat) : Bool :=
  !s.reqs.isEmpty || !s.clapOps.isEmpty ||
    (decide (target = 3) && (!s.fab.queue.isEmpty || !s.fab.inbox.isEmpty || (fins 8).any (fun p => (fins 4).any (fun q => s.hf[p].fetching[q]))))
/-- QUIESCE_COMPLETE (R549, R550, R552): the entry to PARK or STANDBY continues. -/
def quiesceComplete (s : State) : State :=
  match s.pow.want with
  | none => s
  | some (v, cause, t) =>
    let old := oget s 0x2001 0
    if v < 2 ∨ openHandshakes s v = true then s
    else
      let s0 := if debugLevel s = 2 then debugEnd s v else s
      let s1 := hbmStates (dailiesEnd s0 7 3) 2
      let s2 := if v = 2 then
          clusterStates { s1 with cl := s1.cl.map parkCluster } 5
        else
          let s3 := pcieDown (tcHold (linksDown s1 5))
          clusterStates (keepMem { s3 with cl := Vector.replicate 8 Cluster.reset, clapVal := [], clapPz := [], waiters := [], freed := [], clapRes := [] } true false) 5
      let s4 := oset (oset (islandsPower s2 (if v = 2 then parkIslands else standbyIslands) false) 0x2001 0 v) 0x2003 0 2
      parkWake (powerEvent (modPow s4 (fun p => { p with want := none })) old cause t)
/-- QUIESCE_TIMEOUT (R549): the entry is given up; nothing is powered down. -/
def quiesceTimeout (s : State) (islands : Nat) : State :=
  match s.pow.want with
  | none => s
  | some (v, _, t) =>
    if v < 2 ∨ s.now < t + oget s 0x2004 0 * 1000 then s
    else logEv (oset (modPow s (fun p => { p with want := none })) 0x2003 0 3) 0xEA 0x0102 0 (payOf [(16, v), (20, islands % 2 ^ 24)])
/-- PARK_WAKE_COMPLETE (R551): islands 0-15 and 20 run again, the stacks have left self-refresh, and the module enters IDLE; Ethernet ports
train. -/
def parkWakeComplete (s : State) : State :=
  match s.pow.want with
  | none => s
  | some (v, cause, t) =>
    if v ≠ 1 ∨ oget s 0x2001 0 ≠ 2 then s
    else
      let s1 := clusterStates (hbmStates (islandsPower s parkIslands true) 1) (if drained s then 6 else 0)
      let s2 := oset (oset (freqUpdate s1) 0x2001 0 1) 0x2003 0 2
      let s3 := [1, 2].foldl (fun s e => if oget s 0x6001 e = 1 ∧ drained s = false then oset s 0x6006 e 2 else s) s2
      activity (powerEvent (modPow s3 (fun p => { p with want := none })) 2 cause t)
/-- WAKE_N (R548, R594): heard in STANDBY alone, and not during a protective shutdown. -/
def wakeN (s : State) : State :=
  if oget s 0x2001 0 = 3 ∧ s.pow.prot = none ∧ s.pow.want = none then standbyWake s 4 else s

/-! Protective shutdown (R559) and unit failures (R561). -/

/-- PROTECT_SHUTDOWN (R559): takes are discarded without completions, every rail but those of islands 22 and 23 goes off, HBM contents are lost
and the module is in STANDBY; the record goes to the event log and to SHUTDOWN_LOG. -/
def protectShutdown (s : State) (cause who value : Nat) : State :=
  if s.pow.prot.isSome then s
  else
    let old := oget s 0x2001 0
    let s1 := pcieDown (tcHold (linksDown (dailiesEnd (debugEnd { s with sec := { s.sec with held := none } } 5) 7 3) 5))
    let s2 := { s1 with cl := Vector.replicate 8 Cluster.reset, clapVal := [], clapPz := [], waiters := [], freed := [], clapRes := [], clapOps := [],
                        reqs := [], faults := [], coll := Coll.reset,
                        hf := s1.hf.map (fun h => { h with run := none, gate := none, fetching := Vector.replicate 4 false, fetched := Vector.replicate 4 none }) }
    let s3 := islandsPower (clusterStates (hbmStates (keepMem s2 false false) 0) 5) standbyIslands false
    let s4 := modPow (oset s3 0x2001 0 3) (fun p => { p with want := none, prot := some cause, protAt := p.protAt ++ [oget s 0x7007 0] })
    let s5 := logEv s4 0xEA 0x0109 0 (payOf [(16, cause), (17, who), (20, value)])
    let s6 := match s5.evlog.getLast? with
      | some r => { s5 with flash := { s5.flash with shutdowns := (s5.flash.shutdowns ++ [recBytes r]).drop (s5.flash.shutdowns.length + 1 - 16) } }
      | none => s5
    powerEvent s6 old 5 s.now
/-- UNIT_FAILURE (R561): the failure is logged and its unit becomes suspect (R457). -/
def unitFailure (s : State) (unit cls : Nat) : State :=
  let t := stampTc s unit
  moduleDrain (logCont (stamped s unit t) t unit 0x010A 0 (payOf [(16, sourceOf s unit), (20, cls)]) 1 0 4 0 0) unit 0x010A 0 t
/-- INPUT_FAULT (R554, R555): undervoltage (2), overvoltage (3) or overcurrent (4) has lasted its time. -/
def inputFault (s : State) (cause value : Nat) : State :=
  if cause < 2 ∨ 4 < cause ∨ 4 ≤ s.boot.kind then s else protectShutdown s cause 0 (value % 2 ^ 32)

/-! The limiter, thermal targets and telemetry (R556-R558). -/

/-- The condition of R556 has held in every sample since `t`, one period of 100 µs before its first. -/
def heldFor (t : Option Nat) (now ns : Nat) : Bool := match t with
  | some t => decide (t + ns ≤ now + 100000)
  | none => false
/-- POWER_LIMITED (R563). -/
def limitedEvent (s : State) (cause p100 : Nat) : State :=
  logEv s 0xE8 0x0108 0 (payOf [(16, cause), (18, p100), (20, s.pow.target)])
/-- POWER_LIMITER_SAMPLE (R556, R557): P100 is recorded, and the three rules apply in order. -/
def powerLimiterSample (s : State) (watts : Nat) : State :=
  let p100 := watts % 65536
  let lim := oget s 0x2020 0
  let w := s.pow
  let pins := (p100 :: w.pins).take 10000
  let s1 := oset (oset (oset s 0x2032 1 p100) 0x2032 2 (pins.foldl (· + ·) 0 / pins.length)) 0x2033 0 (max p100 (oget s 0x2033 0))
  let s2 := oset s1 0x2034 0 (min ((w.energy + p100) / 10) (2 ^ 64 - 1))
  let above := if lim < p100 then some (w.above.getD s.now) else none
  let below := if p100 + 200 ≤ lim then some (w.below.getD s.now) else none
  let t1 := if oget s 0x2021 0 < p100 then max 600 (w.target - 200) else w.target
  let t2 := if heldFor above s.now 8000000 then max 600 (t1 - 100) else t1
  let up := heldFor below s.now 1000000 && decide (w.raised + 1000000 ≤ s.now) && decide (t2 < 1800)
  let t3 := if up then t2 + 25 else t2
  let s3 := freqUpdate (modPow s2 (fun w => { w with pins := pins, energy := w.energy + p100, above := above, below := below, target := t3,
                                                     raised := if up then s.now else w.raised }))
  let s4 := if t2 < w.target ∧ w.limited = 0 then limitedEvent (modPow s3 (fun w => { w with limited := 1 })) (if t1 < w.target then 1 else 0) p100 else s3
  let s5 := if w.target = 600 ∧ t3 = 600 ∧ lim < p100 ∧ s4.pow.limited ≠ 2 then limitedEvent (modPow s4 (fun w => { w with limited := 2 })) 3 p100
    else if 600 < t3 ∧ s4.pow.limited = 2 then modPow s4 (fun w => { w with limited := 1 }) else s4
  if t3 = 1800 ∧ s5.pow.limited ≠ 0 then limitedEvent (modPow s5 (fun w => { w with limited := 0 })) 2 p100 else s5
/-- A compute die as an index of its thermal state. -/
def toDie4 (d : Nat) : Fin 4 := ⟨d % 4, Nat.mod_lt _ (by decide)⟩
/-- THROTTLE (R563). -/
def throttleEvent (s : State) (d : Fin 4) (end_ : Nat) (tj : Int) : State :=
  logEv s 0xE9 0x0107 0 (payOf [(16, d.val), (17, end_), (18, i2n 2 tj), (20, s.pow.thermal[d])])
/-- The thermal target of a compute die after a sample (R558). -/
def throttle (s : State) (d : Fin 4) (tj : Int) : State :=
  let lim : Int := 16 * (oget s 0x2043 0 : Int)
  let w := s.pow
  let t := w.thermal[d]
  if lim ≤ tj ∧ 600 < t ∧ w.thermalAt[d] + 100000 ≤ s.now then
    let s1 := freqUpdate (modPow s (fun w => { w with thermal := vset w.thermal d (t - 25), thermalAt := vset w.thermalAt d s.now, throttled := vset w.throttled d true }))
    if w.throttled[d] then s1 else throttleEvent s1 d 0 tj
  else if tj ≤ lim - 48 ∧ t < 1800 ∧ w.thermalAt[d] + 1000000 ≤ s.now then
    let s1 := freqUpdate (modPow s (fun w => { w with thermal := vset w.thermal d (t + 25), thermalAt := vset w.thermalAt d s.now }))
    if t + 25 = 1800 ∧ w.throttled[d] = true then throttleEvent (modPow s1 (fun w => { w with throttled := vset w.throttled d false })) d 1 tj else s1
  else s
/-- THERMAL_SAMPLE (R557-R559, R561): the junction temperature of a die in 1/16 °C; `odd`: two of its sensors have disagreed by more than
10 °C for 1 s. -/
def thermalSample (s : State) (d : Fin 6) (tj : Int) (odd : Bool) : State :=
  let s1 := oset s 0x2040 (d.val + 1) (i2n 2 tj)
  let s2 := if sext 16 (oget s 0x2047 (d.val + 1)) < tj then oset s1 0x2047 (d.val + 1) (i2n 2 tj) else s1
  let n := if 16 * (oget s 0x2044 0 : Int) ≤ tj then s.pow.hot[d] + 1 else 0
  let s3 := modPow s2 (fun w => { w with hot := vset w.hot d (min n 3) })
  let s4 := if d.val < 4 then throttle s3 (toDie4 d.val) tj else s3
  let s5 := if odd then unitFailure s4 0xE9 3 else s4
  if 3 ≤ n then protectShutdown s5 0 d.val (i2n 4 tj) else s5
/-- The input lies within 36-48 V (R561). -/
def inputGood (s : State) : Bool := decide (36000 ≤ oget s 0x2030 0) && decide (oget s 0x2030 0 ≤ 48000)
/-- COOLANT_WARN (R562): COOLANT_IN above COOLANT_WARN_C, or 1 °C below it again. -/
def coolantCheck (s : State) : State :=
  let v := sext 16 (oget s 0x2042 0)
  let lim : Int := 16 * (oget s 0x2045 0 : Int)
  let ev (s : State) (back : Nat) := logEv s 0xE9 0x010B 0 (payOf [(16, oget s 0x2042 0), (18, back)])
  if !s.pow.coolant ∧ lim < v then ev (modPow s (fun w => { w with coolant := true })) 0
  else if s.pow.coolant ∧ v ≤ lim - 16 then ev (modPow s (fun w => { w with coolant := false })) 1
  else s
/-- TELEMETRY_SAMPLE (R557-R559, R561): quantity 0 VIN, 1 IIN, 2 RAIL_MV and 3 RAIL_MA of island i, 4 HBM_TEMP of stack i, 5 COOLANT_IN; 6: the
rail of island i has been outside ±5 % of its setting for 100 µs; 7: the intermediate bus is outside its range. -/
def telemetrySample (s : State) (k i : Nat) (v : Int) : State :=
  match k with
  | 0 => oset s 0x2030 0 (i2n 4 v)
  | 1 => oset s 0x2031 0 (i2n 4 v)
  | 2 => if i < 24 ∧ islandOn s i = true then oset s 0x2035 (i + 1) (i2n 2 v) else s
  | 3 => if i < 24 ∧ islandOn s i = true then oset s 0x2036 (i + 1) (i2n 4 v) else s
  | 4 =>
    if h : i < 12 then
      if !islandOn s (12 + i / 3) then s
      else
        let hot := if 95 * 16 ≤ v then true else if v < 92 * 16 then false else s.pow.hbmHot[i]
        let s1 := modPow (oset s 0x2041 (i + 1) (i2n 2 v)) (fun w => { w with hbmHot := w.hbmHot.set i hot h })
        if 105 * 16 ≤ v then protectShutdown s1 1 i (i2n 4 v) else s1
    else s
  | 5 => coolantCheck (oset s 0x2042 0 (i2n 2 v))
  | 6 => if i < 24 ∧ inputGood s = true ∧ islandOn s i = true then unitFailure s (islandUnit i) 2 else s
  | 7 => if inputGood s then unitFailure s 0xE8 4 else s
  | _ => s

/-! Sources and PLLs (R539-R543). -/

/-- CLK_SRC of an island. -/
def clkSrc (s : State) (i : Nat) : Nat := oget s 0x2011 (i + 1)
/-- The ready flag of a source: 0 XIN0, 1 FOSC, 2 XIN1 (R540). -/
def srcReady (s : State) (src : Nat) : Bool := bit (oget s 0x2010 0) (if src = 0 then 2 else if src = 1 then 0 else 3)
/-- The state with f applied to the PLL of island i: the source to return to and the start of its relock (R542). -/
def setPll (s : State) (i : Fin 24) (x : Option (Nat × Nat)) : State := modPow s (fun w => { w with pll := vset w.pll i x })
/-- A PLL changes its reference (R542). -/
def pllSwitch (s : State) (i : Fin 24) (src : Nat) : State :=
  pllLock (setPll (oset s 0x2011 (i.val + 1) src) i (some (clkSrc s i.val, s.now))) i.val false
/-- A write of CLK_SRC (R541). -/
def clkSrcWrite (s : State) (i : Fin 24) (v : Nat) : Act :=
  let allowed := if i.val < 18 then [0, 1] else if i.val < 21 then [0] else if i.val = 21 then [2] else []
  if !allowed.contains v then refuse aRange s
  else if !srcReady s v then refuse aState s
  else if clkSrc s i.val = v then (aOk, s)
  else (aOk, pllSwitch s i v)
/-- PLL_UNLOCK (R563). -/
def unlockEvent (s : State) (i : Fin 24) (outcome : Nat) : State :=
  logEv s (islandUnit i.val) 0x0106 0 (payOf [(16, i.val), (17, clkSrc s i.val), (18, outcome)])
/-- PLL_RELOCK (R540, R542, R543): the PLL is locked on its reference; a lock that was lost is logged as regained. -/
def pllRelock (s : State) (i : Fin 24) : State :=
  match s.pow.pll[i] with
  | none => s
  | some (prev, _) =>
    let s1 := modPow (pllLock (setPll s i none) i.val true) (fun w => { w with pllFails := vset w.pllFails i 0 })
    if prev = clkSrc s i.val then unlockEvent s1 i 0 else s1
/-- PLL_RELOCK_TIMEOUT (R542, R561): after 200 µs the PLL returns to the previous reference if that is ready; two failed locks in a row on a ready
reference are a unit failure. -/
def pllRelockTimeout (s : State) (i : Fin 24) : State :=
  match s.pow.pll[i] with
  | none => s
  | some (prev, t) =>
    if s.now < t + 200000 then s
    else
      let n := if srcReady s (clkSrc s i.val) then s.pow.pllFails[i] + 1 else s.pow.pllFails[i]
      let s1 := modPow s (fun w => { w with pllFails := vset w.pllFails i (min n 2) })
      let s2 := if srcReady s prev then unlockEvent (setPll (oset s1 0x2011 (i.val + 1) prev) i (some (prev, s.now))) i 1
        else unlockEvent (setPll s1 i none) i 2
      if 2 ≤ n then unitFailure s2 (islandUnit i.val) 1 else s2
/-- PLL_LOCK_LOSS (R540): the PLL tries its reference again if that is ready. -/
def pllLockLoss (s : State) (i : Fin 24) : State :=
  if 22 ≤ i.val ∨ bit (oget s 0x2010 0) (8 + i.val) = false then s
  else
    let s1 := pllLock s i.val false
    if srcReady s (clkSrc s i.val) then setPll s1 i (some (clkSrc s i.val, s.now)) else unlockEvent s1 i 2
/-- The islands that run from a source now. -/
def runsFrom (s : State) (src : Nat) : List Nat := (List.range 22).filter (fun i => clkSrc s i == src && islandOn s i)
/-- CLK_REF_LOST (R543): bit 2 (XIN0) or 3 (XIN1) of CLK_READY clears; PLLs hold, ports go down, clusters and mesh fall back to FOSC, and a
SYNCED module is in HOLDOVER without XIN0. -/
def clkRefLost (s : State) (b : Nat) : State :=
  if (b ≠ 2 ∧ b ≠ 3) ∨ bit (oget s 0x2010 0) b = false then s
  else
    let src := if b = 2 then 0 else 2
    let from_ := runsFrom s src
    let s1 := logEv (oset s 0x2010 0 (withBit (oget s 0x2010 0) b false)) 0xE6 0x0103 0 (payOf [(16, b), (20, islandMask from_)])
    let fall := if b = 2 ∧ oget s 0x2012 0 = 1 then from_.filter (fun i => decide (i < 18)) else []
    let s2 := fall.foldl (fun s i => pllSwitch s (toIsland i) 1) s1
    let s3 := if fall.isEmpty then s2 else logEv s2 0xE6 0x0105 0 (payOf [(20, islandMask fall)])
    let s4 := (from_.filter (fun i => !fall.contains i)).foldl (fun s i => pllLock s i false) s3
    if b = 3 then pcieDown s4
    else
      let s5 := ethDown (ethDown (linksDown s4 0) 0 0) 1 0
      if tcState s5 = 2 then tcHold s5 else s5
/-- CLK_REF_RESTORED (R543): the held PLLs relock and their ports retrain; islands that fell back stay on FOSC. -/
def clkRefRestored (s : State) (b : Nat) : State :=
  if (b ≠ 2 ∧ b ≠ 3) ∨ bit (oget s 0x2010 0) b = true then s
  else
    let src := if b = 2 then 0 else 2
    let s1 := logEv (oset s 0x2010 0 (withBit (oget s 0x2010 0) b true)) 0xE6 0x0104 0 (payOf [(16, b)])
    let s2 := (runsFrom s1 src).foldl (fun s i =>
      if bit (oget s 0x2010 0) (8 + i) then s else setPll s (toIsland i) (some (src, s.now))) s1
    if b = 3 then s2
    else [1, 2].foldl (fun s e => if oget s 0x6001 e = 1 ∧ oget s 0x6006 e = 1 ∧ dailiesServe s = true then oset s 0x6006 e 2 else s) s2

/-! The rows. -/

/-- POWER_REQUEST_IDLE. -/
def execPowerRequestIdle (via : Iface) (s : State) : Host.Outcome State Fault Refusal :=
  .next (written s via 0x2002 0 (powerRequest s via 1 false))
/-- POWER_REQUEST_PARK. -/
def execPowerRequestPark (via : Iface) (s : State) : Host.Outcome State Fault Refusal :=
  .next (written s via 0x2002 0 (powerRequest s via 2 false))
/-- POWER_REQUEST_STANDBY. -/
def execPowerRequestStandby (via : Iface) (s : State) : Host.Outcome State Fault Refusal :=
  .next (written s via 0x2002 0 (powerRequest s via 3 false))
/-- QUIESCE_COMPLETE. -/
def execQuiesceComplete (s : State) : Host.Outcome State Fault Refusal := .next (quiesceComplete s)
/-- QUIESCE_TIMEOUT: the islands that are not quiescent are a mask. -/
def execQuiesceTimeout (islands : Nat) (s : State) : Host.Outcome State Fault Refusal := .next (quiesceTimeout s islands)
/-- PARK_WAKE_COMPLETE. -/
def execParkWakeComplete (s : State) : Host.Outcome State Fault Refusal := .next (parkWakeComplete s)
/-- WAKE_N. -/
def execWakeN (s : State) : Host.Outcome State Fault Refusal := .next (wakeN s)
/-- POWER_LIMITER_SAMPLE: the new P100 in W. -/
def execPowerLimiterSample (p100 : Nat) (s : State) : Host.Outcome State Fault Refusal := .next (powerLimiterSample s p100)
/-- THERMAL_SAMPLE. -/
def execThermalSample (d : Fin 6) (tj : Int) (odd : Bool) (s : State) : Host.Outcome State Fault Refusal := .next (thermalSample s d tj odd)
/-- TELEMETRY_SAMPLE. -/
def execTelemetrySample (k i : Nat) (v : Int) (s : State) : Host.Outcome State Fault Refusal := .next (telemetrySample s k i v)
/-- INPUT_FAULT. -/
def execInputFault (cause value : Nat) (s : State) : Host.Outcome State Fault Refusal := .next (inputFault s cause value)
/-- CLK_REF_LOST. -/
def execClkRefLost (b : Nat) (s : State) : Host.Outcome State Fault Refusal := .next (clkRefLost s b)
/-- CLK_REF_RESTORED. -/
def execClkRefRestored (b : Nat) (s : State) : Host.Outcome State Fault Refusal := .next (clkRefRestored s b)
/-- CLK_SRC_WRITE. -/
def execClkSrcWrite (via : Iface) (i : Fin 24) (v : Nat) (s : State) : Host.Outcome State Fault Refusal :=
  .next (written s via 0x2011 (i.val + 1) (clkSrcWrite s i v))
/-- PLL_RELOCK. -/
def execPllRelock (i : Fin 24) (s : State) : Host.Outcome State Fault Refusal := .next (pllRelock s i)
/-- PLL_RELOCK_TIMEOUT. -/
def execPllRelockTimeout (i : Fin 24) (s : State) : Host.Outcome State Fault Refusal := .next (pllRelockTimeout s i)
/-- PLL_LOCK_LOSS. -/
def execPllLockLoss (i : Fin 24) (s : State) : Host.Outcome State Fault Refusal := .next (pllLockLoss s i)

end Sys2Proof.Machine
end

