-- ==== Sys2Proof/Machine/Security.lean ====
section
/-! DEFINITION. Machine/Security.lean: boot images (R565-R568), tokens and the lifecycle (R569-R572), debug sessions (R573-R575) and the
memory that they read. -/

namespace Sys2Proof.Machine

/-! Keys (R564). -/

/-- A key slot is revoked. -/
def keyRevoked (s : State) (k : Nat) : Bool := bit (oget s 0x8025 0) k
/-- A signature over the first 160 bytes of a header or token (R565, R569). -/
def signedOk (b : List Byte) : Bool :=
  ecdsaOk (ofBE (sha384 (slice b 0 160))) (ofBE (slice b 64 48)) (ofBE (slice b 112 48)) (ofBE (slice b 160 48)) (ofBE (slice b 208 48))
/-- The public key of a header or token has the digest of its slot. -/
def keyMatches (s : State) (b : List Byte) (k : Nat) : Bool := some (sha384 (slice b 64 96)) == s.fuses.keys.toList[k]?

/-! Images (R565-R568). -/

/-- The n bytes at offset a of image slot i; erased bytes read 0xFF. -/
def imgBytes (m : List (Nat × Byte)) (a n : Nat) : List Byte := (List.range n).map (fun i => mget 0xFF#8 m (a + i))
/-- The reason for which the root of trust rejects a slot, 0 if it passes (R566); `err`: flash reads fail. The image of manufacture passes under
key 0 (log entry 36). -/
def imageReason (s : State) (n : Fin 2) (err : Bool) : Nat :=
  match s.flash.image[n] with
  | none => if keyRevoked s 0 then 2 else if oget s 0x8021 (n.val + 1) < oget s 0x8024 0 then 4 else if err then 7 else 0
  | some m =>
    let h := imgBytes m 0 256
    let len := eF h 12 4
    let k := eF h 6 1
    if eF h 0 4 ≠ 0x4D49474C ∨ eF h 4 2 ≠ 1 ∨ eF h 7 1 ≠ 0 ∨ len % 64 ≠ 0 ∨ 16776960 < len then 1
    else if 1 < k ∨ keyRevoked s k = true then 2
    else if !keyMatches s h k then 3
    else if eF h 8 4 < oget s 0x8024 0 then 4
    else if sha384 (imgBytes m 256 len) ≠ slice h 16 48 then 5
    else if !signedOk h then 6
    else if err then 7 else 0
/-- IMAGE_STATE of slot n. -/
def imageState (s : State) (n : Nat) : Nat := oget s 0x8020 (n + 1) % 16
/-- The verdict on a slot is kept in IMAGE_STATE and IMAGE_SVN (R566, R568). -/
def imageVerdict (s : State) (n : Fin 2) (reason : Nat) : State :=
  let s1 := oset s 0x8020 (n.val + 1) (if reason = 0 then 1 else 3 + 16 * reason)
  match s.flash.image[n] with
  | none => s1
  | some m => oset s1 0x8021 (n.val + 1) (eF (imgBytes m 0 256) 8 1)
/-- KEY_INDEX of the image in a slot. -/
def imageKey (s : State) (n : Fin 2) : Nat := match s.flash.image[n] with
  | none => 0
  | some m => eF (imgBytes m 0 256) 6 1
/-- SECURE_BOOT (R567): slot 0 is verified, then slot 1 if that fails; bit n of `err`: reads of slot n fail. None passes: the answer is none. -/
def secureBoot (s : State) (err : Nat) : Option (Fin 2) × State :=
  let r0 := imageReason s 0 (bit err 0)
  let s1 := imageVerdict s 0 r0
  let r1 := imageReason s1 1 (bit err 1)
  let s2 := if r0 = 0 then s1 else imageVerdict s1 1 r1
  let slot : Option (Fin 2) := if r0 = 0 then some 0 else if r1 = 0 then some 1 else none
  let num := match slot with
    | some n => n.val
    | none => 0xFF
  let key := match slot with
    | some n => imageKey s2 n
    | none => 0
  let svn := match slot with
    | some n => oget s2 0x8021 (n.val + 1)
    | none => 0
  (slot, logEv (oset { s2 with boot := { s2.boot with svn := svn } } 0x9017 0 num) 0xC5 0x0901 0 (payOf [(16, num), (17, r0), (18, if r0 = 0 then 0xFF else r1), (19, key), (20, svn)]))
/-- A module reset is to follow 10 ms after the response (R531, R567, R571): kind 1 module, 2 warm, 3 module by the root of trust. -/
def resetLater (s : State) (kind : Nat) : State := { s with boot := { s.boot with due := some (kind, s.now + 10000000) } }
/-- OPEN (R568). -/
def imageOpen (s : State) (n : Fin 2) : Act :=
  if oget s 0x9017 0 = n.val ∧ imageState s (1 - n.val) ≠ 1 then refuse aState s
  else (aOk, oset { s with flash := { s.flash with image := vset s.flash.image n (some []) } } 0x8020 (n.val + 1) 2)
/-- IMAGE_LOAD (R568): a u64 offset and up to 65,528 bytes for the open slot; with both open, slot 0 (log entry 38). -/
def imageLoad (s : State) (b : List Byte) : Act :=
  let off := eF b 0 8
  let data := b.drop 8
  if b.length < 8 ∨ 65536 < b.length then refuse aLength s
  else if off % 64 ≠ 0 ∨ 16777216 < off + data.length then refuse aRange s
  else
    let put (n : Fin 2) : Act :=
      let m := (s.flash.image[n]).getD []
      (aOk, { s with flash := { s.flash with image := vset s.flash.image n (some ((data.zipIdx).foldl (fun m x => mset 0xFF#8 m (off + x.2) x.1) m)) } })
    if imageState s 0 = 2 then put 0 else if imageState s 1 = 2 then put 1 else refuse aState s
/-- FINISH (R567, R568). -/
def imageFinish (s : State) (n : Fin 2) (err : Bool) : Act :=
  if imageState s n.val ≠ 2 then refuse aState s
  else
    let r := imageReason s n err
    let s1 := imageVerdict s n r
    let s2 := logEv s1 0xC5 0x0902 0 (payOf [(16, n.val), (17, r), (18, oget s1 0x8021 (n.val + 1))])
    (aOk, if r = 0 ∧ oget s 0x9010 0 = 11 then resetLater s2 3 else s2)
/-- ABANDON (R568). -/
def imageAbandon (s : State) (n : Fin 2) : Act := if imageState s n.val ≠ 2 then refuse aState s else (aOk, oset s 0x8020 (n.val + 1) 3)
/-- RAISE_SVN (R568): to the SVN of the image that was booted, whatever its slot holds now. -/
def raiseSvn (s : State) : Act :=
  let n := oget s 0x9017 0
  let v := s.boot.svn
  if 1 < n ∨ v < oget s 0x8024 0 ∨ (imageState s (1 - n) = 1 ∧ oget s 0x8021 (2 - n) < v) then refuse aState s
  else (aOk, logEv (oset s 0x8024 0 v) 0xC5 0x0909 0 (payOf [(16, v)]))
/-- A write of IMAGE_CMD (R568, R581): the slot in [15:8] and the command in [7:0]. -/
def imageCmd (s : State) (v : Nat) (err : Bool) : Act :=
  let n : Fin 2 := ⟨v / 256 % 2, Nat.mod_lt _ (by decide)⟩
  if 2 ≤ v / 256 then refuse aRange s
  else match v % 256 with
    | 1 => imageOpen s n
    | 2 => imageFinish s n err
    | 3 => imageAbandon s n
    | 4 => raiseSvn s
    | _ => refuse aRange s

/-! Debug sessions (R573-R575). -/

/-- LIFECYCLE: 0 FACTORY, 1 PROVISIONED, 2 DEPLOYED, 3 RETURNED. -/
def lifecycle (s : State) : Nat := oget s 0x8001 0
/-- Level lv opens without a token (0), with one (1) or never (2) in lifecycle state l (R574). -/
def debugNeeds (lv l : Nat) : Nat :=
  if lv ≤ 1 ∨ l = 0 then 0 else if lv = 2 then (if l = 3 then 0 else 1) else if l = 2 then 2 else 1
/-- DEBUG_START (R573): the session opens. -/
def debugOpen (s : State) (lv part dur : Nat) (token : Bool) (via : Iface) : State :=
  let s1 := oset (oset s 0x8010 0 lv) 0x8013 0 part
  let s2 := { s1 with sec := { s1.sec with held := none, token := token, ends := if dur = 0 then none else some (s.now + dur * 1000000000) } }
  logEv s2 0xC6 0x0905 0 (payOf [(16, lv), (17, part), (18, ifaceNo via), (19, if token then 1 else 0), (20, dur)])
/-- The power state lets level lv open now (R574). -/
def debugReady (s : State) (lv : Nat) : Bool :=
  let w := oget s 0x2001 0
  decide (lv = 1) || (decide (lv = 2) && decide (w ≤ 1)) || (decide (lv = 3) && decide (w = 1))
/-- A session opens or is held; one at a time (R573, R574). -/
def debugBegin (s : State) (lv part dur : Nat) (token : Bool) (via : Iface) : Act :=
  if debugLevel s = 3 then refuse aState s
  else if debugLevel s ≠ 0 ∨ s.sec.held.isSome = true then refuse aBusy s
  else if debugReady s lv then (aOk, debugOpen s lv part dur token via)
  else (aOk, { s with sec := { s.sec with held := some (lv, part, dur, token, via) } })
/-- DEBUG_REQUEST (R573): the level in [3:0], the partition in [15:8]. -/
def debugRequest (s : State) (via : Iface) (v : Nat) : Act :=
  let lv := v % 16
  let part := v / 256 % 256
  if 1 ≤ lv ∧ lv ≤ 3 ∧ debugNeeds lv (lifecycle s) ≠ 0 then refuse aLocked s
  else if lv = 0 ∨ 3 < lv ∨ bits v 4 4 ≠ 0 ∨ 65536 ≤ v ∨ (if lv = 2 then decide (8 ≤ part) else decide (part ≠ 0xFF)) = true then refuse aRange s
  else debugBegin s lv part 0 false via
/-- A write of DEBUG_END (R573, R574). -/
def debugEndCmd (s : State) (v : Nat) : Act :=
  if v ≠ 1 then refuse aRange s
  else if debugLevel s = 3 then refuse aState s
  else (aOk, debugEnd { s with sec := { s.sec with held := none } } 0)
/-- HELD_DEBUG_OPEN (R574): a held request opens when the module is IDLE, and its duration counts from here. -/
def heldDebugOpen (s : State) : State :=
  match s.sec.held with
  | some (lv, part, dur, token, via) =>
    if oget s 0x2001 0 = 1 ∧ oget s 0x9010 0 ≤ 10 ∧ 9 ≤ oget s 0x9010 0 then debugOpen s lv part dur token via else s
  | none => s
/-- DEBUG_SESSION_EXPIRY (R574); a level 3 session ends only at reset. -/
def debugExpiry (s : State) : State :=
  match s.sec.ends with
  | some t => if t ≤ s.now ∧ debugLevel s ≠ 3 then debugEnd s 1 else s
  | none => s
/-- The clusters on which DBG_CORE acts: in PAIRED mode the pair (R575). -/
def dbgCores (s : State) (c : Fin 8) : List (Fin 8) := if paired s then [leader c, mirrorOf (leader c)] else [c]
/-- DBG_CORE (R575): 1 halts, 2 steps and 3 resumes a core of the session's partition. -/
def dbgCore (s : State) (c : Fin 8) (v : Nat) : Act :=
  let cs := dbgCores s c
  if !debugOn s c then refuse aLocked s
  else if v = 0 ∨ 3 < v then refuse aRange s
  else if v = 1 then
    (aOk, cs.foldl (fun s c => if s.cl[c].core.halted then s else logHalt (modCore s c (fun k => { k with halted := true })) c 0) s)
  else if v = 2 then
    if s.cl[c].core.halted then (aOk, cs.foldl (fun s c => modCore s c (fun k => { k with step := true })) s) else refuse aState s
  else (aOk, cs.foldl goOn s)
/-- The granule at local address a lies in a region keyed to k (R575). -/
def keyedTo (s : State) (k a : Nat) : Bool :=
  k != 0 && (List.range 128).any (fun r =>
    oget s (0x8100 + r) 3 == k && decide (oget s (0x8100 + r) 1 ≤ a) && decide (a + 64 ≤ oget s (0x8100 + r) 2))
/-- The n bytes at local address a as a debug session reads them, and whether one is poisoned: memory, or clappers, whose blocks read VALUE (R295). -/
def debugBytes (s : State) (a n : Nat) : List Byte × Bool :=
  if clapBase ≤ a then
    let l := (List.range n).map (fun i => (a - clapBase + i))
    (l.map (fun x => (clapGet s (x / 64)).extractLsb' (8 * (x % 8)) 8), l.any (fun x => clapBad s (x / 64)))
  else (rdBytes s (outerAddr s a) n, anyBad s (outerAddr s a) n)
/-- The read of DBG_MEM_DATA (R575). -/
def dbgMem (s : State) : Nat × List Byte :=
  let a := oget s 0x8054 0
  let k := jobKey s (toFin8 (oget s 0x8013 0))
  if debugLevel s ≠ 2 ∨ ((List.range 64).all (fun i => keyedTo s k (a + 64 * i))) = false then (aLocked, [])
  else
    let r := debugBytes s a 4096
    if r.2 then (aPoison, []) else (aOk, r.1)

/-! Tokens and the lifecycle (R569-R572). -/

/-- A new value of SEC_CHALLENGE is drawn (R570). -/
def Security.drawn (x : Security) : Security := { x with challenge := x.challenge + 1, challengeVal := Config.challenge (x.challenge + 1) }
/-- SEC_CHALLENGE (R570). -/
def challengeBytes (s : State) : List Byte := toLE 32 s.sec.challengeVal
/-- A lifecycle transition (R571): it ends every session, and a module reset follows. -/
def lifeTo (s : State) (next : Nat) : State :=
  let old := lifecycle s
  let s1 := oset (debugEnd { s with sec := { s.sec with held := none } } 6) 0x8001 0 next
  let s2 := if next = 3 then { s1 with flash := { s1.flash with slots := Vector.replicate 2 none, cur := none } }
    else if old = 3 then oset (oset { s1 with logs := { s1.logs with incidents := [] } } 0x7006 0 0) 0x8003 0 (oget s 0x8003 0 + 1)
    else s1
  resetLater (logEv s2 0xC5 0x0904 0 (payOf [(16, old), (17, next), (18, oget s2 0x8003 0)])) 3
/-- LIFECYCLE_CMD (R571): from PROVISIONED to DEPLOYED, from an admin interface. -/
def lifecycleCmd (s : State) (via : Iface) (v : Nat) : Act :=
  if via = .jtag then refuse aNotPermitted s
  else if v = 2 ∧ lifecycle s ≠ 1 then refuse aLocked s
  else if v ≠ 2 then refuse aRange s
  else (aOk, lifeTo s 2)
/-- A kind 2 token may move the lifecycle from `old` to `next` (R571). -/
def lifeAllowed (s : State) (old next : Nat) : Bool :=
  (old == 0 && next == 1) || (old == 2 && next == 3) || (old == 3 && next == 1 && oget s 0x8003 0 != 8)
/-- The key slot may be revoked: it is not the last of its use (R572). -/
def revokable (s : State) (k : Nat) : Bool := keyRevoked s k || !keyRevoked s (if k % 2 = 0 then k + 1 else k - 1)
/-- A token is malformed (R569): reason 1. -/
def tokenBad (t : List Byte) : Bool :=
  let kind := eF t 5 1
  let arg := eF t 6 1
  let part := eF t 48 1
  eF t 0 4 != 0x4B54474C || eF t 4 1 != 1 || eF t 56 8 != 0 || eF t 49 3 != 0 ||
    (match kind with
     | 1 => !(arg == 2 || arg == 3) || (if arg = 2 then decide (8 ≤ part) else part != 0xFF) || eF t 52 4 == 0 || decide (86400 < eF t 52 4)
     | 2 => decide (3 < arg) || part != 0xFF
     | 3 => decide (3 < arg) || part != 0xFF || eF t 7 1 == arg
     | _ => true)
/-- The reason for which a token is refused, 0 for none (R570). -/
def tokenReason (s : State) (t : List Byte) : Nat :=
  let kind := eF t 5 1
  let arg := eF t 6 1
  let k := eF t 7 1
  if tokenBad t then 1
  else if eF t 8 8 ≠ s.fuses.serial then 2
  else if slice t 16 32 ≠ challengeBytes s then 3
  else if (k ≠ 2 ∧ k ≠ 3) ∨ keyRevoked s k = true then 4
  else if !keyMatches s t k then 5
  else if !signedOk t then 6
  else if (if kind = 1 then debugNeeds arg (lifecycle s) == 2 else if kind = 2 then !lifeAllowed s (lifecycle s) arg else !revokable s arg) = true then 7
  else 0
/-- A write of SEC_TOKEN (R570-R573): unless its length is wrong, the challenge is drawn anew whatever the outcome. -/
def secToken (s : State) (via : Iface) (t : List Byte) : Act :=
  if t.length ≠ 256 then refuse aLength s
  else
    let kind := eF t 5 1
    let arg := eF t 6 1
    let r := tokenReason s t
    let s1 := { s with sec := s.sec.drawn }
    if r ≠ 0 then (if r = 7 then aLocked else aToken, logEv s1 0xC5 0x0903 0 (payOf [(16, kind), (17, r)]))
    else if kind = 1 then debugBegin s1 arg (eF t 48 1) (eF t 52 4) true via
    else if kind = 2 then (aOk, lifeTo s1 arg)
    else (aOk, logEv (oset s1 0x8025 0 (withBit (oget s1 0x8025 0) arg true)) 0xC5 0x0908 0 (payOf [(16, arg)]))

/-! The rows. -/

/-- SEC_TOKEN_DEBUG: a token of kind 1. -/
def execSecTokenDebug (via : Iface) (t : List Byte) (s : State) : Host.Outcome State Fault Refusal :=
  .next (if eF t 5 1 = 1 then written s via 0x8006 0 (secToken s via t) else s)
/-- SEC_TOKEN_LIFECYCLE: a token of kind 2. -/
def execSecTokenLifecycle (via : Iface) (t : List Byte) (s : State) : Host.Outcome State Fault Refusal :=
  .next (if eF t 5 1 = 2 then written s via 0x8006 0 (secToken s via t) else s)
/-- SEC_TOKEN_REVOKE: a token of kind 3. -/
def execSecTokenRevoke (via : Iface) (t : List Byte) (s : State) : Host.Outcome State Fault Refusal :=
  .next (if eF t 5 1 = 3 then written s via 0x8006 0 (secToken s via t) else s)
/-- LIFECYCLE_CMD. -/
def execLifecycleCmd (via : Iface) (v : Nat) (s : State) : Host.Outcome State Fault Refusal :=
  .next (written s via 0x8002 0 (lifecycleCmd s via v))
/-- IMAGE_OPEN. -/
def execImageOpen (via : Iface) (n : Fin 2) (s : State) : Host.Outcome State Fault Refusal := .next (written s via 0x8022 0 (imageOpen s n))
/-- IMAGE_LOAD. -/
def execImageLoad (via : Iface) (b : List Byte) (s : State) : Host.Outcome State Fault Refusal := .next (written s via 0x8023 0 (imageLoad s b))
/-- IMAGE_FINISH; `err`: a flash read fails. -/
def execImageFinish (via : Iface) (n : Fin 2) (err : Bool) (s : State) : Host.Outcome State Fault Refusal :=
  .next (written s via 0x8022 0 (imageFinish s n err))
/-- IMAGE_ABANDON. -/
def execImageAbandon (via : Iface) (n : Fin 2) (s : State) : Host.Outcome State Fault Refusal := .next (written s via 0x8022 0 (imageAbandon s n))
/-- RAISE_SVN. -/
def execRaiseSvn (via : Iface) (s : State) : Host.Outcome State Fault Refusal := .next (written s via 0x8022 0 (raiseSvn s))
/-- DEBUG_REQUEST. -/
def execDebugRequest (via : Iface) (v : Nat) (s : State) : Host.Outcome State Fault Refusal := .next (written s via 0x8011 0 (debugRequest s via v))
/-- DEBUG_END. -/
def execDebugEnd (via : Iface) (v : Nat) (s : State) : Host.Outcome State Fault Refusal := .next (written s via 0x8012 0 (debugEndCmd s v))
/-- HELD_DEBUG_OPEN. -/
def execHeldDebugOpen (s : State) : Host.Outcome State Fault Refusal := .next (heldDebugOpen s)
/-- DEBUG_SESSION_EXPIRY. -/
def execDebugSessionExpiry (s : State) : Host.Outcome State Fault Refusal := .next (debugExpiry s)
/-- DBG_CORE_HALT. -/
def execDbgCoreHalt (via : Iface) (c : Fin 8) (s : State) : Host.Outcome State Fault Refusal := .next (written s via 0x8050 (c.val + 1) (dbgCore s c 1))
/-- DBG_CORE_STEP. -/
def execDbgCoreStep (via : Iface) (c : Fin 8) (s : State) : Host.Outcome State Fault Refusal := .next (written s via 0x8050 (c.val + 1) (dbgCore s c 2))
/-- DBG_CORE_RESUME. -/
def execDbgCoreResume (via : Iface) (c : Fin 8) (s : State) : Host.Outcome State Fault Refusal := .next (written s via 0x8050 (c.val + 1) (dbgCore s c 3))
/-- DBG_MEM_DATA: the outcome of the read is sent to its reader. -/
def execDbgMemData (via : Iface) (s : State) : Host.Outcome State Fault Refusal :=
  let r := if canRead s via 0x8055 0 then dbgMem s else (aNotPermitted, [])
  .next { s with outs := s.outs ++ [Out.reply via r.1 r.2] }

end Sys2Proof.Machine
end

