-- ==== Sys2Proof/Machine/Boot.lean ====
section
/-! DEFINITION. Machine/Boot.lean: start-up (R524-R527), resets (R528-R531), the cut that a boot runs (R484, R487), PCIe resets and the PCIe link
(R530, R538), the input thresholds and recovery (R553, R554, R560), and the pins (R593-R595). -/

namespace Sys2Proof.Machine

/-! Resets (R528, R529). -/

/-- The objects that no reset clears: those kept in flash and fuses, and the latched straps (R529, R593). SUSPECT_UNIT and DRAIN_REASON are kept
while REPLACE_FLAG is set (R459). -/
def keptObj (s : State) (ix : Nat) : Bool :=
  ([0x1012, 0x1306, 0x1308, 0x7006, 0x7007, 0x7030, 0x7031, 0x8001, 0x8003, 0x8020, 0x8021, 0x8024, 0x8025, 0x9013] : List Nat).contains ix ||
    ((ix == 0x7003 || ix == 0x7004) && oget s 0x7006 0 == 1)
/-- The state after a reset of a kind (0 power-on, 1 module, 2 warm) with its cause (R529, R535): what flash, fuses and straps hold is kept, HBM in a
warm reset, the PCIe link and the image booted too; BOOT_STATE names the first step, which is the number of the kind. -/
def resetState (s : State) (kind cause : Nat) : State :=
  let warm := decide (kind = 2)
  let s0 := debugEnd s 4
  let keep := keepMem s0 warm false
  let base : State :=
    { State.reset with
      pending := s0.pending, now := s0.now, fresh := s0.fresh, outs := s0.outs,
      obj := s0.obj.filter (fun x => keptObj s0 (x.1 / 256) || (warm && (x.1 / 256 == 0x9001 || x.1 / 256 == 0x9002 || x.1 / 256 == 0x9017))),
      mem := keep.mem, pz := keep.pz,
      logs := { Logs.reset with incidents := s0.logs.incidents, cont := s0.logs.cont.map (fun x => if x.2 then x else (zeros 328, false)) },
      flash := s0.flash,
      boot := { Boot.reset with startAt := s0.now, kind := kind, held := s0.boot.held, perst := s0.boot.perst, canTerm := s0.boot.canTerm, svn := if warm then s0.boot.svn else 0 },
      pow := { Power.reset with protAt := if kind = 0 then [] else s0.pow.protAt },
      fuses := s0.fuses,
      sec := { Security.reset with challenge := s0.sec.challenge + 1, challengeVal := Config.challenge (s0.sec.challenge + 1), ir := s0.sec.ir, dr := s0.sec.dr } }
  let s1 := oset (oset (oset base 0x9010 0 kind) 0x9012 0 cause) 0x2010 0 (if kind = 0 then 0 else 3)
  obump (if warm then hbmStates s1 2 else s1) 0x9013 0 1
/-- POWER_ON_RESET (R528, R593): the straps are sampled: SLOT0-SLOT2, DIR_STRAP_N, CAN_TERM_N in bits 0 to 4; S0 begins. -/
def powerOn (s : State) (straps : Nat) : State :=
  let s1 := resetState { s with boot := { s.boot with canTerm := !bit straps 4 } } 0 0
  oset (oset s1 0x1012 1 (straps % 8)) 0x1012 2 (if bit straps 3 then 0 else 1)
/-- The input fell below the always-on threshold (R553): what flash and fuses hold is all that is left. -/
def powerOff (s : State) : State :=
  let s1 := resetState s 0 (oget s 0x9012 0)
  oset { s1 with boot := { s1.boot with kind := 4 } } 0x9013 0 (oget s 0x9013 0)
/-- VIN_THRESHOLD (R554): 0 above 28.0 V rising, 1 below 26.0 V falling, 2 at or above 36.0 V. -/
def vinThreshold (s : State) (k straps : Nat) : State :=
  match k with
  | 0 => if s.boot.kind = 4 then { s with boot := { s.boot with kind := 5 } } else s
  | 1 => powerOff s
  | 2 => if s.boot.kind = 5 then powerOn s straps else s
  | _ => s
/-- A module reset with its cause (R528, R535); a module that is OFF has none. -/
def moduleReset (s : State) (cause : Nat) : State := if 4 ≤ s.boot.kind then s else resetState s 1 cause
/-- MOD_RESET_N low (R594): the module holds in reset until the pin is released. -/
def modResetAssert (s : State) : State :=
  if 4 ≤ s.boot.kind then s
  else
    let s1 := moduleReset s 1
    { s1 with boot := { s1.boot with held := true } }
/-- MOD_RESET_N released: S1 starts. -/
def modResetRelease (s : State) : State :=
  if s.boot.held then { s with boot := { s.boot with held := false, startAt := s.now } } else s
/-- A write of RESET_CMD (R531, R535). -/
def resetCmd (s : State) (v : Nat) : Act := if v = 0 ∨ 2 < v then refuse aRange s else (aOk, resetLater s v)
/-- RESET_DELAY_EXPIRY (R531): the reset asked for 10 ms ago is performed; the cause of one that the root of trust asked for is not stated (log
entry 5). -/
def resetDelayExpiry (s : State) : State :=
  match s.boot.due with
  | none => s
  | some (k, t) =>
    if s.now < t then s
    else if k = 2 then resetState s 2 3
    else if k = 1 then resetState s 1 2
    else
      let d := draw s
      resetState d.2 1 (d.1 % 256)
/-- PROTECT_RECOVERY (R560): a module reset with cause 4, unless the last three protective shutdowns fell within one hour. -/
def protectRecovery (s : State) : State :=
  if s.pow.prot.isNone then s
  else
    match s.pow.protAt.reverse with
    | a :: _ :: b :: _ => if a ≤ b + 3600 then modPow s (fun w => { w with refused := true }) else moduleReset s 4
    | _ => moduleReset s 4

/-! The cut of a boot (R484, R487). -/

/-- The state with f applied to the flash. -/
def modFlash (s : State) (f : Flash → Flash) : State := { s with flash := f s.flash }
/-- A slot's cut changes its state in place (R487). -/
def cutState (s : State) (i : Fin 2) (f : Cut → Cut) : State := modFlash s (fun x => { x with slots := vmod x.slots i (fun c => c.map f) })
/-- CUT_ABANDONED (R484): the previous cut, or cut 0, takes the place of a cut. -/
def cutAbandon (s : State) (num cause : Nat) : State :=
  let p := prevCut s
  let s1 := modFlash s (fun x => { x with cur := p.map (fun y => y.1) })
  logEv s1 0xC1 0x0706 0 (payOf [(16, num), (20, (p.map (fun y => y.2.num)).getD 0), (24, cause)])
/-- The cut is chosen: bit i of `bad`: the CRC of slot i fails (R484, R487). -/
def chooseCut (s : State) (bad : Nat) : State :=
  let num := ((curCut s).map (fun c => c.num)).getD 0
  let lost := match s.flash.cur with
    | some i => bit bad i.val
    | none => false
  let s0 := modFlash s (fun x => { x with slots := Vector.ofFn (fun i => if bit bad i.val then none else x.slots[i]) })
  if lost then cutAbandon s0 num 1
  else
    match s0.flash.cur, curCut s0 with
    | some i, some c =>
      if (c.state = 1 ∨ c.state = 3) ∧ c.booted = true then cutAbandon (cutState s0 i (fun c => { c with state := 4 })) num 0
      else if c.state = 1 then cutState s0 i (fun c => { c with booted := true })
      else s0
    | _, _ => s0
/-- Every ST object takes the value of the cut in effect (R474), and the staged values equal the committed ones (R480). -/
def loadCut (s : State) : State :=
  let vals := ((curCut s).map (fun c => c.vals)).getD []
  let s1 := { s with dict := { s.dict with staged := vals } }
  vals.foldl (fun s x => oset s (x.1 / 256) (x.1 % 256) x.2) s1

/-! Start-up (R524-R526). -/

/-- The milliseconds since S0 (R535). -/
def bootMs (s : State) : Nat := (s.now - s.boot.startAt) / 1000000
/-- The step k ends: its time is kept. -/
def stepEnds (s : State) (k : Nat) : State := { s with boot := { s.boot with times := mput s.boot.times k (bootMs s) } }
/-- BOOT_STATE. -/
def bootState (s : State) : Nat := oget s 0x9010 0
/-- Every enabled fabric port is UP. -/
def portsAllUp (s : State) : Bool := (fins 6).all (fun p => pget s p 1 == 0 || portUp s p)
/-- S3 has ended: every island runs, PLLs are locked, and the fabric and Ethernet ports train (R524). -/
def islandsStart (s : State) : State :=
  let s1 := islandsPower (oset s 0x2010 0 0x3FFFFF0F) (List.range 24) true
  let s2 := (fins 6).foldl (fun s p => if pget s p 1 = 0 then s else trainStart s p) (freqUpdate s1)
  let s3 := [1, 2].foldl (fun s e => if oget s 0x6001 e ≠ 1 then oset s 0x6006 e 0 else oset s 0x6006 e (if drained s then 1 else 2)) s2
  timeRole { s3 with boot := { s3.boot with s3At := s.now } }
/-- S7 may end: the module has no number, or TC_STATE is SYNCED, ROOT or COARSE. -/
def timeKnown (s : State) : Bool := unnumbered s || tcState s == 2 || tcState s == 4 || tcState s == 5
/-- BOOT_READY (R524-R526): start-up ends READY or DRAINED; clusters and power state are IDLE, the trial of a TRIAL cut starts, and fetched takes of a
drained module complete DRAINED. -/
def bootReady (s : State) : State :=
  let st := if drained s then 10 else 9
  let s1 := oset (oset (clusterStates (stepEnds s 8) (if drained s then 6 else 0)) 0x2001 0 1) 0x9010 0 st
  let s2 := match curCut s1 with
    | some c => if c.state = 1 ∧ s1.boot.kind < 3 then { s1 with dict := { s1.dict with trialEnd := some (s1.now + oget s1 0x1304 0 * 1000000000) } } else s1
    | none => s1
  let ups := (fins 6).foldl (fun x p => if portUp s2 p then x + 2 ^ p.val else x) 0
  let s3 := logEv s2 0xEA 0x0801 0
    (payOf [(16, st), (17, oget s2 0x9012 0), (18, oget s2 0x9017 0), (20, bootMs s2 % 2 ^ 32), (24, ((curCut s2).map (fun c => c.num)).getD 0), (28, ups), (29, tcState s2)])
  let s4 := match s3.pow.want with
    | some (_, cause, t) => oset (powerEvent (modPow s3 (fun w => { w with want := none })) 3 cause t) 0x2003 0 2
    | none => s3
  activity (if drained s4 then (fins 8).foldl (fun s p => endFetched s p 2 (fun _ => true)) s4 else s4)
/-- The main sequence moves to step k, with S7 only after S6. -/
def toStep (s : State) (k : Nat) : State := oset s 0x9010 0 k
/-- BOOT_STEP_END (R524, R525, R567): the step in progress ends. `bad`: at S1 the image slots whose flash reads fail, at S2 the cut slots whose CRC
fails; `fail`: at S5 the unit that failed its test. -/
def bootStepEnd (s : State) (bad : Nat) (fail : Option Nat) : State :=
  if s.boot.held ∨ 4 ≤ s.boot.kind then s
  else match bootState s with
    | 0 => toStep (oset (stepEnds s 0) 0x2010 0 3) 1
    | 1 =>
      let r := secureBoot (oset s 0x2013 23 400) bad
      if r.1.isSome then toStep (stepEnds r.2 1) 2
      else toStep (oset (stepEnds r.2 1) 0x1206 0 1) 11
    | 2 =>
      let s1 := fullBuckets (oset (loadCut (chooseCut (stepEnds (oset s 0x2013 23 400) 2) bad)) 0x1206 0 1)
      let s2 := { s1 with dir := { s1.dir with heard := s.now } }
      toStep (if oget s2 0x7006 0 = 1 then markDie (oset s2 0x7002 0 1) (oget s2 0x7003 0 % 256) else s2) 3
    | 3 =>
      let s1 := islandsStart (stepEnds s 3)
      if s.boot.kind ≤ 1 then toStep s1 4 else toStep (hbmStates s1 1) 5
    | 4 =>
      let s1 := hbmStates (stepEnds s 4) 1
      let s2 := (List.range 12).foldl (fun s k => if oget s 0x3010 (k + 1) = 3 then moduleDrain s (0x90 + k) 0 0 (tcNow s) else s) s1
      toStep s2 5
    | 5 =>
      let s1 := stepEnds s 5
      let s2 := match fail with
        | some u => moduleDrain { s1 with boot := { s1.boot with failed := some u } } (u % 256) 0 0 (tcNow s1)
        | none => s1
      if s2.boot.s6 ∨ portsAllUp s2 = true then toStep (stepEnds { s2 with boot := { s2.boot with s5 := true, s6 := true } } 6) 7
      else toStep { s2 with boot := { s2.boot with s5 := true } } 6
    | 6 => if portsAllUp s then toStep (stepEnds { s with boot := { s.boot with s6 := true } } 6) 7 else s
    | 7 => if timeKnown s then toStep (stepEnds s 7) 8 else s
    | 8 => bootReady s
    | _ => s
/-- FABRIC_BOOT_WAIT (R524): S6 ends without every port UP. -/
def fabricBootWait (s : State) : State :=
  let b := bootState s
  if 4 ≤ b ∧ b ≤ 6 ∧ s.boot.s6 = false ∧ s.boot.s3At + oget s 0x9015 0 * 1000000 ≤ s.now then
    let s1 := stepEnds { s with boot := { s.boot with s6 := true } } 6
    if b = 6 then toStep s1 7 else s1
  else s
/-- TC_BOOT_WAIT (R524): S7, which began when S5 and S6 had ended, ends without synchronization. -/
def tcBootWait (s : State) : State :=
  let began := max (mget 0 s.boot.times 5) (mget 0 s.boot.times 6)
  if bootState s = 7 ∧ began + oget s 0x9016 0 ≤ bootMs s then toStep (stepEnds s 7) 8 else s
/-- BOOT_TIMES (R535): the end of each step in ms, then the total. -/
def bootTimes (s : State) : List Byte :=
  ((List.range 9).map (fun k => toLE 4 (mget 0 s.boot.times k))).flatten ++ toLE 4 (mget 0 s.boot.times 8)

/-! Failures of dies and stacks (R457). -/

/-- DIE_UNREACHABLE: die d becomes suspect, and DIE_STATUS reads 2; its unit is its router (log entry 39). -/
def dieUnreachable (s : State) (d : Nat) : State :=
  if 6 ≤ d ∨ islandOn s 22 = false then s else oset (moduleDrain s (0xB0 + d) 0 0 (tcNow s)) 0x1020 (d + 1) 2
/-- STACK_FAILED: in S4 the stack ends training failed (R525); in service its controller is suspect. -/
def stackFailed (s : State) (k : Fin 12) : State :=
  let b := bootState s
  if b = 4 then oset s 0x3010 (k.val + 1) 3
  else if 5 ≤ b ∧ b ≤ 10 ∧ oget s 0x2001 0 ≤ 1 ∧ oget s 0x3010 (k.val + 1) ≠ 3 then
    moduleDrain (oset s 0x3010 (k.val + 1) 3) (0x90 + k.val) 0 0 (tcNow s)
  else s

/-! PCIe resets and the link (R529, R530, R538). -/

/-- The queues, completion ring and MSI-X of function p are reset, its take is discarded without a completion, its objects return to their
defaults (R529, R536). -/
def fnReset (s : State) (p : Fin 8) : State :=
  let s1 := discardStart s p .reset
  let s2 := { s1 with waiters := s1.waiters.filter (fun w => w.who != .start p), freed := s1.freed.filter (fun w => w != .start p),
                      obj := s1.obj.filter (fun x => x.1 / 256 != 0x9100 + p.val),
                      dict := { s1.dict with held := s1.dict.held.filter (fun h => h.ix != 0x9100 + p.val) } }
  modF s2 p (fun h => { HostFn.reset with
    run := h.run.map (fun r => { r with stop := r.stop.map (fun x => (Stop.reset, x.2)) }), lastTake := h.lastTake })
/-- A PCIe reset of some functions, while the PCIe island has power: PCIE_RESET names its kind, the function of an FLR and the takes discarded. -/
def pcieReset (s : State) (kind : Nat) (ps : List (Fin 8)) : State :=
  if islandOn s 21 = false then s else
  let n := (ps.filter (fun p => s.hf[p].run.isSome)).length
  let fn := match kind, ps with
    | 3, p :: _ => p.val
    | _, _ => 0xFF
  activity (logEv (ps.foldl fnReset s) 0x85 0x0805 0 (payOf [(16, kind), (17, fn), (18, n)]))
/-- PERST_N (R530, R594). -/
def perstN (s : State) (level : Bool) : State :=
  if level then { s with boot := { s.boot with perst := false } }
  else if s.boot.perst then s
  else pcieReset { pcieDown s with boot := { s.boot with perst := true } } 0 (fins 8)
/-- PCIE_LINK_UP (R524, R538): the link trains once S3 runs, PERST_N is released and island 21 has power. -/
def pcieLinkUp (s : State) (speed width : Nat) : State :=
  if s.boot.perst ∨ s.boot.held ∨ islandOn s 21 = false ∨ speed = 0 ∨ 6 < speed then s
  else
    let s1 := oset (oset s 0x9001 0 speed) 0x9002 0 (width % 256)
    logEv s1 0xC0 0x0804 0 (payOf [(16, 1), (17, speed), (18, width % 256)])

/-! Pins (R595). -/

/-- The status pins driven low: STAT_READY_N, STAT_DRAINED_N, STAT_FAULT_N, STAT_THERM_N in bits 0 to 3. -/
def statusPins (s : State) : Nat :=
  let b := bootState s
  if 4 ≤ s.boot.kind then 0
  else
    (if b = 9 ∧ drained s = false then 1 else 0) + (if drained s ∨ oget s 0x7006 0 = 1 then 2 else 0) +
      (if b = 11 ∨ s.pow.prot.isSome = true ∨ s.pow.refused = true then 4 else 0) +
      (if s.pow.throttled.toList.contains true ∨ s.pow.coolant = true then 8 else 0)

/-! The rows. -/

/-- POWER_ON_RESET. -/
def execPowerOnReset (straps : Nat) (s : State) : Host.Outcome State Fault Refusal := .next (powerOn s straps)
/-- MODULE_RESET: cause 1 MOD_RESET_N, 2 RESET_CMD, 4 a recovery (R535). -/
def execModuleReset (cause : Nat) (s : State) : Host.Outcome State Fault Refusal := .next (moduleReset s (cause % 256))
/-- MOD_RESET_N_ASSERT. -/
def execModResetNAssert (s : State) : Host.Outcome State Fault Refusal := .next (modResetAssert s)
/-- MOD_RESET_N_RELEASE. -/
def execModResetNRelease (s : State) : Host.Outcome State Fault Refusal := .next (modResetRelease s)
/-- RESET_CMD_MODULE. -/
def execResetCmdModule (via : Iface) (s : State) : Host.Outcome State Fault Refusal := .next (written s via 0x9014 0 (resetCmd s 1))
/-- RESET_CMD_WARM. -/
def execResetCmdWarm (via : Iface) (s : State) : Host.Outcome State Fault Refusal := .next (written s via 0x9014 0 (resetCmd s 2))
/-- RESET_DELAY_EXPIRY. -/
def execResetDelayExpiry (s : State) : Host.Outcome State Fault Refusal := .next (resetDelayExpiry s)
/-- VIN_THRESHOLD. -/
def execVinThreshold (k straps : Nat) (s : State) : Host.Outcome State Fault Refusal := .next (vinThreshold s k straps)
/-- PROTECT_RECOVERY. -/
def execProtectRecovery (s : State) : Host.Outcome State Fault Refusal := .next (protectRecovery s)
/-- BOOT_STEP_END. -/
def execBootStepEnd (bad : Nat) (fail : Option Nat) (s : State) : Host.Outcome State Fault Refusal := .next (bootStepEnd s bad fail)
/-- FABRIC_BOOT_WAIT. -/
def execFabricBootWait (s : State) : Host.Outcome State Fault Refusal := .next (fabricBootWait s)
/-- TC_BOOT_WAIT. -/
def execTcBootWait (s : State) : Host.Outcome State Fault Refusal := .next (tcBootWait s)
/-- DIE_UNREACHABLE. -/
def execDieUnreachable (d : Nat) (s : State) : Host.Outcome State Fault Refusal := .next (dieUnreachable s d)
/-- STACK_FAILED. -/
def execStackFailed (k : Fin 12) (s : State) : Host.Outcome State Fault Refusal := .next (stackFailed s k)
/-- PERST_N. -/
def execPerstN (level : Bool) (s : State) : Host.Outcome State Fault Refusal := .next (perstN s level)
/-- HOT_RESET. -/
def execHotReset (s : State) : Host.Outcome State Fault Refusal := .next (pcieReset (pcieDown s) 1 (fins 8))
/-- LINK_DISABLE. -/
def execLinkDisable (s : State) : Host.Outcome State Fault Refusal := .next (pcieReset (pcieDown s) 2 (fins 8))
/-- FLR. -/
def execFlr (p : Fin 8) (s : State) : Host.Outcome State Fault Refusal := .next (pcieReset s 3 [p])
/-- PCIE_LINK_UP. -/
def execPcieLinkUp (speed width : Nat) (s : State) : Host.Outcome State Fault Refusal := .next (pcieLinkUp s speed width)
/-- PCIE_LINK_DOWN. -/
def execPcieLinkDown (s : State) : Host.Outcome State Fault Refusal := .next (pcieDown s)

end Sys2Proof.Machine
end

