-- ==== Sys2Proof/Machine/CollRows.lean ====
section
/-! DEFINITION. Machine/CollRows.lean: collectives: launch, contexts and the checks of a sheet (R389-R394, R406), messages and chunks
(R397-R402), completion (R392, R395, R410), timeouts and release (R393, R406). -/

namespace Sys2Proof.Machine

/-! Launch. -/

/-- GRP_LAUNCH (R389): the launch trigger of group g has fired; the collective takes its number and waits for a context. -/
def grpLaunch (s : State) (g : Nat) : State :=
  if !s.freed.contains (.launch g) || gget s g 1 != 1 || drained s || !mayStart s then s
  else
    let seq := gget s g 9
    let s1 := modGrp (gset { s with freed := s.freed.filter (fun w => w != .launch g) } g 9 ((seq + 1) % 2 ^ 32)) g
      (fun x => { x with waiting := x.waiting ++ [(seq, s.now)] })
    activity (if gget s1 g 11 = 0 then gset s1 g 11 1 else s1)

/-! The checks of a sheet (R406). -/

/-- The bytes [a, a + n) lie in the HBM or in a scratchpad of the group's partition, inside one protection region with PERM bit b. -/
def collOk (s : State) (g a n b : Nat) : Bool :=
  decide (n = 0) || ((inHbm a n || (clustersOf s (grpPart s g)).any (fun c => inSp c a n)) && protKey s (grpJob s g) a n b)
/-- An element format code (R132). -/
def fmtKnown (f : Nat) : Bool := decide (f ≤ 8)
/-- A format that a reduction accepts (R408). -/
def fmtRed (f : Nat) : Bool := decide (1 ≤ f) && decide (f ≤ 4)
/-- The elements of block k, clipped at COUNT (R411). -/
def blockElems (e : List Byte) (n k : Nat) : Nat := min ((k + 1) * eB e n) (eCount e) - min (k * eB e n) (eCount e)
/-- Check 1 of an entry: a reserved field or value, or what its kind does not allow. -/
def entryBad (e : List Byte) (n rank : Nat) (ring : Bool) : Bool :=
  let kd := eKind e
  let known := (decide (1 ≤ kd) && decide (kd ≤ 4)) || (decide (8 ≤ kd) && decide (kd ≤ 11))
  let red := eF e 21 1
  let reduces := kd == 2 || kd == 8 || kd == 9
  let srcLen := eBytes e (eCount e)
  let dstLen := if kd = 9 then eBytes e (blockElems e n rank) else srcLen
  eF e 60 4 != 0 || decide (32 ≤ eF e 14 1) || decide (4 ≤ eF e 22 1) || !known ||
    (if reduces then !fmtRed (eFmt e) || !(red == 1 || red == 3 || red == 4)
     else if decide (kd ≤ 4) then eFmt e != 0 || red != 0 else !fmtKnown (eFmt e) || red != 0) ||
    (kd != 2 && eF e 48 8 != 0) || (kd != 11 && eF e 30 2 != 0) ||
    decide (16384 ≤ eF e 12 2) || decide (16384 ≤ eF e 16 2) || decide (16384 ≤ eF e 26 2) ||
    decide (eF e 23 1 < 11) || decide (16 < eF e 23 1) || (eFlag e 3 && kd != 8) ||
    ((kd == 8 || kd == 9) && decide (eSrc e < eDst e + dstLen) && decide (eDst e < eSrc e + srcLen)) ||
    ((kd == 1 || kd == 2) && ring && decide (eF e 22 1 < 2))
/-- The local extents of an entry: address, bytes, PERM bit and SIDE. -/
def entryExtents (s : State) (g : Nat) (e : List Byte) : List (Nat × Nat × Nat × Nat) :=
  let n := grpSize s g
  let r := grpRank s g
  let c := eBytes e (eCount e)
  let own := ePeer s g e == r
  match eKind e with
  | 1 => [(eSrc e, eCount e, 0, 0)]
  | 2 => [(eSrc e, c, 0, 0), (eAux e, c, 0, 2)] ++ (if own then [(eDst e, c, 1, 1)] else [])
  | 3 => [(eDst e, eCount e, 1, 1)] ++ (if own then [(eSrc e, eCount e, 0, 0)] else [])
  | 8 => [(eSrc e, c, 0, 0), (eDst e, c, 1, 1)]
  | 9 => [(eSrc e, c, 0, 0), (eDst e, eBytes e (blockElems e n r), 1, 1)]
  | 10 => [(eSrc e, c, 0, 0), (eDst e, n * c, 1, 1)]
  | 11 => if r = eF e 30 2 then [(eSrc e, c, 0, 0)] ++ (if n = 1 then [(eDst e, c, 1, 1)] else []) else [(eDst e, c, 1, 1)]
  | _ => []
/-- The first failing check of an entry at address a as engine eng reads it: code, CHECK, SIDE and address. -/
def entryCheck (s : State) (g eng a : Nat) (e : List Byte) (ring : Bool) : Option (Nat × Nat × Nat × Nat) :=
  let n := grpSize s g
  let kd := eKind e
  firstBad [
    (entryBad e n (grpRank s g) ring, (3, 1, 3, a)),
    (eSrc e % 64 != 0, (5, 2, 0, eSrc e)), (eDst e % 64 != 0, (5, 2, 1, eDst e)), (eAux e % 64 != 0, (5, 2, 2, eAux e)),
    (((kd == 1 || kd == 3) && eCount e % 64 != 0) || (kd == 10 && eCount e * eBits e % 512 != 0), (5, 2, 3, a)),
    ((decide (kd ≤ 4) && (decide (n ≤ ePeer s g e) || (kd == 1 && ePeer s g e == grpRank s g))) || (kd == 11 && decide (n ≤ eF e 30 2)), (3, 3, 4, 0)),
    ((entryExtents s g e).any (fun x => !collOk s g x.1 x.2.1 x.2.2.1),
      match (entryExtents s g e).find? (fun x => !collOk s g x.1 x.2.1 x.2.2.1) with
      | some x => (6, 4, x.2.2.2, x.1)
      | none => (6, 4, 0, 0)),
    (anyMesh s (0x80 + eng) (outerAddr s a) 64, (7, 5, 3, a))]
/-- The first failing check of a slot at address a as engine eng reads it, with contents b; a slot outside all memory has no contents to check (log entry 112). -/
def slotCheck (s : State) (g eng a : Nat) (b : List Byte) : Option (Nat × Nat × Nat × Nat) :=
  let n := eF b 16 2
  firstBad [
    (inMem a 64 && (eF b 0 8 != 0 || eF b 18 2 != 0 || eF b 24 40 != 0 || n == 0 || decide (255 < n) || decide (16384 ≤ eF b 20 2)), (3, 1, 3, a)),
    (inMem a 64 && eF b 8 8 % 64 != 0, (5, 2, 3, eF b 8 8)),
    (!collOk s g a 64 0, (6, 4, 3, a)),
    (!collOk s g (eF b 8 8) (64 * n) 0, (6, 4, 3, eF b 8 8)),
    (anyMesh s (0x80 + eng) (outerAddr s a) 64, (7, 5, 3, a))]
/-- The group whose launch is the oldest among those that wait for a context. -/
def oldestLaunch (s : State) : Option (Nat × Nat × Nat) :=
  s.coll.groups.foldl (fun o x =>
    match x.2.run, x.2.waiting with
    | none, (seq, t) :: _ => (match o with
      | some (_, _, u) => if t < u then some (x.1, seq, t) else o
      | none => some (x.1, seq, t))
    | _, _ => o) none
/-- CONTEXT_TAKE (R390-R394, R406): engine e takes a free context for the oldest launch, reads and checks its sheet and arms the first
entry; a failing check fails the collective and frees the context. -/
def contextTake (s : State) (e : Fin 2) : State :=
  match oldestLaunch s with
  | none => s
  | some (g, seq, _) =>
    let eng := dirEngine s g 0 0
    if 64 ≤ contextsUsed s ∨ eng ≠ e.val then s
    else
      let a := gget s g 7 + 64 * (seq % gget s g 8)
      let b := rdBytes s (outerAddr s a) 64
      let base := eF b 8 8
      let es := (List.range (eF b 16 2)).map (fun i => rdBytes s (outerAddr s (base + 64 * i)) 64)
      let run (l : List (List Byte)) : CollRun :=
        { seq := seq, sigClap := eF b 20 2, sigInc := eF b 22 2,
          entries := l.map (fun x => { bytes := x, stage := 0, armedAt := 0, outst := 0, joined := false }), send := [], recv := [], fwd := [] }
      let start (l : List (List Byte)) : State := gset (modGrp s g (fun x => { x with waiting := x.waiting.drop 1, run := some (run l) })) g 11 2
      let arrived (s : State) : State := engDone s eng [(a, 64), (base, 64 * eF b 16 2)]
      let fail (x : Nat × Nat × Nat × Nat) (k : Nat) : State :=
        activity (releaseRun (collFault (arrived (start [])) g eng x.1 x.2.1 x.2.2.1 k x.2.2.2) g)
      match slotCheck s g eng a b with
      | some x => fail x 0xFF
      | none =>
        match firstSome (fun (y : List Byte × Nat) => (entryCheck s g eng (base + 64 * y.2) y.1 (es.any isRing)).map (fun x => (x, y.2))) es.zipIdx with
        | some (x, k) => fail x k
        | none => armEntry 256 (arrived (start es)) g 0

/-- COLL_STARVE (R391): a launch that holds no context COLL_STARVE_TIMEOUT after its trigger fired is dropped; the take's discard marks it failed, or,
with no take to discard, it is marked at once (R388, R404). -/
def collStarve (s : State) (g seq : Nat) : State :=
  match (groupOf s g).waiting.find? (fun x => x.1 == seq) with
  | none => s
  | some x =>
    if s.now < x.2 + oget s 0x5021 0 * 1000000 then s
    else
      let eng := dirEngine s g 0 0
      let live := (s.hf[grpPart s g].run).any (fun t => t.stop.isNone)
      let s1 := modGrp s g (fun y => { y with waiting := y.waiting.filter (fun z => z.1 != seq), starved := if live then y.starved ++ [seq] else y.starved })
      let s2 := if (groupOf s1 g).run.isNone ∧ (groupOf s1 g).waiting.isEmpty then gset s1 g 11 0 else s1
      let others := (s.coll.groups.filter (fun y => y.2.run.isSome && grpPart s y.1 != grpPart s g)).length
      let s3 := logEv (collBump s2 7) (0x80 + eng) 0x0401 0 (payOf [(16, g), (17, (grpPart s g).val), (20, seq), (24, others)])
      let s4 := raiseF s3 (collRep s3 g eng 0x0B 10 3 0xFF 0)
      activity (if live then s4 else starvedFails s4 g seq)

/-! Messages. -/

/-- The n-th message waiting, if its engine takes it next and it is of type ty (or of no known type): engine, sending module, message. -/
def takeMsg (s : State) (n ty : Nat) : Option ((Nat × Nat × List Byte) × State) :=
  match s.coll.msgs[n]? with
  | none => none
  | some m =>
    let t := eF m.2.2 8 1
    if (s.coll.msgs.take n).any (fun x => x.1 == m.1) || !(t == ty || t == 0 || decide (5 < t)) then none
    else some (m, { s with coll := { s.coll with msgs := dropAt s.coll.msgs n } })
/-- A stray message is counted, and logged at most once per second (R398). -/
def stray (s : State) (m : Nat × Nat × List Byte) (reason : Nat) : State :=
  let s1 := collBump s 8
  let due := match s1.coll.strayAt with
    | some t => decide (t + 1000000000 ≤ s1.now)
    | none => true
  if due = true then
    logEv { s1 with coll := { s1.coll with strayAt := some s1.now } } (0x80 + m.1) 0x0405 0
      (payOf [(16, eF m.2.2 9 1), (17, eF m.2.2 8 1), (18, m.2.1), (20, eF m.2.2 36 4), (24, reason)])
  else s1
/-- The reason that makes a message stray before its type is looked at (R398). -/
def strayWhy (s : State) (b : List Byte) : Option Nat :=
  let g := eF b 9 1
  let x := groupOf s g
  let cur := match x.run with
    | some r => r.seq
    | none => ((x.waiting.head?).map (fun y => y.1)).getD (gget s g 9)
  firstBad [(eF b 60 4 != crc32c (b.take 60), 0), (!(decide (1 ≤ eF b 8 1) && decide (eF b 8 1 ≤ 5)), 1), (gget s g 1 != 1, 2), (decide (eF b 36 4 < cur), 3)]
/-- The running collective that a message names. -/
def msgRun (s : State) (b : List Byte) : Option CollRun :=
  match (groupOf s (eF b 9 1)).run with
  | some r => if r.seq = eF b 36 4 ∧ gget s (eF b 9 1) 11 = 2 then some r else none
  | none => none
/-- A message is taken by its row: stray messages end there. -/
def withMsg (s : State) (n ty : Nat) (f : State → (Nat × Nat × List Byte) → Option State) : State :=
  match takeMsg s n ty with
  | none => s
  | some (m, s1) =>
    match strayWhy s1 m.2.2 with
    | some r => stray s1 m r
    | none => (f s1 m).getD (stray s1 m 4)

/-- RTS (R397, R399): answered when the entry has started and the lane is free, held until then; of a later SEQ one is held per lane. -/
def rtsMsg (s : State) (n : Nat) : State :=
  withMsg s n 2 (fun s m =>
    let b := m.2.2
    let g := eF b 9 1
    let k := eF b 13 1
    let now := ((groupOf s g).run.map (fun r => r.seq)).getD (2 ^ 32)
    let hold : State := modGrp s g (fun x => { x with heldRts := x.heldRts.filter (fun h => !(h.1 == eF b 10 1 && eF h.2 36 4 != now && (eF b 36 4 != now || decide (eF h.2 36 4 < now)))) ++ [(eF b 10 1, b)] })
    match (groupOf s g).run with
    | some r =>
      if r.seq ≠ eF b 36 4 then some hold
      else
        match r.entries[k]? with
        | some x =>
          let from_ := eF b 34 2
          let p := grpSize s g
          let okLane := if isRing x.bytes then (eF b 10 1 == 0 && (from_ + 1) % p == grpRank s g) || (eF b 10 1 == 1 && (grpRank s g + 1) % p == from_)
            else decide (eF b 10 1 < 4)
          if gget s g 11 ≠ 2 ∨ okLane = false then none
          else if rtsReady s g b then some (answerRts s g b) else some hold
        | none => none
    | none => some hold)

/-- The sending lane that a message from the peer concerns. -/
def isLane (b : List Byte) (l : SendLane) : Bool := l.k == eF b 13 1 && l.lane == eF b 10 1 && l.peer == eF b 34 2
/-- CTS (R399): the lane is open, or the hashes differ. -/
def ctsMsg (s : State) (n : Nat) : State :=
  withMsg s n 3 (fun s m =>
    let b := m.2.2
    let g := eF b 9 1
    match (msgRun s b).bind (fun r => r.send.find? (fun l => isLane b l && !l.isOpen)) with
    | none => none
    | some l =>
      if eF b 56 4 ≠ grpHash s g then some (collFault s g (dirEngine s g l.dir l.peer) 3 6 4 l.k 0)
      else some (modRun s g (fun r => { r with send := mapIf (isLane b) (fun l => { l with isOpen := true, dst := eF b 48 8, at_ := s.now }) r.send })))
/-- ACK (R400). -/
def ackMsg (s : State) (n : Nat) : State :=
  withMsg s n 4 (fun s m =>
    let b := m.2.2
    match (msgRun s b).bind (fun r => r.send.find? (fun l => isLane b l && l.isOpen)) with
    | none => none
    | some _ => some (modRun s (eF b 9 1) (fun r =>
        { r with send := mapIf (isLane b) (fun l => { l with acked := max l.acked (min (eF b 40 4) l.next), at_ := s.now }) r.send })))
/-- REREQ (R402). -/
def rereqMsg (s : State) (n : Nat) : State :=
  withMsg s n 5 (fun s m =>
    let b := m.2.2
    let num := eF b 40 4
    match (msgRun s b).bind (fun r => r.send.find? (fun l => isLane b l && l.isOpen && decide (num < l.next) && decide (l.acked ≤ num) && !l.resend.contains num)) with
    | none => none
    | some _ => some (modRun s (eF b 9 1) (fun r => { r with send := mapIf (isLane b) (fun l => { l with resend := l.resend ++ [num], at_ := s.now }) r.send })))

/-! Sending chunks. -/

/-- The chunks of a sending lane. -/
def lanePieces (s : State) (g : Nat) (r : CollRun) (l : SendLane) : List Piece :=
  match r.entries[l.k]? with
  | some x => sendPieces x.bytes (grpSize s g) (grpRank s g) l.dir
  | none => []
/-- The chunk that a lane sends next, with its ATTEMPT: one to resend, else the next within the window of 16 whose data can be built. A
REDUCESCATTER lands every part in the same block, so a chunk waits until the earlier parts are acknowledged. -/
def nextChunk (s : State) (g : Nat) (r : CollRun) (l : SendLane) : Option (Nat × Piece × Nat) :=
  let ps := lanePieces s g r l
  match r.entries[l.k]?, l.resend with
  | some _, m :: _ => (ps[m]?).map (fun p => (m, p, 1))
  | some x, [] =>
    (ps[l.next]?).bind (fun p =>
      let earlier := (ps.filter (fun q => decide (q.idx < p.idx))).length
      if l.isOpen && decide (l.next < l.acked + 16) && pieceReady s g r l.k x.bytes p && (eKind x.bytes != 9 || decide (earlier ≤ l.acked))
      then some (l.next, p, 0) else none)
  | none, _ => none
/-- The first lane of group g that engine e can send a chunk on. -/
def readyLane (s : State) (g e : Nat) : Option (SendLane × Nat × Piece × Nat) :=
  if gget s g 11 ≠ 2 then none
  else
    match (groupOf s g).run with
    | some r => firstSome (fun l => if dirEngine s g l.dir l.peer = e then (nextChunk s g r l).map (fun x => (l, x)) else none) r.send
    | none => none
/-- The group whose turn it is on engine e (R413). -/
def nextGroup (s : State) (e : Fin 2) : Option (Nat × SendLane × Nat × Piece × Nat) :=
  let gs := s.coll.groups.map (fun x => x.1)
  firstSome (fun g => (readyLane s g e.val).map (fun x => (g, x))) (gs.filter (fun g => decide (s.coll.last[e] < g)) ++ gs.filter (fun g => decide (g ≤ s.coll.last[e])))
/-- The data packets of chunk m of lane l leave (R400, R401). -/
def sendPiece (s : State) (g e : Nat) (r : CollRun) (l : SendLane) (m : Nat) (p : Piece) (att : Nat) : State :=
  let b := ((r.entries[l.k]?).map (fun x => x.bytes)).getD []
  let d := pieceData s g r e b p
  let dst := (if isRing b then l.dst else eDst b) + landOff b (grpSize s g) p
  let ps := writePackets (0x80 + e) (grpJob s g) (moduleAt s g l.peer * 2 ^ 48 + dst) (d.1.length + 1) d.1
  let me (x : SendLane) : Bool := x.k == l.k && x.lane == l.lane && x.peer == l.peer
  let s1 := modRun (fabFlags (engDone s e (pieceReads s g b p)) e d.2) g (fun r =>
    { r with send := mapIf me (fun x =>
        { x with next := if att = 0 then x.next + 1 else x.next, resend := if att = 1 then x.resend.drop 1 else x.resend,
                 flying := x.flying.filter (fun f => f.1 != m) ++ [(m, ps.length, att, crc32c (d.1.map (fun x => x.1)))] }) r.send })
  ps.foldl (fun s q => inject s q (.collData g r.seq l.k l.lane m)) s1
/-- CHUNK_SEND (R400, R401, R403, R413): the data packets of one chunk leave; poison in its data fails the collective. -/
def chunkSend (s : State) (e : Fin 2) : State :=
  match nextGroup s e with
  | none => s
  | some (g, l, m, p, att) =>
    match (groupOf s g).run with
    | none => s
    | some r =>
      let b := ((r.entries[l.k]?).map (fun x => x.bytes)).getD []
      let s1 := sendPiece { s with coll := { s.coll with last := vset s.coll.last e g } } g e.val r l m p att
      let src := if p.item.own then eSrc b + srcOff b p else eDst b + landOff b (grpSize s g) p
      match firstPoison src (pieceData s g r e.val b p).1 with
      | some a => collFault (logPoison s1 g e.val 1 l.k r.seq a) g e.val 0x0A 7 0 l.k a
      | none => s1
/-- The chunk that continues chunk num of direction dir goes out in the pass that made it, while its lane is open (R403, R412): it carries poison and the
collective is about to fail. -/
def forwardBad (s : State) (g k dir num : Nat) : State :=
  match (groupOf s g).run with
  | none => s
  | some r =>
    let e := ((r.entries[k]?).map (fun x => x.bytes)).getD []
    let next (l : SendLane) : Option (SendLane × Nat × Piece) :=
      if l.k != k || !l.isOpen then none
      else
        (findIdx (fun p => !p.item.own && p.item.fdir == dir && sourceChunk e (grpSize s g) (grpRank s g) p == some num) (lanePieces s g r l) 0).bind
          (fun m => ((lanePieces s g r l)[m]?).map (fun p => (l, m, p)))
    match firstSome next r.send with
    | some (l, m, p) => sendPiece s g (dirEngine s g l.dir l.peer) r l m p 0
    | none => s
/-- CHUNK_MESSAGE_SEND (R400): every data packet of chunk m has been answered DONE. -/
def chunkMessage (s : State) (g k lane m : Nat) : State :=
  match (groupOf s g).run with
  | none => s
  | some r =>
    match r.send.find? (fun l => l.k == k && l.lane == lane), r.entries[k]? with
    | some l, some x =>
      match l.flying.find? (fun f => f.1 == m), (lanePieces s g r l)[m]? with
      | some f, some p =>
        let b := x.bytes
        let last := decide (m + 1 = (lanePieces s g r l).length)
        let sig := last && eKind b == 1
        let eng := dirEngine s g l.dir l.peer
        let s1 := modRun s g (fun r => { r with send := mapIf (fun y => y.k == k && y.lane == lane) (fun y => { y with flying := y.flying.filter (fun f => f.1 != m) }) r.send })
        sendMsg (collBump s1 2) eng g r.seq k l.peer
          (collMsg s 1 g lane r.seq k m (f.2.2.1 + (if last then 2 else 0)) (eBytes b p.n) ((if isRing b then l.dst else eDst b) + landOff b (grpSize s g) p) f.2.2.2
            (if sig then eF b 26 2 else 0) (if sig then eF b 28 2 else 0))
      | _, _ => s
    | _, _ => s
/-- One data packet of a chunk has been answered DONE. -/
def chunkAnswered (s : State) (g seq k lane m : Nat) : State :=
  match (groupOf s g).run with
  | none => s
  | some r =>
    if r.seq ≠ seq then s
    else
      let hit (f : Nat × Nat × Nat × Nat) : Bool := f.1 == m
      let me (y : SendLane) : Bool := y.k == k && y.lane == lane
      let left : Nat := ((r.send.find? me).bind (fun l => (l.flying.find? hit).map (fun f => f.2.1 - 1))).getD 1
      let s1 := modRun s g (fun r => { r with send := mapIf me (fun y => { y with flying := mapIf hit (fun f => (f.1, f.2.1 - 1, f.2.2)) y.flying }) r.send })
      if left = 0 then chunkMessage s1 g k lane m else s1

/-! Receiving chunks. -/

/-- The receiving lane that a message from the peer concerns. -/
def isRLane (b : List Byte) (l : RecvLane) : Bool := l.k == eF b 13 1 && l.lane == eF b 10 1 && l.peer == eF b 34 2
/-- The ACK of a receiving lane leaves (R400). -/
def sendAck (s : State) (g : Nat) (seq : Nat) (l : RecvLane) : State :=
  let same (y : RecvLane) : Bool := y.k == l.k && y.lane == l.lane
  sendMsg (modRun s g (fun r => { r with recv := mapIf same (fun y => { y with told := y.count, since := none }) r.recv })) (dirEngine s g l.dir l.peer) g seq l.k l.peer
    (collMsg s 4 g l.lane seq l.k l.count 0 0 0 0 0 0)
/-- The count of chunks verified in order after chunk num is, with those beyond it. -/
def advance : Nat → Nat → List Nat → Nat × List Nat
  | 0, c, l => (c, l)
  | f + 1, c, l => if l.contains c then advance f (c + 1) (l.filter (fun x => x != c)) else (c, l)
/-- A signal of an engine on a local clapper (R48); a poisoned clapper faults the collective (R308). -/
def engSignal (s : State) (g eng clap inc : Nat) : State :=
  if inc = 0 then s
  else { s with clapOps := s.clapOps ++ [{ unit := 0x80 + eng, op := 2, clap := clapNo clap, val := BitVec.ofNat 64 inc, cmp := 0,
                                           ret := .coll g (((groupOf s g).run.map (fun r => r.seq)).getD 0) 0xFF, bad := none }] }
/-- A verified chunk num of receiving lane l: a ring entry reduces and lands it (R401, R412); then the lane counts it, acknowledges and signals
(R395, R400). -/
def chunkVerified (s : State) (g eng : Nat) (r : CollRun) (l : RecvLane) (b : List Byte) (data : List (Byte × Bool)) : State :=
  let num := eF b 40 4
  let e := ((r.entries[l.k]?).map (fun x => x.bytes)).getD []
  let n := grpSize s g
  let piece := if l.dir = 2 then none else (recvPieces e n (grpRank s g) l.dir)[num]?
  let s1 := match piece with
    | none => s
    | some p =>
      if !p.item.red then s
      else
        let own := engRead s eng (eSrc e + srcOff e p) data.length
        let d := collReduce e (fabFlush s eng) data own
        let keep := eKind e == 9 && p.item.blk != grpRank s g
        let s2 := fabFlags (engDone s eng [(eSrc e + srcOff e p, data.length)]) eng d.2
        let s3 := if keep then modRun s2 g (fun r => { r with fwd := r.fwd ++ [(l.dir, num, d.1)] }) else engWrite s2 eng (eDst e + landOff e n p) d.1
        match firstPoison (eSrc e + srcOff e p) own with
        | some a => collFault (logPoison (forwardBad s3 g l.k l.dir num) g eng 1 l.k r.seq a) g eng 0x0A 7 0 l.k a
        | none => s3
  let mine (y : RecvLane) : Bool := y.k == l.k && y.lane == l.lane
  let adv := advance 65536 l.count (l.beyond ++ [num])
  let l2 : RecvLane :=
    { l with count := adv.1, beyond := adv.2, asked := l.asked.filter (fun x => x != num), at_ := s.now,
             since := if adv.1 > l.told then some (l.since.getD s.now) else l.since,
             last := if bit (eF b 12 1) 1 then some (num, eF b 30 2, eF b 32 2) else l.last }
  let s4 := modRun s1 g (fun r => { r with recv := mapIf mine (fun _ => l2) r.recv })
  let all := laneTotal s g r l2 == some l2.count
  let s5 := if (l2.told + 4 ≤ l2.count ∨ all = true) ∧ l2.told < l2.count then sendAck s4 g r.seq l2 else s4
  match l2.last with
  | some (_, clap, inc) => answerHeld (if all && l.count != l2.count then engSignal s5 g eng clap inc else s5) g
  | none => answerHeld s5 g
/-- CHUNK (R400-R403): the landed data is read and checked. A first mismatch is re-requested; a second, or poison, fails the collective. -/
def chunkMsg (s : State) (n : Nat) : State :=
  withMsg s n 1 (fun s m =>
    let b := m.2.2
    let g := eF b 9 1
    let num := eF b 40 4
    match msgRun s b with
    | none => none
    | some r =>
      match r.recv.find? (isRLane b) with
      | none => none
      | some l =>
        if num < l.count ∨ l.beyond.contains num = true then none
        else
          let eng := m.1
          let addr := eF b 48 8
          let len := min (eF b 44 4) 65536
          let data := engRead s eng addr len
          let crc := crc32c (data.map (fun x => x.1))
          let att := eF b 12 1 % 2
          let seen := modRun (engDone s eng [(addr, len)]) g (fun r => { r with recv := mapIf (isRLane b) (fun y => { y with at_ := s.now }) r.recv })
          if crc ≠ eF b 56 4 then
            let s1 := logEv (collBump seen 3) (0x80 + eng) 0x0402 0
              (payOf [(16, g), (17, eF b 10 1), (18, l.k), (19, att), (20, r.seq), (24, num), (28, l.peer), (32, eF b 56 4), (36, crc)])
            if att = 0 then
              some (sendMsg (collBump (modRun s1 g (fun r => { r with recv := mapIf (isRLane b) (fun y => { y with asked := y.asked ++ [num] }) r.recv })) 4) eng g r.seq l.k l.peer
                (collMsg s1 5 g (eF b 10 1) r.seq l.k num 0 0 0 0 0 0))
            else
              let s2 := engWrite s1 eng addr (data.map (fun x => (x.1, true)))
              some (collFault (logPoison s2 g eng 0 l.k r.seq (addr / 64 * 64)) g eng 0x0A 7 1 l.k addr)
          else
            match firstPoison addr data with
            | some a => some (collFault (logPoison seen g eng 2 l.k r.seq a) g eng 0x0A 7 1 l.k a)
            | none => some (chunkVerified seen g eng r l b data))
/-- COLL_ACK_TIMER (R400): verified chunks have waited 2 µs for their ACK. -/
def collAckTimer (s : State) (g seq l : Nat) : State :=
  match (groupOf s g).run with
  | none => s
  | some r =>
    match r.recv[l]? with
    | some x =>
      match x.since with
      | some t => if r.seq = seq ∧ gget s g 11 = 2 ∧ x.told < x.count ∧ t + 2000 ≤ s.now then sendAck s g seq x else s
      | none => s
    | none => s

/-! Completion. -/

/-- Every chunk that a lane of the entry sends has been acknowledged, and every chunk it expects verified (R395, R400). -/
def entryQuiet (s : State) (g : Nat) (r : CollRun) (k : Nat) (x : CollEntry) : Bool :=
  let e := x.bytes
  let n := grpSize s g
  let rank := grpRank s g
  let outs := (lanesOut s g e).all (fun o => r.send.any (fun l => l.k == k && l.lane == o.2.1 && l.peer == o.2.2 && decide (l.acked = (lanePieces s g r l).length)))
  let ins := !isRing e || ([0, 1] : List Nat).all (fun d =>
    let t := (recvPieces e n rank d).length
    decide (t = 0) || r.recv.any (fun l => l.k == k && l.dir == d && decide (l.count = t) && decide (l.told = t)))
  x.outst == 0 && outs && ins
/-- SHEET_COMPLETE (R392): when the last entry is DONE the sheet's signal leaves and the context is released. -/
def sheetComplete (s : State) (g : Nat) : State :=
  match (groupOf s g).run with
  | some r =>
    if r.entries.all (fun x => x.stage == 3) then activity (releaseRun (collBump (engSignal s g (dirEngine s g 0 0) r.sigClap r.sigInc) 1) g) else s
  | none => s
/-- ENTRY_DONE (R395, R410): an entry whose condition holds is DONE. A ring entry first adds 1 to the join clapper for its - direction, and is
DONE once the join clapper has reached the ring entries of the group completed, this one included. -/
def entryDone (s : State) (g seq k : Nat) : State :=
  match (groupOf s g).run with
  | none => s
  | some r =>
    match r.entries[k]? with
    | none => s
    | some x =>
      if r.seq ≠ seq ∨ gget s g 11 ≠ 2 ∨ x.stage ≠ 2 ∨ entryQuiet s g r k x = false then s
      else
        let join := clapNo (gget s g 6 + 1)
        let set (s : State) (f : CollEntry → CollEntry) : State :=
          modRun s g (fun r => { r with entries := (r.entries.zipIdx).map (fun y => if y.2 = k then f y.1 else y.1) })
        if isRing x.bytes ∧ x.joined = false then engSignal (set s (fun y => { y with joined := true })) g (dirEngine s g 1 0) join 1
        else if isRing x.bytes ∧ (clapGet s join).toNat < (groupOf s g).rings + 1 then s
        else
          let eng := dirEngine s g (if isRing x.bytes then 0 else 2) (ePeer s g x.bytes)
          let s1 := set s (fun y => { y with stage := 3 })
          let s2 := engSignal s1 g eng (eF x.bytes 16 2) (eF x.bytes 18 2)
          let s3 := if isRing x.bytes then modGrp s2 g (fun y => { y with rings := y.rings + 1 }) else s2
          let s4 := match r.entries[k + 1]? with
            | some y => if eFlag y.bytes 1 then armEntry 256 s3 g (k + 1) else s3
            | none => s3
          sheetComplete s4 g

/-- COLL_PROGRESS_TIMEOUT (R406): checks 8 and 9. -/
def collProgressTimeout (s : State) (g seq : Nat) : State :=
  match (groupOf s g).run with
  | none => s
  | some r =>
    let late (t : Nat) : Bool := decide (t + oget s 0x5022 0 * 1000000 ≤ s.now)
    if r.seq ≠ seq ∨ gget s g 11 ≠ 2 then s
    else
      match r.send.find? (fun l => decide (l.acked < (lanePieces s g r l).length) && late l.at_),
            r.recv.find? (fun l => laneTotal s g r l != some l.count && late l.at_) with
      | some l, _ => collFault s g (dirEngine s g l.dir l.peer) 12 8 4 l.k 0
      | none, some l => collFault s g (dirEngine s g l.dir l.peer) 12 8 4 l.k 0
      | none, none =>
        match findIdx (fun (x : CollEntry) => x.stage == 1 && eFlag x.bytes 0 && late x.armedAt) r.entries 0 with
        | some k => if gget s g 12 = 1 then collFault s g (dirEngine s g 0 0) 12 9 3 k 0 else s
        | none => s
/-- A request belongs to collective seq of group g. -/
def ofColl (g seq : Nat) (q : Req) : Bool :=
  match q.why with
  | .collData a b _ _ _ => a == g && b == seq
  | .collMsg a b _ => a == g && b == seq
  | .collClap a b _ => a == g && b == seq
  | .collGet a b _ _ => a == g && b == seq
  | .mark a b => a == g && b == seq
  | _ => false
/-- COLL_INSTANCE_RELEASE (R393, R404): a failing collective whose requests have all been answered or abandoned releases its context. -/
def collRelease (s : State) (g seq : Nat) : State :=
  match (groupOf s g).run with
  | some r => if r.seq = seq ∧ gget s g 11 = 3 ∧ s.reqs.any (ofColl g seq) = false then activity (releaseRun s g) else s
  | none => s

/-- GRP_LAUNCH. -/
def execGrpLaunch (g : Nat) (s : State) : Host.Outcome State Fault Refusal := .next (grpLaunch s g)
/-- CONTEXT_TAKE. -/
def execContextTake (e : Fin 2) (s : State) : Host.Outcome State Fault Refusal := .next (contextTake s e)
/-- COLL_STARVE. -/
def execCollStarve (g seq : Nat) (s : State) : Host.Outcome State Fault Refusal := .next (collStarve s g seq)
/-- RTS. -/
def execRts (n : Nat) (s : State) : Host.Outcome State Fault Refusal := .next (rtsMsg s n)
/-- CTS. -/
def execCts (n : Nat) (s : State) : Host.Outcome State Fault Refusal := .next (ctsMsg s n)
/-- CHUNK_SEND. -/
def execChunkSend (e : Fin 2) (s : State) : Host.Outcome State Fault Refusal := .next (chunkSend s e)
/-- CHUNK. -/
def execChunk (n : Nat) (s : State) : Host.Outcome State Fault Refusal := .next (chunkMsg s n)
/-- ACK. -/
def execAck (n : Nat) (s : State) : Host.Outcome State Fault Refusal := .next (ackMsg s n)
/-- REREQ. -/
def execRereq (n : Nat) (s : State) : Host.Outcome State Fault Refusal := .next (rereqMsg s n)
/-- COLL_ACK_TIMER. -/
def execCollAckTimer (g seq l : Nat) (s : State) : Host.Outcome State Fault Refusal := .next (collAckTimer s g seq l)
/-- ENTRY_DONE. -/
def execEntryDone (g seq k : Nat) (s : State) : Host.Outcome State Fault Refusal := .next (entryDone s g seq k)
/-- COLL_PROGRESS_TIMEOUT. -/
def execCollProgressTimeout (g seq : Nat) (s : State) : Host.Outcome State Fault Refusal := .next (collProgressTimeout s g seq)
/-- COLL_INSTANCE_RELEASE. -/
def execCollInstanceRelease (g seq : Nat) (s : State) : Host.Outcome State Fault Refusal := .next (collRelease s g seq)

end Sys2Proof.Machine
end

