-- ==== Sys2Proof/Machine/Fabric.lean ====
section
/-! DEFINITION. Machine/Fabric.lean: the routers (R374-R379, R382), requests performed here (R304, R370, R397), responses and their timeouts
(R304, R370, R380), the route table and port commands (R377, R384). -/

namespace Sys2Proof.Machine

/-! Routing. -/

/-- The module answers requests addressed to it (R379): it is neither DRAINED nor in PARK. -/
def unavail (s : State) : Bool := drained s || decide (2 ≤ oget s 0x2001 0)
/-- The router whose die an input lies on, by its unit (R310, R385). -/
def routerUnit (s : State) (inp : Nat) (p : Packet) : Nat :=
  if inp < 6 then (if inp < 3 then 0xB4 else 0xB5)
  else if p.srcUnit = 0x81 then 0xB5 else if p.srcUnit = 0x80 then 0xB4
  else if 3 ≤ bits (routeOf s p.dest) 0 3 ∧ bits (routeOf s p.dest) 0 3 ≤ 5 then 0xB5 else 0xB4
/-- The payload of FAB_DROP (R385). -/
def dropPay (reason inp : Nat) (p : Packet) : Nat :=
  payOf [(16, reason), (17, inp), (18, p.dest), (20, p.srcModule), (22, p.type), (23, vcOf p)]
/-- FAB_DROP (R376): counted, and logged at most once per second for each reason. -/
def fabDrop (s : State) (reason inp : Nat) (p : Packet) : State :=
  let s1 := obump s 0x5007 reason 1
  let due := match mfind s1.fab.dropAt reason with
    | some t => decide (t + 1000000000 ≤ s1.now)
    | none => true
  if due = true then
    logEv { s1 with fab := { s1.fab with dropAt := mput s1.fab.dropAt reason s1.now } } (routerUnit s inp p) 0x0306 0 (dropPay reason inp p)
  else s1
/-- CLASS of a packet that leaves on port q, having come in on inp (R375). -/
def classOut (s : State) (inp : Nat) (q : Fin 6) (p : Packet) (detour : Bool) : Bool :=
  let d := q.val % 3
  let a := coord (modNum s) d
  if detour then true
  else if q.val < 3 ∧ a + 1 = torus s d then true
  else if 3 ≤ q.val ∧ a = 0 then true
  else if 6 ≤ inp ∨ inp % 3 ≠ d then false else p.cls
/-- A packet that cannot be forwarded: a request is answered with a status, a response is dropped; both are counted (R376). -/
def unroutable (s : State) (reason inp : Nat) (p : Packet) : State :=
  let s1 := fabDrop s reason inp p
  if isRequest p then answer s1 p 4 [] 0 else s1
/-- The packet, its buffer free again, is routed by the entry of its destination (R374-R376, R379). -/
def routePacket (s : State) (inp : Nat) (p : Packet) : State :=
  let done := freeUnits s inp (poolOf p) (unitsOf p)
  if unnumbered s then
    if inp < 6 then fabDrop done 6 inp p else unroutable done 1 inp p
  else
    let r := routeOf s p.dest
    let port := bits r 0 3
    if port = 6 then
      if unavail s then (if isRequest p then answer done p 3 [] 0 else fabDrop done 5 inp p)
      else { done with fab := { done.fab with inbox := done.fab.inbox ++ [(inp, p)] } }
    else if !validModule s p.dest || port == 7 then unroutable done 1 inp p
    else if portUp s (toPort port) = false then unroutable done 1 inp p
    else if oget s 0x5004 0 ≤ p.hops then unroutable done 2 inp p
    else
      let q := toPort port
      let det := p.detour || bit r 3
      let p1 := { p with detour := det, cls := classOut s inp q p det, hops := if inp < 6 then p.hops + 1 else p.hops }
      modPort s q (fun x => { x with txq := x.txq ++ [(inp, (poolOf p).val, p1)] })
/-- PACKET_FORWARD (R376, R382): the router takes the n-th packet, the first of its input and channel; err is what its buffer's ECC finds,
in the header or in data granule gran. -/
def packetForward (s : State) (n : Nat) (err : MemErr) (header : Bool) (gran : Nat) : State :=
  match s.fab.queue[n]? with
  | none => s
  | some (inp, p) =>
    if (s.fab.queue.take n).any (fun x => x.1 == inp && vcOf x.2 == vcOf p) then s
    else
      let s1 := { s with fab := { s.fab with queue := dropAt s.fab.queue n } }
      match err with
      | .uncorrectable =>
        if header then
          let s2 := obump (freeUnits s1 inp (poolOf p) (unitsOf p)) 0x5007 4 1
          incident s2 (routerUnit s inp p) 9 0x0306 0 (dropPay 4 inp p) 0
        else routePacket s1 inp { p with poison := if p.data.isEmpty then p.poison else p.poison ||| 2 ^ (gran % 32) }
      | .corrected =>
        let i : Fin 2 := if routerUnit s inp p = 0xB4 then 0 else 1
        routePacket { s1 with fab := { s1.fab with eccCorr := vmod s1.fab.eccCorr i (fun n => n + 1) } } inp p
      | .none => routePacket s1 inp p

/-! Requests performed at this module. -/

/-- The packets delivered here of a kind, with their places. -/
def inboxOf (s : State) (f : Packet → Bool) : List (Nat × Nat × Packet) :=
  (s.fab.inbox.zipIdx.filter (fun x => f x.1.2)).map (fun x => (x.2, x.1.1, x.1.2))
/-- Two requests touch a common granule. -/
def meets (a b : Packet) : Bool := decide (a.addr / 64 ≤ (b.addr + b.len - 1) / 64) && decide (b.addr / 64 ≤ (a.addr + a.len - 1) / 64)
/-- The address lies in the message inbox (R397). -/
def inCollInbox (s : State) (a : Nat) : Bool := decide (oget s 0x5020 0 ≤ a) && decide (a < oget s 0x5020 0 + 0x10000)
/-- The n-th request of a type, and the state without it, unless an earlier one of the same source and channel to the same granule, or an
earlier message, goes first (R378, R397). -/
def takeReq (s : State) (ty n : Nat) : Option ((Nat × Packet) × State) :=
  match (inboxOf s (fun p => p.type == ty))[n]? with
  | none => none
  | some (i, inp, p) =>
    let first (x : Nat × Packet) : Bool :=
      isRequest x.2 && ((x.2.srcModule == p.srcModule && x.2.srcUnit == p.srcUnit && vcOf x.2 == vcOf p && meets x.2 p) ||
        (inCollInbox s p.addr && inCollInbox s x.2.addr))
    if (s.fab.inbox.take i).any first then none
    else some ((inp, p), { s with fab := { s.fab with inbox := dropAt s.fab.inbox i } })
/-- The data of a WRITE with the poison of its granules (R367). -/
def pktMarked (p : Packet) : List (Byte × Bool) := p.data.zipIdx.map (fun x => (x.1, bit p.poison ((p.addr + x.2) % 2048 / 64)))
/-- The unit at which the data of a packet delivered here cross the package: the port it came in by, or the unit that sent it. -/
def entryUnit (inp : Nat) (p : Packet) : Nat := if inp < 6 then 0x88 + inp else p.srcUnit
/-- FAB_WRITE_REQUEST (R370, R397): a WRITE is performed and answered; a message is stored and goes to the engine of its die. -/
def fabWrite (s : State) (n : Nat) : State :=
  match takeReq s 1 n with
  | none => s
  | some ((inp, p), s1) =>
    if unavail s then answer s1 p 3 [] 0
    else if inCollInbox s p.addr then
      if (p.srcUnit = 0x80 ∨ p.srcUnit = 0x81) ∧ p.len = 64 then
        let eng := if 3 ≤ inp ∧ inp < 6 then 1 else 0
        let s2 := wrMesh s1 (entryUnit inp p) p.addr (pktMarked p)
        answer { s2 with coll := { s2.coll with msgs := s2.coll.msgs ++ [(eng, p.srcModule, p.data)] } } p 0 [] 0
      else answer s1 p 1 [] 0
    else if !inMem p.addr p.len || !protKey s p.job p.addr p.len 3 then answer s1 p 1 [] 0
    else answer (wrOuterMesh s1 (entryUnit inp p) p.addr (pktMarked p)) p 0 [] 0
/-- FAB_READ_REQUEST (R370): a READ is answered with its data and their poison; of a clapper block, with its value (R37), a READ that its home performs
for the fabric (R325); err is what the clapper's storage is found to hold (R308). -/
def fabRead (s : State) (n : Nat) (err : MemErr) : State :=
  match takeReq s 2 n with
  | none => s
  | some ((inp, p), s1) =>
    if unavail s then answer s1 p 3 [] 0
    else
      match region p.addr with
      | .clap k =>
        if !protKey s p.job p.addr p.len 2 || decide (64 < p.addr % 64 + p.len) then answer s1 p 1 [] 0
        else
          let r := homeRead s1 k err
          let d (v : Nat) := (List.range p.len).map (fun i => ((toLE 8 v)[(p.addr + i) % 8]?).getD 0)
          match r.1 with
          | some v => answer (cbump r.2 (homeOf s k) 0x4070 2 1) p 0 (d v.toNat) 0
          | none => answer r.2 p 0 (d 0) (2 ^ (p.addr % 2048 / 64))
      | _ =>
        if !inMem p.addr p.len || !protKey s p.job p.addr p.len 2 then answer s1 p 1 [] 0
        else
          let l := rdMesh s (entryUnit inp p) (outerAddr s p.addr) p.len
          let poison := (List.range p.len).foldl (fun a i => if ((l[i]?).map (fun x => x.2)).getD false then a ||| 2 ^ ((p.addr + i) % 2048 / 64) else a) 0
          answer (meshDone s1 (entryUnit inp p) false (outerAddr s p.addr) p.len) p 0 (l.map (fun x => x.1)) poison
/-- FAB_CLAP_REQUEST (R304): checked against this module's regions, the operation goes to the clapper's home. -/
def fabClap (s : State) (n : Nat) : State :=
  match takeReq s 3 n with
  | none => s
  | some ((_, p), s1) =>
    if unavail s then answer s1 p 3 [] 0
    else if !protKey s p.job (p.addr / 64 * 64) 64 3 || decide (6 < p.opc) then answer s1 p 1 [] 0
    else
      { s1 with clapOps := s1.clapOps ++ [{ unit := 256 * (p.srcModule + 1) + p.srcUnit, op := p.opc, clap := (p.addr - clapBase) / 64,
                                            val := BitVec.ofNat 64 (ofLE (slice p.data 0 8)), cmp := BitVec.ofNat 64 (ofLE (slice p.data 8 8)),
                                            ret := .fabric p, bad := none }] }

/-! Responses. -/

/-- The code and CHECK of an answer: from the CHECKs of a refusal, of a poisoned clapper, of an unavailable target, and of no response
(status 5). -/
def answerFault (st perm poison unav late : Nat) : Option (Nat × Nat) :=
  match st with
  | 0 => none
  | 1 => some (6, perm)
  | 2 => some (7, poison)
  | 5 => some (12, late)
  | _ => some (6, unav)
/-- An entry's request is refused or unanswered (R406). -/
def collAnswerBad (s : State) (g seq k st : Nat) (q : Packet) : State :=
  match (groupOf s g).run with
  | some r =>
    if r.seq ≠ seq then s
    else
      let eng := q.srcUnit - 0x80
      let a := q.dest * 2 ^ 48 + q.addr
      match st with
      | 5 => collFault s g eng 12 8 4 k a
      | 2 => collFault s g eng 7 6 4 k a
      | _ => collFault s g eng 6 6 4 k a
  | none => s
/-- The first remote window store of a core that has this pc and address and no outcome yet takes one. -/
def storeDone (l : List WStore) (pc addr code : Nat) : List WStore :=
  match findIdx (fun (w : WStore) => w.remote && w.done.isNone && w.pc == pc && w.addr == addr) l 0 with
  | some i => l.zipIdx.map (fun x => if x.2 = i then { x.1 with done := some code } else x.1)
  | none => l
/-- Request q ends with status st (5: no response in time), the response's data and its poison (R304, R370, R380). -/
def settleReq (s : State) (q : Req) (st : Nat) (data : List Byte) (poison : Nat) : State :=
  match q.why with
  | .winLoad c =>
    let code := ((answerFault st 0 0 0 0).map (fun x => x.1)).getD 0
    modCore s c (fun k => match k.status with
      | .winLoad rd w sg a true none => { k with status := .winLoad rd w sg a true (some (code, poison != 0, data)) }
      | _ => k)
  | .winStore c pc addr => modCore s c (fun k => { k with wstores := storeDone k.wstores pc addr (((answerFault st 0 0 0 0).map (fun x => x.1)).getD 0) })
  | .clap f ret =>
    match answerFault st 4 6 5 7 with
    | some (code, check) => raiseF s { f with code := code, detail := f.detail / 256 * 256 + check }
    | none => match ret with
      | .core c rd => returnTo s c rd (BitVec.ofNat 64 (ofLE data)) (8 + q.pkt.dest)
      | _ => s
  | .desc c e idx f => descAnswered s c e idx f (answerFault st 12 12 12 13)
  | .descRead c e idx g f => descReadAnswered s c e idx g f (answerFault st 12 12 12 13) data poison
  | .tsend c e f => tsendAnswered s c e f (answerFault st 5 7 5 6)
  | .tsendAdd c e f => tsendAnswered s c e f (answerFault st 5 7 5 6)
  | .send c id u f => sendAnswered s c id u f (answerFault st 4 5 4 6) q.pkt.len
  | .sendSig c id u f => sendAnswered s c id u f (answerFault st 4 5 4 6) 0
  | .collData g seq k lane m => if st = 0 then chunkAnswered s g seq k lane m else collAnswerBad s g seq k st q.pkt
  | .collMsg g seq k => if st = 0 then s else collAnswerBad s g seq k st q.pkt
  | .collClap g seq k => if st = 0 then entryAnswered s g seq k else collAnswerBad s g seq k st q.pkt
  | .collGet g seq k a =>
    if st = 0 then
      let l := data.zipIdx.map (fun x => (x.1, bit poison ((q.pkt.addr + x.2) % 2048 / 64)))
      match (groupOf s g).run with
      | some r => if r.seq = seq ∧ gget s g 11 = 2 then entryAnswered (wrOuterMesh s q.pkt.srcUnit a l) g seq k else s
      | none => s
    else collAnswerBad s g seq k st q.pkt
  | .mark _ _ => s
/-- A response of the inbox. -/
def isResp (p : Packet) : Bool := p.type == 8 || p.type == 9
/-- The request that a response answers (R368). -/
def reqFor (s : State) (p : Packet) : Option Req := s.reqs.find? (fun r => r.pkt.srcUnit == p.srcUnit && r.pkt.tag == p.tag)
/-- The acknowledgement of a tile send that succeeded is taken by SEND_WRITE_ACK. -/
def isSendAck (s : State) (p : Packet) : Bool :=
  isResp p && p.opc == 0 && (match reqFor s p with
    | some r => (match r.why with
      | .send _ _ _ _ => true
      | .sendSig _ _ _ _ => true
      | _ => false)
    | none => false)
/-- The response at place i of the inbox is taken: it ends its request, or is stray (R380). -/
def takeResp (s : State) (i inp : Nat) (p : Packet) : State :=
  let s1 := { s with fab := { s.fab with inbox := dropAt s.fab.inbox i } }
  match reqFor s p with
  | some r => settleReq { s1 with reqs := s1.reqs.filter (fun x => !(x.pkt.srcUnit == p.srcUnit && x.pkt.tag == p.tag)) } r (min p.opc 4) p.data p.poison
  | none => fabDrop s1 3 inp p
/-- FAB_RESP_ARRIVAL (R304, R370, R380). -/
def fabRespArrival (s : State) (n : Nat) : State :=
  match (inboxOf s (fun p => isResp p && !isSendAck s p))[n]? with
  | none => s
  | some (i, inp, p) => takeResp s i inp p
/-- SEND_WRITE_ACK (R262): the n-th acknowledgement of a tile-send write or signal of cluster c. -/
def sendWriteAck (s : State) (c : Fin 8) (n : Nat) : State :=
  match (inboxOf s (fun p => isSendAck s p && p.srcUnit / 16 == c.val))[n]? with
  | none => s
  | some (i, inp, p) => takeResp s i inp p
/-- FAB_RESP_TIMEOUT (R380): the unit abandons a request. -/
def fabRespTimeout (s : State) (unit tag : Nat) : State :=
  match s.reqs.find? (fun r => r.pkt.srcUnit == unit && r.pkt.tag == tag) with
  | none => s
  | some r =>
    if s.now < r.due then s
    else settleReq { s with reqs := s.reqs.filter (fun x => !(x.pkt.srcUnit == unit && x.pkt.tag == tag)) } r 5 [] 0

/-! The route table and port commands. -/

/-- An entry may be written for module m (R377). -/
def routeOk (s : State) (m v : Nat) : Bool := decide (v < 16) && (if m = modNum s then v % 8 == 6 else v % 8 != 6)
/-- FAB_ROUTE_WRITE (R377): entries first, first + 1, … -/
def routeWrite (s : State) (via : Iface) (first : Nat) (data : List Byte) : Act :=
  if data.isEmpty ∨ 32768 < first + data.length then refuse aLength s
  else if unnumbered s || !(data.zipIdx.all (fun x => routeOk s (first + x.2) x.1.toNat)) then refuse aRange s
  else
    let rt := data.zipIdx.foldl (fun m x => mput m (first + x.2) x.1.toNat) s.fab.route
    (aOk, logEv { s with fab := { s.fab with route := rt } } 0xB4 0x0307 0 (payOf [(16, first), (20, data.length), (24, ifaceNo via)]))
/-- FAB_ROUTE_DEFAULT (R375). -/
def routeDefault (s : State) : Act := (aOk, { s with fab := { s.fab with route := [] } })
/-- FAB_PORT_CMD (R384): 1 takes the link down and retrains it, 2 holds it down. -/
def portCmd (s : State) (p : Fin 6) (v : Nat) : Act :=
  if v = 1 then (aOk, linkDown (modPort s p (fun x => { x with held := false })) p 4)
  else if v = 2 then (aOk, linkDown (modPort s p (fun x => { x with held := true })) p 4)
  else refuse aRange s

/-- PACKET_FORWARD. -/
def execPacketForward (n : Nat) (err : MemErr) (header : Bool) (gran : Nat) (s : State) : Host.Outcome State Fault Refusal :=
  .next (packetForward s n err header gran)
/-- FAB_WRITE_REQUEST. -/
def execFabWriteRequest (n : Nat) (s : State) : Host.Outcome State Fault Refusal := .next (fabWrite s n)
/-- FAB_READ_REQUEST. -/
def execFabReadRequest (n : Nat) (s : State) (err : MemErr := .none) : Host.Outcome State Fault Refusal := .next (fabRead s n err)
/-- FAB_CLAP_REQUEST. -/
def execFabClapRequest (n : Nat) (s : State) : Host.Outcome State Fault Refusal := .next (fabClap s n)
/-- FAB_RESP_ARRIVAL. -/
def execFabRespArrival (n : Nat) (s : State) : Host.Outcome State Fault Refusal := .next (fabRespArrival s n)
/-- SEND_WRITE_ACK. -/
def execSendWriteAck (c : Fin 8) (n : Nat) (s : State) : Host.Outcome State Fault Refusal := .next (sendWriteAck s c n)
/-- FAB_RESP_TIMEOUT. -/
def execFabRespTimeout (unit tag : Nat) (s : State) : Host.Outcome State Fault Refusal := .next (fabRespTimeout s unit tag)
/-- FAB_ROUTE_WRITE. -/
def execFabRouteWrite (via : Iface) (first : Nat) (data : List Byte) (s : State) : Host.Outcome State Fault Refusal :=
  .next (written s via 0x5005 0 (routeWrite s via first data))
/-- FAB_ROUTE_DEFAULT. -/
def execFabRouteDefault (via : Iface) (s : State) : Host.Outcome State Fault Refusal := .next (written s via 0x5006 0 (routeDefault s))
/-- FAB_PORT_RETRAIN. -/
def execFabPortRetrain (via : Iface) (p : Fin 6) (s : State) : Host.Outcome State Fault Refusal :=
  .next (written s via (0x5010 + p.val) 4 (portCmd s p 1))
/-- FAB_PORT_HOLD_DOWN. -/
def execFabPortHoldDown (via : Iface) (p : Fin 6) (s : State) : Host.Outcome State Fault Refusal :=
  .next (written s via (0x5010 + p.val) 4 (portCmd s p 2))

end Sys2Proof.Machine
end

