-- ==== Sys2Proof/Machine/Director.lean ====
section
/-! DEFINITION. Machine/Director.lean: mailboxes (R500, R501), heartbeats, the crew and its event ring (R497, R503, R504), the director role
(R532-R534), and bus-off (R499). -/

namespace Sys2Proof.Machine

/-! Mailboxes (R500, R501). -/

/-- A mailbox never used. -/
def Mailbox.idle : Mailbox := { status := 0, index := 0, sub := 0, flags := 0, node := 0, length := 0, resultLen := 0, abort := 0, data := [] }
/-- Mailbox m; 64 is the JTAG mailbox (R580). -/
def mboxGet (s : State) (m : Nat) : Mailbox := (mfind s.dict.mbox m).getD Mailbox.idle
/-- The state with f applied to the dictionary engine and the DAP server. -/
def modDict (s : State) (f : Dict → Dict) : State := { s with dict := f s.dict }
/-- The state with f applied to mailbox m. -/
def modMbox (s : State) (m : Nat) (f : Mailbox → Mailbox) : State := modDict s (fun d => { d with mbox := mput d.mbox m (f (mboxGet s m)) })
/-- The bytes l placed in a buffer at offset a. -/
def bufPut (b : List (Nat × Byte)) (a : Nat) (l : List Byte) : List (Nat × Byte) := (l.zipIdx).foldl (fun m x => mset 0#8 m (a + x.2) x.1) b
/-- An access of mailbox m ends (R501): the outcome is in ABORT, RESULT_LEN and the buffer, STATUS is 2 or 3, and the mailbox's function gets its
MSI-X message (R522). -/
def mboxDone (s : State) (m code : Nat) (data : List Byte) : State :=
  let s1 := modMbox s m (fun x =>
    { x with status := if code = 0 then 2 else 3, abort := code, resultLen := if code = 0 then data.length else 0,
             data := if code = 0 then bufPut x.data 0 data else x.data })
  if m < 64 then msix s1 (toFin8 (m / 8)) 1 else s1
/-- The interface of an access (R578). -/
def srcIface : DictSrc → Iface
  | .mailbox m => if m < 64 then .fn (toFin8 (m / 8)) else .jtag
  | .dap _ _ => .dap

/-! The director's state (R502-R504, R507, R534). -/

/-- The state with f applied to the director logic. -/
def modDir (s : State) (f : Director → Director) : State := { s with dir := f s.dir }
/-- Proxied accesses end with the role: mailboxes get TIMEOUT, DAP clients run into theirs (R534). -/
def dropProxies (s : State) : State :=
  s.dict.proxies.foldl (fun s x => match x.req.src with
    | .mailbox m => mboxDone s m aTimeout []
    | .dap _ _ => s) (modDict s (fun d => { d with proxies := [] }))
/-- The director's state starts from nothing (R534); without the role its objects read zero (R507). -/
def directorFresh (s : State) (present : Nat) : State :=
  let s1 := { s with obj := s.obj.filter (fun x => x.1 / 256 == 0xA002 || !(0xA000 ≤ x.1 / 256 && x.1 / 256 ≤ 0xA012)) }
  oset (modDir (dropProxies s1) (fun d => { d with crewAt := [], crewLog := [], beaconSeq := 0, beaconTc := 0, beaconAt := none })) 0xA000 0 present
/-- DIRECTOR_ROLE is logged (R534, R538). -/
def roleEvent (s : State) (old cause : Nat) : State :=
  logEv s 0xC3 0x0806 0 (payOf [(16, oget s 0xA020 0), (17, old), (18, cause), (20, s.dir.module)])
/-- The module gives up the role: it is crew again and waits out its claim delay (R533). -/
def roleLost (s : State) (cause : Nat) : State :=
  let old := oget s 0xA020 0
  roleEvent (oset (modDir (directorFresh s 0) (fun d => { d with heard := s.now })) 0xA020 0 0) old cause

/-! Heartbeats (R497). -/

/-- The 20 bytes of the HEARTBEAT frame now. -/
def heartbeat (s : State) : List Byte :=
  let b := bootState s
  let trial := match curCut s with
    | some c => c.state == 1
    | none => false
  let fl := (if drained s then 1 else 0) + (if oget s 0x7006 0 = 1 then 2 else 0) + (if trial then 4 else 0) + (if oget s 0x1012 2 = 1 then 8 else 0)
  toLE 1 (if b < 9 ∨ b = 11 then 0xFF else oget s 0x2001 0) ++ toLE 1 fl ++ toLE 1 (tcState s) ++ toLE 1 (oget s 0x1201 0 / 10) ++
    toLE 4 (((curCut s).map (fun c => c.num)).getD 0) ++ toLE 8 (tcAt s 22) ++ toLE 4 (modNum s)
/-- The HEARTBEAT frame is sent. -/
def heartbeatNow (s : State) : State := modDir (sendCan s (0x700 + myNode s) (heartbeat s)) (fun d => { d with hbAt := some s.now })
/-- HEARTBEAT_SEND (R497): every DAP_HEARTBEAT_PERIOD, and first when DAP comes up. -/
def heartbeatSend (s : State) : State :=
  let due := match s.dir.hbAt with
    | some t => decide (t + oget s 0x1201 0 * 1000000 ≤ s.now)
    | none => true
  if dapUp s && due then heartbeatNow s else s
/-- A heartbeat of crew node n reaches the director (R503): CREW_PRESENT, CREW_HEARTBEAT, CREW_RETURNED and CREW_CHANGE. -/
def crewHeartbeat (s : State) (n : Nat) (f : List Byte) : State :=
  let old := toLE 20 (oget s 0xA001 n)
  let known := (mfind s.dir.crewAt n).isSome
  let present := bit (oget s 0xA000 0) n
  let module := ofLE (slice f 16 4)
  let s1 := oset (modDir s (fun d => { d with crewAt := mput d.crewAt n s.now })) 0xA001 n (ofLE (f.take 20))
  let s2 := oset s1 0xA000 0 (withBit (oget s1 0xA000 0) n true)
  let s3 := if known && !present then logEv s2 0xC3 0x0709 0 (payOf [(16, n), (20, module)]) else s2
  if known && slice old 0 2 != slice f 0 2 then
    logEv s3 0xC3 0x070A 0
      (payOf [(16, n), (17, ofLE (slice old 1 1)), (18, ofLE (slice f 1 1)), (19, ofLE (slice old 0 1)), (20, ofLE (slice f 0 1)), (24, module)])
  else s3
/-- HEARTBEAT_RECEIVE (R503, R532, R533): a frame of node 0 restarts the claim delay; a director that hears one gives up the role to a smaller
MODULE, and when both are unnumbered. -/
def heartbeatReceive (s : State) (n : Nat) (f : List Byte) : State :=
  if !dapUp s || decide (f.length < 20) || decide (32 ≤ n) then s
  else
    let s0 := obump s 0x1205 2 1
    if n = 0 then
      let m := ofLE (slice f 16 4)
      let s1 := modDir s0 (fun d => { d with heard := s.now, module := m })
      if isDirector s ∧ (m < modNum s ∨ (m = 0xFFFFFF ∧ unnumbered s = true)) then roleLost s1 3 else s1
    else if isDirector s then crewHeartbeat s0 n f
    else s0
/-- CREW_SILENT (R503): no heartbeat of node n for CREW_SILENT_LIMIT times the period of its last. -/
def crewSilent (s : State) (n : Nat) : State :=
  let hb := toLE 20 (oget s 0xA001 n)
  match mfind s.dir.crewAt n with
  | some t =>
    if isDirector s ∧ bit (oget s 0xA000 0) n = true ∧ t + oget s 0xA002 0 * (ofLE (slice hb 3 1) * 10000000) ≤ s.now then
      logEv (oset s 0xA000 0 (withBit (oget s 0xA000 0) n false)) 0xC3 0x0708 0
        (payOf [(16, n), (20, ofLE (slice hb 16 4)), (24, ofLE (slice hb 8 8))])
    else s
  | none => s
/-- EVENT_FRAME_RECEIVE (R504): the director stores a crew node's record in the crew event ring. -/
def eventFrameReceive (s : State) (n : Nat) (f : List Byte) : State :=
  if !dapUp s || !isDirector s || n == 0 || decide (32 ≤ n) || f.length != 64 then s
  else
    let w := oget s 0xA010 0
    let e := f ++ toLE 1 n ++ zeros 7 ++ toLE 8 (tcAt s 22)
    let s1 := modDir (obump s 0x1205 2 1) (fun d => { d with crewLog := (d.crewLog ++ [e]).drop (d.crewLog.length + 1 - 256) })
    let s2 := if 256 ≤ w ∧ oget s 0xA011 0 ≤ w - 256 then obump s1 0xA012 0 1 else s1
    obump s2 0xA010 0 1
/-- A write of CREW_EVLOG_ACKED (R466, R507). -/
def crewAcked (s : State) (v : Nat) : Act :=
  let w := oget s 0xA010 0
  if v + 256 < w ∨ w < v then refuse aRange s
  else if !isDirector s then refuse aState s
  else (aOk, oset s 0xA011 0 v)

/-! The role (R532-R534). -/

/-- The claim delay in ms; none for a module that never claims, or that has not reached S2 (R532). -/
def claimDelay (s : State) : Option Nat :=
  if drained s ∨ bootState s = 11 then none
  else if oget s 0x1012 2 = 1 then some (oget s 0xA021 0)
  else if oget s 0xA022 0 = 1 then some (oget s 0xA021 0 + 2 * dapNode s * oget s 0x1201 0)
  else none
/-- DIRECTOR_CLAIM (R532, R534): no frame of node 0 was heard for the claim delay. It is an election while no such heartbeat was heard since reset
(log entry 40). -/
def directorClaim (s : State) : State :=
  match claimDelay s with
  | none => s
  | some ms =>
    if isDirector s ∨ dapUp s = false ∨ s.now < s.dir.heard + ms * 1000000 then s
    else
      let s1 := obump (oset (directorFresh s 1) 0xA020 0 (if oget s 0x1012 2 = 1 then 1 else 2)) 0xA024 0 1
      heartbeatNow (roleEvent s1 0 (if s.dir.module = 0xFFFFFFFF then 0 else 1))
/-- A write of DIRECTOR_RELEASE (R533, R537). -/
def directorRelease (s : State) (v : Nat) : Act :=
  if v ≠ 1 then refuse aRange s else if !isDirector s then refuse aState s else (aOk, roleLost s 2)

/-! Bus-off (R499). -/

/-- DAP_BUS_OFF: the controller recovers after `errs` error frames, and logs it. -/
def dapBusOff (s : State) (errs : Nat) : State :=
  if oget s 0x1206 0 = 0 then s
  else
    let s1 := obump (obump s 0x1205 3 errs) 0x1205 4 1
    logEv (oset s1 0x1206 0 1) 0xC2 0x0707 0 (payOf [(16, errs % 2 ^ 32)])

/-! The rows. -/

/-- HEARTBEAT_SEND. -/
def execHeartbeatSend (s : State) : Host.Outcome State Fault Refusal := .next (heartbeatSend s)
/-- HEARTBEAT_RECEIVE. -/
def execHeartbeatReceive (n : Nat) (f : List Byte) (s : State) : Host.Outcome State Fault Refusal := .next (heartbeatReceive s n f)
/-- CREW_SILENT. -/
def execCrewSilent (n : Nat) (s : State) : Host.Outcome State Fault Refusal := .next (crewSilent s n)
/-- EVENT_FRAME_RECEIVE. -/
def execEventFrameReceive (n : Nat) (f : List Byte) (s : State) : Host.Outcome State Fault Refusal := .next (eventFrameReceive s n f)
/-- DIRECTOR_CLAIM. -/
def execDirectorClaim (s : State) : Host.Outcome State Fault Refusal := .next (directorClaim s)
/-- DIRECTOR_RELEASE. -/
def execDirectorRelease (via : Iface) (s : State) : Host.Outcome State Fault Refusal := .next (written s via 0xA023 0 (directorRelease s 1))
/-- DAP_BUS_OFF. -/
def execDapBusOff (errs : Nat) (s : State) : Host.Outcome State Fault Refusal := .next (dapBusOff s errs)

end Sys2Proof.Machine
end

