-- ==== Sys2Proof/Machine/Reads.lean ====
section
/-! DEFINITION. Machine/Reads.lean: reads of the object dictionary (R471-R473, R479, R480): the value in effect of every object, those that a read
computes from the state among them, the staged and the committed value, and the refusals. -/

namespace Sys2Proof.Machine

/-! What an index and subindex name (R471, R472). -/

/-- What the dictionary holds at an index and subindex: no index, no subindex, a constant of one byte or four, or an object of a row. -/
inductive ObjAt where
  | noIndex | noSub | const (n v : Nat) | row (r : ObjRow)
deriving DecidableEq, Repr

/-- The size that the type index t reads (R472). -/
def typeSize (t : Nat) : Nat := ([1, 1, 2, 4, 8, 1, 2, 4, 8, 4, 8, 0, 0, 0][t - 1]?).getD 0
/-- The highest subindex in use at an index. -/
def subTop (ix : Nat) : Nat :=
  ((objBlock (ix / 4096)).filter (fun r => decide (r.base ≤ ix) && decide ((ix - r.base) % r.step = 0) && decide ((ix - r.base) / r.step < r.cnt))).foldl
    (fun m r => max m r.subN) 0
/-- What an index and subindex name. -/
def objAt (ix sub : Nat) : ObjAt :=
  if 1 ≤ ix ∧ ix ≤ 14 then (if sub = 0 then .const 4 (typeSize ix) else .noSub)
  else match objRow ix sub with
    | some r => .row r
    | none => if !objIndexExists ix then .noIndex else if sub = 0 then .const 1 (subTop ix) else .noSub

/-! Values that a read computes. -/

/-- An entry of a ring of `size` slots: the newest record of slot i, if the ring still holds one; w records have been written, l is what is
held, oldest first. -/
def ringSlot {A : Type} (l : List A) (w size i : Nat) : Option A :=
  let d := (w + size - 1 - i) % size
  if w = 0 ∨ w ≤ d ∨ l.length ≤ d then none else l[l.length - 1 - d]?
/-- The bytes of a string. -/
def strBytes (x : String) : List Byte := x.toUTF8.data.toList.map (fun b => BitVec.ofNat 8 b.toNat)
/-- SUSPECT_EVENTS (R469): the largest count of any unit of a class. -/
def suspectEvents (s : State) (cls : Nat) : Nat := (s.logs.incidents.map (fun i => if i.cls = cls then incidentCount s cls i.unit else 0)).foldl max 0
/-- The seconds left until t. -/
def secsLeft (s : State) (t : Option Nat) : Nat := match t with
  | some x => cdiv (x - s.now) 1000000000
  | none => 0
/-- RANGE_STATE (R99). -/
def rangeState (r : RangeReg) : Nat := (if r.valid then 4 else 0) + r.gran
/-- RANGE_DATA: 512 entries of four bytes (R98). -/
def rangeData (r : RangeReg) : List Byte := ((List.range 512).map (fun e => toLE 4 (mget 0 r.amax e))).flatten
/-- A register number as an index of the range registers. -/
def toRr (n : Nat) : Fin 16 := ⟨n % 16, Nat.mod_lt _ (by decide)⟩
/-- REG_CONFIG (R178). -/
def regConfig (r : TReg) : Nat := r.fmt * 2 ^ 28 + r.rows * 2 ^ 14 + r.cols
/-- The occupied entries of queue i of a cluster: MQ, VQ, SQ0 to SQ3, YQ (R68). -/
def queueFill (k : Cluster) (i : Nat) : Nat :=
  ([k.mq.length, k.vq.length, k.sq[0].length, k.sq[1].length, k.sq[2].length, k.sq[3].length, k.yq.length][i]?).getD 0

/-- The numbers that a read of a cluster object computes (R68, R98, R178). -/
def clusterNow (s : State) (ix sub : Nat) : Option Nat :=
  let k := s.cl[clusterOfIx ix]
  let i := ix % 0x100
  if i = 0x06 then some (queueFill k (sub - 1))
  else if i = 0x14 then some (rangeState k.rr[toRr (sub - 1)])
  else if i = 0x21 then some (regConfig k.reg[toReg (sub - 1)])
  else none
/-- The numbers that a read of an object of the module computes. -/
def moduleNow (s : State) (ix sub : Nat) : Option Nat :=
  if ix = 0x1003 then some Config.siliconStep
  else if ix = 0x1004 then some s.fuses.serial
  else if ix = 0x1013 then some (if unnumbered s then 0xFF else coord (modNum s) (sub - 1))
  else if ix = 0x1014 then
    some (if unnumbered s then 0xFFFF else coord (modNum s) 0 / 2 + 16 * (coord (modNum s) 1 / 2) + 256 * (coord (modNum s) 2 / 2))
  else if ix = 0x1100 then some (tcAt s 22)
  else if ix = 0x1105 then some (tcHops s)
  else if ix = 0x1300 then some (cutNumber s)
  else if ix = 0x1301 then some (((prevCut s).map (fun x => x.2.num)).getD 0xFFFFFFFF)
  else if ix = 0x1302 then some (((curCut s).map (fun c => c.state)).getD 0)
  else if ix = 0x1305 then some (secsLeft s s.dict.trialEnd)
  else if ix = 0x1310 then some s.dict.held.length
  else if ix = 0x5025 then some (64 - contextsUsed s)
  else if 0x5100 ≤ ix ∧ ix < 0x5200 ∧ sub = 4 then some (grpRank s (ix - 0x5100))
  else if 0x5100 ≤ ix ∧ ix < 0x5200 ∧ sub = 10 then some (grpHash s (ix - 0x5100))
  else if ix = 0x6033 then some (trackersFree s (sub - 1))
  else if 0x6100 ≤ ix ∧ ix < 0x6500 ∧ sub = 16 then some (qpOf s (ix - 0x6100)).unacked.length
  else if ix = 0x7012 then some (suspectEvents s sub)
  else if ix = 0x8004 then some Config.jtagIdcode
  else if ix = 0x8005 then some s.sec.challengeVal
  else if ix = 0x8014 then some (secsLeft s s.sec.ends)
  else if ix = 0x8051 then
    let c := toFin8 (sub - 1)
    some (if !debugOn s c then 2 else if s.cl[c].core.halted then 1 else 0)
  else if ix = 0x9000 then some Config.pcieIds
  else if ix = 0xA003 then some (s.dict.proxies.filter (fun x => x.sent)).length
  else none
/-- The bytes that a read of an object of variable size computes. -/
def domainNow (s : State) (ix sub : Nat) : Option (List Byte) :=
  if ix = 0x1000 then some (strBytes "ODEUS AB1")
  else if ix = 0x1002 then some (strBytes "LMG-ODAB1-L40")
  else if ix = 0x2046 then some s.flash.shutdowns.flatten
  else if 0x4000 ≤ ix ∧ ix < 0x4800 ∧ ix % 0x100 = 0x15 then some (rangeData s.cl[clusterOfIx ix].rr[toRr (sub - 1)])
  else if ix = 0x5005 then some ((List.range 32768).map (fun m => BitVec.ofNat 8 (routeOf s m)))
  else if 0x5100 ≤ ix ∧ ix < 0x5200 ∧ sub = 3 then some ((membersOf s (ix - 0x5100)).map (toLE 2)).flatten
  else if 0x7100 ≤ ix ∧ ix < 0x7140 then
    some (((ringSlot s.evlog (oget s 0x7020 0) 1024 ((ix - 0x7100) * 16 + sub - 1)).map recBytes).getD (zeros 64))
  else if 0x7200 ≤ ix ∧ ix < 0x7210 then
    some (((ringSlot s.logs.cont (oget s 0x7030 0) 256 ((ix - 0x7200) * 16 + sub - 1)).map (fun x => x.1)).getD (zeros 328))
  else if ix = 0x8052 then
    let k := s.cl[toFin8 (sub - 1)].core
    some ((k.x.toList.map (fun x => toLE 8 x.toNat)).flatten ++ toLE 8 k.pc.toNat)
  else if ix = 0x8053 then some ((List.range 65536).map (fun a => clmByte s.cl[toFin8 (sub - 1)] a))
  else if ix = 0x9011 then some (bootTimes s)
  else if 0xA100 ≤ ix ∧ ix < 0xA110 then
    some ((ringSlot s.dir.crewLog (oget s 0xA010 0) 256 ((ix - 0xA100) * 16 + sub - 1)).getD (zeros 80))
  else none
/-- The number that an object reads: its value in effect (R473). -/
def objNow (s : State) (ix sub : Nat) : Nat :=
  ((if 0x4000 ≤ ix ∧ ix < 0x4800 then clusterNow s ix sub else moduleNow s ix sub)).getD (fromFuses s ix sub (oget s ix sub))

/-! Staged and committed values (R480). -/

/-- The committed value of an ST object: that of the cut in effect, or its default. -/
def committed (s : State) (ix sub : Nat) : Nat := mget (objDefault ix sub) (((curCut s).map (fun c => c.vals)).getD []) (okey ix sub)
/-- The staged value of an ST object. -/
def staged (s : State) (ix sub : Nat) : Nat := mget (objDefault ix sub) s.dict.staged (okey ix sub)
/-- The objects whose values differ between two sets of ST values, by key. -/
def valsDiff (a b : List (Nat × Nat)) : List Nat :=
  let keys := a.map (fun x => x.1) ++ (b.map (fun x => x.1)).filter (fun k => (mfind a k).isNone)
  keys.filter (fun k => mget (objDefault (k / 256) (k % 256)) a k != mget (objDefault (k / 256) (k % 256)) b k)
/-- CUT_STAGED_COUNT (R480): a staged value that equals the fuses' or straps' default is no change. -/
def stagedChanges (s : State) : List Nat :=
  (valsDiff s.dict.staged (((curCut s).map (fun c => c.vals)).getD [])).filter (fun k =>
    fromFuses s (k / 256) (k % 256) (staged s (k / 256) (k % 256)) != fromFuses s (k / 256) (k % 256) (committed s (k / 256) (k % 256)))

/-! The read (R473, R479). -/

/-- The objects that answer while the module is FAILED (R567). -/
def failedServes (ix : Nat) : Bool :=
  (decide (0x1000 ≤ ix) && decide (ix ≤ 0x1004)) || ix == 0x9010 || (decide (0x8000 ≤ ix) && decide (ix ≤ 0x80FF))
/-- The director objects, which read zero without the role (R507). -/
def directorObj (ix : Nat) : Bool := (decide (0xA000 ≤ ix) && decide (ix ≤ 0xA012)) || (decide (0xA100 ≤ ix) && decide (ix < 0xA110))
/-- The bytes of an object's value in effect. -/
def objBytes (s : State) (r : ObjRow) (ix sub : Nat) : List Byte :=
  match domainNow s ix sub with
  | some b => if directorObj ix && !isDirector s then zeros b.length else b
  | none =>
    toLE r.ty.size (if directorObj ix && !isDirector s then 0 else if ix = 0x1307 then (stagedChanges s).length else objNow s ix sub)
/-- Reads that depend on the debug session (R575): DBG_REGS and DBG_CLM of a halted core, DBG_MEM_DATA. -/
def debugRead (s : State) (ix sub : Nat) : Option (Nat × List Byte) :=
  if ix = 0x8052 ∨ ix = 0x8053 then
    let c := toFin8 (sub - 1)
    if !debugOn s c then some (aLocked, []) else if !s.cl[c].core.halted then some (aState, []) else none
  else if ix = 0x8055 then some (dbgMem s)
  else none
/-- The request FLAGS are malformed (R480, R491): a reserved bit, or STAGED with COMMITTED. -/
def flagsBad (flags : Nat) : Bool := decide (8 ≤ flags) || (bit flags 0 && bit flags 1)
/-- A read through an interface: its abort code and the value (R479). -/
def objRead (s : State) (via : Iface) (ix sub flags : Nat) : Nat × List Byte :=
  if flagsBad flags then (aCommand, [])
  else match objAt ix sub with
    | .noIndex => (aNoIndex, [])
    | .noSub => (aNoSub, [])
    | .const n v => if canRead s via ix sub then (aOk, toLE n v) else (aNotPermitted, [])
    | .row r =>
      if !canRead s via ix sub then (aNotPermitted, [])
      else if r.acc = .wo then (aWriteOnly, [])
      else if bootState s = 11 ∧ failedServes ix = false then (aState, [])
      else if r.acc = .st ∧ bit flags 0 = true then (aOk, toLE r.ty.size (fromFuses s ix sub (staged s ix sub)))
      else if r.acc = .st ∧ bit flags 1 = true then (aOk, toLE r.ty.size (fromFuses s ix sub (committed s ix sub)))
      else match debugRead s ix sub with
        | some x => x
        | none => (aOk, objBytes s r ix sub)

end Sys2Proof.Machine
end

