-- ==== Sys2Proof/Machine/ReliabRows.lean ====
section
/-! DEFINITION. Machine/ReliabRows.lean: the egress comparison of a pair (R448, R450, R452), DRAIN_CMD and DIGEST_VERDICT (R457, R461), the
change of the checking mode (R446), and the acknowledgement of logs (R466). -/

namespace Sys2Proof.Machine

/-! Egress. -/

/-- The report of an effect that waits for its comparison. -/
def egFault : Egress → FaultRep
  | .write _ _ _ f => f
  | .clap _ _ f => f
  | .packet _ _ _ f => f
/-- Since when it waits. -/
def egSince : Egress → Nat
  | .write _ _ t _ => t
  | .clap _ t _ => t
  | .packet _ _ t _ => t
/-- Its destination address. -/
def egAddr : Egress → Nat
  | .write a _ _ _ => a
  | .clap m _ _ => clapAddr m.clap
  | .packet p _ _ _ => p.addr
/-- Its kind. -/
def egKind : Egress → Nat
  | .write _ _ _ _ => 0
  | .clap _ _ _ => 1
  | .packet _ _ _ _ => 2
/-- What is compared: destination and data, or operation, clapper and operands (R448, R450). -/
def egBytes : Egress → List Byte
  | .write a l _ _ => toLE 8 a ++ l.map (fun x => x.1) ++ l.map (fun x => if x.2 then 1#8 else 0#8)
  | .clap m _ _ => toLE 8 (clapAddr m.clap) ++ toLE 1 m.op ++ toLE 8 m.val.toNat ++ toLE 8 m.cmp.toNat
  | .packet p _ _ _ => toLE 8 p.addr ++ toLE 4 p.dest ++ toLE 1 p.type ++ toLE 1 p.opc ++ toLE 4 p.poison ++ p.data
/-- Two effects are counterparts: the same operation issued them (R450). -/
def egPair (x y : Egress) : Bool := egKind x == egKind y && (egFault x).engine == (egFault y).engine && (egFault x).pc == (egFault y).pc
/-- The first effect of the leader that has a counterpart in the mirror, with both places. -/
def egMatch (a b : List Egress) : Option (Nat × Nat × Egress × Egress) :=
  firstSome (fun (x : Egress × Nat) =>
    match findIdx (fun y => egPair x.1 y) b 0 with
    | some j => (b[j]?).map (fun y => (x.2, j, x.1, y))
    | none => none) a.zipIdx
/-- The place of the first 8 bytes that differ. -/
def firstDiff (a b : List Byte) : Nat := (findIdx (fun (x : Byte × Byte) => x.1 != x.2) (a.zip b) 0).getD (min a.length b.length)
/-- A window store of a pair that has been performed is acknowledged (R46). -/
def storeSettled (s : State) (f : FaultRep) : State :=
  if f.engine = 0 then
    modCore s (toFin8 f.cluster) (fun k =>
      match findIdx (fun (w : WStore) => w.done == some 0xFF && w.pc == f.pc && 2 ^ 63 + w.addr == f.addr) k.wstores 0 with
      | some i => { k with wstores := dropAt k.wstores i }
      | none => k)
  else s
/-- The leader performs an effect that its mirror agrees with; the mirror's own copy counts as answered (R448). -/
def egPerform (s : State) (x y : Egress) : State :=
  let s1 := match x with
    | .write a l _ f => wrOuterMesh s (16 * f.cluster + f.engine) a l
    | .clap m _ _ => { s with clapOps := s.clapOps ++ [m] }
    | .packet p w _ _ => inject s p w
  match y with
  | .packet p w _ _ =>
    match w with
    | .clap _ (.core _ _) => s1
    | w => settleReq s1 { pkt := p, due := 0, why := w } 0 [] 0
  | .write _ _ _ g => storeSettled (storeSettled s1 (egFault x)) g
  | .clap _ _ _ => s1
/-- PAIR_EGRESS_COMPARE (R448, R450): the copies of pair p agree and the leader's is performed, or they differ and E_PAIR is raised. -/
def pairEgressCompare (s : State) (p : Fin 4) : State :=
  let c := toFin8 (2 * p.val)
  let d := toFin8 (2 * p.val + 1)
  match egMatch s.cl[c].egress s.cl[d].egress with
  | none => s
  | some (i, j, x, y) =>
    let s1 := modC (modC s c (fun k => { k with egress := dropAt k.egress i })) d (fun k => { k with egress := dropAt k.egress j })
    let a := egBytes x
    let b := egBytes y
    if a = b then egPerform s1 x y
    else
      let n := firstDiff a b
      pairFault s1 c { egFault x with detail := det 0xE1 0 0 0 } 1 0xFFFF (ofLE (slice a n 8)) (ofLE (slice b n 8)) (egAddr x) false
/-- PAIR_EGRESS_TIMEOUT (R450): an effect waited longer than GATE_TIMEOUT for its counterpart. -/
def pairEgressTimeout (s : State) (p : Fin 4) : State :=
  let c := toFin8 (2 * p.val)
  let d := toFin8 (2 * p.val + 1)
  let late (k : Fin 8) (x : Egress) : Bool := cget s k 0x4005 0 != 0 && elapsedUs s (egSince x) (cget s k 0x4005 0)
  let lone (k : Fin 8) (other : List Egress) : Option (Nat × Egress) :=
    firstSome (fun (x : Egress × Nat) => if late k x.1 && !other.any (egPair x.1) then some (x.2, x.1) else none) s.cl[k].egress.zipIdx
  let raise (k : Fin 8) (r : Nat × Egress) : State :=
    pairFault (modC s k (fun q => { q with egress := dropAt q.egress r.1 })) c { egFault r.2 with detail := det 0xE2 0 0 0 } 2 0xFFFF 0 0 (egAddr r.2) false
  match lone c s.cl[d].egress with
  | some r => raise c r
  | none => match lone d s.cl[c].egress with
    | some r => raise d r
    | none => s

/-! Registers. -/

/-- DRAIN_CMD (R457): 1 makes the host the suspect; no incident names an event code (log entry 33). -/
def drainCmd (s : State) (v : Nat) : Act := if v ≠ 1 then refuse aRange s else (aOk, activity (moduleDrain s 0xFF 0 0 (tcNow s)))
/-- DIGEST_VERDICT (R461): logged; outcome 2 makes the controller of the named stack suspect. -/
def digestVerdict (s : State) (v : Nat) : Act :=
  let out := v % 256
  let k := bits v 8 4
  if out = 0 ∨ 3 < out ∨ 11 < k ∨ bits v 12 4 ≠ 0 ∨ 2 ^ 32 ≤ v then refuse aRange s
  else if out = 2 then
    let t := stampTc s 0xC1
    (aOk, moduleDrain (logCont (stamped s 0xC1 t) t 0xC1 0x0607 0 (payOf [(16, v)]) 1 0 4 0 0) (0x90 + k) 0x0607 0 t)
  else (aOk, logEv s 0xC1 0x0607 0 (payOf [(16, v)]))
/-- EVLOG_ACKED (R466). -/
def evlogAcked (s : State) (v : Nat) : Act :=
  let w := oget s 0x7020 0
  if v + 1024 < w ∨ w < v then refuse aRange s else (aOk, oset s 0x7021 0 v)
/-- CONT_ACKED (R466). -/
def contAcked (s : State) (v : Nat) : Act :=
  let w := oget s 0x7030 0
  if v + 256 < w ∨ w < v then refuse aRange s else (aOk, oset s 0x7031 0 v)
/-- Both clusters of every pair belong to one partition (R35). -/
def pairsWhole (part : Fin 8 → Nat) : Bool := (fins 4).all (fun k => part (toFin8 (2 * k.val)) == part (toFin8 (2 * k.val + 1)))
/-- A held value is dropped (R476): HOLD_DROPPED names the object, the abort code, the interface and the class of the value. -/
def holdDropped (s : State) (h : Held) (code : Nat) : State :=
  logEv { s with dict := { s.dict with held := s.dict.held.filter (fun x => !(x.ix == h.ix && x.sub == h.sub)) } } 0xC1 0x070B 0
    (payOf [(16, h.ix), (18, h.sub), (20, code), (22, ifaceNo h.via), (23, if h.st then 1 else 0)])
/-! The rows. -/

/-- PAIR_EGRESS_COMPARE. -/
def execPairEgressCompare (p : Fin 4) (s : State) : Host.Outcome State Fault Refusal := .next (pairEgressCompare s p)
/-- PAIR_EGRESS_TIMEOUT. -/
def execPairEgressTimeout (p : Fin 4) (s : State) : Host.Outcome State Fault Refusal := .next (pairEgressTimeout s p)
/-- DRAIN_CMD. -/
def execDrainCmd (via : Iface) (v : Nat) (s : State) : Host.Outcome State Fault Refusal := .next (written s via 0x7005 0 (drainCmd s v))
/-- DIGEST_VERDICT. -/
def execDigestVerdict (via : Iface) (v : Nat) (s : State) : Host.Outcome State Fault Refusal := .next (written s via 0x7009 0 (digestVerdict s v))
/-- EVLOG_ACKED. -/
def execEvlogAcked (via : Iface) (v : Nat) (s : State) : Host.Outcome State Fault Refusal := .next (written s via 0x7021 0 (evlogAcked s v))
/-- CONT_ACKED. -/
def execContAcked (via : Iface) (v : Nat) (s : State) : Host.Outcome State Fault Refusal := .next (written s via 0x7031 0 (contAcked s v))
end Sys2Proof.Machine
end

