-- ==== Sys2Proof/Machine/Values.lean ====
section
/-! DEFINITION. Machine/Values.lean: the values that objects accept, alone and together with others (R472, R476, and the object tables of the
chapters), the idle state of the blocks (R475), and the effect of a value that applies. -/

namespace Sys2Proof.Machine

/-! Blocks. -/

/-- The block that an object with the idle apply point configures (R476): values of one block apply together. The partitions and CHECK_MODE
are one, since R35 joins them. -/
def blockOf (ix sub : Nat) : Nat :=
  if ix = 0x7001 ∨ (0x4000 ≤ ix ∧ ix < 0x4800 ∧ ix % 0x100 = 1) then 0x7001 * 256
  else if 0x3100 ≤ ix ∧ ix < 0x3200 then 0x100 + (ix - 0x3100) / 0x20
  else if 0x4000 ≤ ix ∧ ix < 0x4800 then 0x100 + (clusterOfIx ix).val
  else if 0x9100 ≤ ix ∧ ix < 0x9108 then (ix - 0x9100) * 8 + (if sub ≤ 8 then (sub - 1) % 4 else 4)
  else if ix = 0x6010 ∨ ix = 0x6011 ∨ ix = 0x8030 then ix * 256 + sub
  else ix * 256

/-! Values alone (R472). -/

/-- The exponent of DEFAULT_SCALE says a positive normal number (R98). -/
def scaleOk (v : Nat) : Bool := decide (0x00800000 ≤ v) && decide (v < 0x7F800000)
/-- A value that an object of the module accepts, on its own. -/
def moduleOk (ix sub v : Nat) : Bool :=
  match ix with
  | 0x1102 => decide (v < 32768)
  | 0x1103 => decide (v ≤ 1)
  | 0x1200 => decide (1 ≤ v) && decide (v ≤ 31)
  | 0x1201 => decide (10 ≤ v) && decide (v ≤ 2550) && v % 10 == 0
  | 0x1203 => decide (1 ≤ v) && decide (v ≤ 1000)
  | 0x1204 => decide (10 ≤ v) && decide (v ≤ 10000)
  | 0x1304 => decide (60 ≤ v) && decide (v ≤ 86400)
  | 0x2004 => decide (100 ≤ v) && decide (v ≤ 100000)
  | 0x2020 => decide (2500 ≤ v) && decide (v ≤ 4400)
  | 0x2022 => decide (600 ≤ v) && decide (v ≤ 1800) && v % 25 == 0
  | 0x2043 => decide (85 ≤ v) && decide (v ≤ 105)
  | 0x2045 => decide (20 ≤ v) && decide (v ≤ 60)
  | 0x3031 => decide (1 ≤ v)
  | 0x5001 => decide (1 ≤ v) && decide (v ≤ 15)
  | 0x5002 => decide (10 ≤ v) && decide (v ≤ 1000000)
  | 0x5003 => decide (1 ≤ v)
  | 0x5004 => decide (49 ≤ v)
  | 0x5009 => decide (50 ≤ v) && decide (v ≤ 10000)
  | 0x5020 => v % 0x10000 == 0 && inHbm v 0x10000
  | 0x5021 => decide (1 ≤ v) && decide (v ≤ 60000)
  | 0x5022 => decide (1 ≤ v) && decide (v ≤ 60000)
  | 0x6005 => decide (v ≤ 4094)
  | 0x6010 => bits v 9 6 == 0 && decide (v < 0x10000)
  | 0x6020 => decide (1 ≤ v)
  | 0x6041 => decide (v ≤ 2)
  | 0x7001 => decide (v ≤ 2)
  | 0x7008 => decide (v ≤ 15)
  | 0x7011 => decide (3600 ≤ v) && decide (v ≤ 31536000)
  | 0x8032 => decide (v ≤ 1)
  | 0x8041 => v % 4096 == 0
  | 0x8054 => v % 64 == 0
  | 0x9015 => decide (v ≤ 60000)
  | 0x9016 => decide (v ≤ 3000)
  | 0xA002 => decide (2 ≤ v)
  | 0xA021 => decide (200 ≤ v) && decide (v ≤ 10000)
  | _ =>
    if 0x5010 ≤ ix ∧ ix < 0x5016 ∧ sub = 5 then (List.range 8).all (fun l => bits v (64 * l + 40) 24 == 0) else true
/-- A value that an object of a cluster accepts: the low byte of the index names the object (R68, R98, R169). -/
def clusterOk (i v : Nat) : Bool :=
  match i with
  | 0x01 => decide (v ≤ 7)
  | 0x13 => scaleOk v
  | 0x14 => decide (v < 8) && v % 4 != 3
  | 0x33 => decide (v ≤ 1)
  | _ => true
/-- A value that an object of a reel accepts (R141). -/
def reelOk (sub v : Nat) : Bool :=
  match sub with
  | 1 => v % 64 == 0
  | 2 => v % 64 == 0 && decide (64 ≤ v) && decide (v ≤ 0x1000000)
  | 3 => decide (3 ≤ v) && decide (v ≤ 256)
  | 4 => decide (v ≤ 4)
  | _ => true
/-- A value that an object of a group accepts (R416). A launch clapper is a clapper number (R294). -/
def groupOk (sub v : Nat) : Bool :=
  match sub with
  | 2 => decide (v ≤ 7)
  | 5 => decide (v < 16384)
  | 7 => v % 64 == 0
  | 8 => isPow2 v && decide (v ≤ 256)
  | _ => true
/-- A value that an attribute of a queue pair accepts (R443); DSCP has 6 bits. -/
def qpOk (sub v : Nat) : Bool :=
  match sub with
  | 3 => decide (v ≤ 7)
  | 4 => decide (v < 2 ^ 24)
  | 7 => decide (v < 64)
  | 9 => v == 1024 || v == 2048 || v == 4096
  | 10 => decide (v < 2 ^ 24)
  | 11 => decide (1 ≤ v) && decide (v ≤ 31)
  | 12 => decide (v ≤ 7)
  | 13 => decide (v ≤ 7)
  | _ => true
/-- A value that a queue object accepts (R536). -/
def queueOk (sub v : Nat) : Bool :=
  if sub ≤ 4 ∨ sub = 9 then v % 64 == 0
  else if sub ≤ 8 then isPow2 v && decide (2 ≤ v) && decide (v ≤ 4096)
  else if sub = 10 then isPow2 v && decide (16 ≤ v) && decide (v ≤ 16384)
  else true
/-- A value that a field of a region accepts (R577): BASE and LIMIT are multiples of 64, PERM has six bits. -/
def regionFieldOk (sub v : Nat) : Bool := if sub ≤ 2 then v % 64 == 0 else if sub = 4 then decide (v < 64) else true
/-- A value is in the object's range (RANGE otherwise). -/
def valueOk (r : ObjRow) (ix sub v : Nat) : Bool :=
  (r.ty != .bool || decide (v ≤ 1)) &&
    (if 0x3100 ≤ ix ∧ ix < 0x3200 then reelOk sub v
     else if 0x4000 ≤ ix ∧ ix < 0x4800 then clusterOk (ix % 0x100) v
     else if 0x5100 ≤ ix ∧ ix < 0x5200 then groupOk sub v
     else if 0x6100 ≤ ix ∧ ix < 0x6500 then qpOk sub v
     else if 0x8100 ≤ ix ∧ ix < 0x8180 then regionFieldOk sub v
     else if 0x9100 ≤ ix ∧ ix < 0x9108 then queueOk sub v
     else moduleOk ix sub v)
/-- The member list that bytes spell (R416). -/
def memberList (b : List Byte) : List Nat := (List.range (b.length / 2)).map (fun i => eF b (2 * i) 2)
/-- The magnitudes of a lane's coefficients in FAB_EQ_PRESET (R384). -/
def eqSum (b : List Byte) (lane : Nat) : Nat := ((List.range 4).map (fun i => (sext 8 (eF b (8 * lane + i) 1)).natAbs)).foldl (· + ·) 0
/-- The lengths that an object accepts (R472): GRP_MEMBERS takes 2 to 65,536 bytes, every other object one length. -/
def lengthOk (r : ObjRow) (ix sub : Nat) (b : List Byte) : Bool :=
  if 0x5100 ≤ ix ∧ ix < 0x5200 ∧ sub = 3 then decide (2 ≤ b.length) && decide (b.length ≤ 65536)
  else b.length == r.ty.size
/-- The check of a value on its own: its abort code. Member lists, equalization presets and pools are inconsistent in themselves when they list
this module never or a module twice (R386), sum to more than 64 (R384), or are neither aligned nor all zero (R442). -/
def aloneCheck (s : State) (r : ObjRow) (ix sub : Nat) (b : List Byte) : Nat :=
  if !lengthOk r ix sub b then aLength
  else if 0x5100 ≤ ix ∧ ix < 0x5200 ∧ sub = 3 then
    let l := memberList b
    if b.length % 2 = 1 ∨ l.any (fun m => !validModule s m) then aRange
    else if !l.contains (modNum s) || l.eraseDups.length != l.length then aInconsistent
    else aOk
  else if !valueOk r ix sub (ofLE b) then aRange
  else if 0x5010 ≤ ix ∧ ix < 0x5016 ∧ sub = 5 ∧ (List.range 8).any (fun l => decide (64 < eqSum b l)) = true then aInconsistent
  else if ix = 0x6011 then
    let a := (List.range 4).map (fun i => eF b (8 * i) 8)
    if a.all (fun x => x % 64 == 0) then aOk else aInconsistent
  else aOk

/-! Values together (R476). -/

/-- The range of region r lies in the HBM, in one scratchpad, or in the clapper range (R577); a range with LIMIT not above BASE covers nothing. -/
def regionPlaced (s : State) (r : Nat) : Bool :=
  let a := oget s (0x8100 + r) 1
  let l := oget s (0x8100 + r) 2
  decide (l ≤ a) || inMem a (l - a) || (decide (clapBase ≤ a) && decide (l ≤ clapBase + 0x100000))
/-- Region r overlaps a region of another nonzero key (R577). -/
def regionClash (s : State) (r : Nat) : Bool :=
  let key (i : Nat) : Nat := oget s (0x8100 + i) 3
  let lo (i : Nat) : Nat := oget s (0x8100 + i) 1
  let hi (i : Nat) : Nat := oget s (0x8100 + i) 2
  decide (key r ≠ 0) && (List.range 128).any (fun i =>
    key i != 0 && key i != key r && decide (lo r < hi r) && decide (lo i < hi i) && decide (lo i < hi r) && decide (lo r < hi i))
/-- The check of an object's value, now in effect in s, together with other objects. -/
def jointCheck (s : State) (ix sub : Nat) : Nat :=
  if 0x3100 ≤ ix ∧ ix < 0x3200 then
    (if oget s ix 1 + oget s ix 3 * oget s ix 2 ≤ spSize then aOk else aRange)
  else if 0x5100 ≤ ix ∧ ix < 0x5200 then
    (if oget s ix 1 = 1 ∧ (16382 < oget s ix 6 ∨ membersOf s (ix - 0x5100) = [] ∨ unnumbered s = true) then aInconsistent else aOk)
  else if ix = 0x6010 then
    (let v := oget s ix sub
     if rlConsumer s (toFin8 (bits v 5 3)) (bits v 0 5) ≠ 4 then aInconsistent else aOk)
  else if ix = 0x8030 then
    (if oget s ix sub ≠ 0 ∧ (List.range 8).any (fun p => p + 1 != sub && oget s ix (p + 1) == oget s ix sub) = true then aInconsistent else aOk)
  else if 0x8100 ≤ ix ∧ ix < 0x8180 then
    (if !regionPlaced s (ix - 0x8100) then aRange else if regionClash s (ix - 0x8100) then aInconsistent else aOk)
  else if ix = 0x7001 ∨ (0x4000 ≤ ix ∧ ix < 0x4800 ∧ ix % 0x100 = 1) then
    (if checkMode s = 2 ∧ pairsWhole (fun c => cget s c 0x4001 0) = false then aInconsistent else aOk)
  else aOk

/-! A value takes effect. -/

/-- The value of an object in place, without what follows from it: range registers, member lists, every other object. -/
def putValue (s : State) (ix sub : Nat) (b : List Byte) : State :=
  if 0x4000 ≤ ix ∧ ix < 0x4800 ∧ ix % 0x100 = 0x14 then
    modC s (clusterOfIx ix) (fun k => { k with rr := vmod k.rr (toRr (sub - 1)) (fun r =>
      { r with valid := bit (ofLE b) 2, gran := ofLE b % 4, cold := if bit (ofLE b) 2 then r.cold else true }) })
  else if 0x4000 ≤ ix ∧ ix < 0x4800 ∧ ix % 0x100 = 0x15 then
    modC s (clusterOfIx ix) (fun k => { k with rr := vmod k.rr (toRr (sub - 1)) (fun r =>
      { r with amax := (List.range 512).foldl (fun m e => mset 0 m e (eF b (4 * e) 4)) [] }) })
  else if 0x5100 ≤ ix ∧ ix < 0x5200 ∧ sub = 3 then
    { s with coll := { s.coll with members := mput s.coll.members (ix - 0x5100) (memberList b) } }
  else oset s ix sub (ofLE b)
/-- A reel changed: it is emptied (R600); a group's launch trigger is armed anew (R389), and GRP_SEQ 0 starts the
count of its ring entries anew, as its join clapper does (R405, R410); TIME_ROOT and TC_SOURCE change this module's role (R320), and
TIME_ROOT is logged; CHECK_MODE_CHANGE is logged (R446); limits act at once (R545, R551, R562). -/
def afterValue (s : State) (ix sub old : Nat) : State :=
  if 0x3100 ≤ ix ∧ ix < 0x3200 then if oget s ix sub = old then s else reelEmpty s (toFin8 ((ix - 0x3100) / 0x20)) ((ix - 0x3100) % 0x20)
  else if 0x5100 ≤ ix ∧ ix < 0x5200 ∧ (sub = 1 ∨ sub = 5 ∨ sub = 9) then
    let w : Who := .launch (ix - 0x5100)
    let s1 := { s with waiters := s.waiters.filter (fun x => x.who != w), freed := s.freed.filter (fun x => x != w) }
    if sub = 9 ∧ oget s ix 9 = 0 then modGrp s1 (ix - 0x5100) (fun x => { x with rings := 0 }) else s1
  else if ix = 0x1102 then
    let s1 := timeRole s
    if oget s 0x1102 0 = old then s1 else logEv s1 0xC4 0x0A06 0 (payOf [(16, oget s1 0x1102 0)])
  else if ix = 0x1103 then timeRole s
  else if ix = 0x7001 then
    (if checkMode s = old then s else logEv s 0xC1 0x0609 0 (payOf [(16, old), (17, checkMode s), (20, cutNumber s)]))
  else if ix = 0x2022 then freqUpdate s
  else if ix = 0x2045 then coolantCheck s
  else if ix = 0x2005 then parkWake s
  else s
/-- The value of an object takes effect. -/
def applyValue (s : State) (ix sub : Nat) (b : List Byte) : State := afterValue (putValue s ix sub b) ix sub (oget s ix sub)

/-! Held values apply (R476). -/

/-- The held values in L apply in one step, but for those that fail their joint check, which are dropped one after another. -/
def applyHeld : Nat → State → List Held → State
  | 0, s, _ => s
  | n + 1, s, l =>
    let t := l.foldl (fun s h => putValue s h.ix h.sub h.val) s
    match l.find? (fun h => jointCheck t h.ix h.sub != aOk) with
    | some h => applyHeld n (holdDropped s h (jointCheck t h.ix h.sub)) (l.filter (fun x => !(x.ix == h.ix && x.sub == h.sub)))
    | none =>
      let s1 := { s with dict := { s.dict with held := s.dict.held.filter (fun h => !l.any (fun x => x.ix == h.ix && x.sub == h.sub)) } }
      l.foldl (fun s h => applyValue s h.ix h.sub h.val) s1
/-- The held values of a block whose apply point is reached apply. -/
def blockApply (s : State) (blk : Nat) : State :=
  let l := s.dict.held.filter (fun x => blockOf x.ix x.sub == blk && appliesIdle x.ix x.sub && blockIdle s x.ix x.sub (ofLE x.val))
  applyHeld (l.length + 1) s l
/-- HELD_VALUE_APPLY: held value n and those of its block, once the block is idle. A power request starts once the module is IDLE (R548). -/
def heldApply (s : State) (n : Nat) : State :=
  match s.dict.held[n]? with
  | none => s
  | some h =>
    if h.ix = 0x2002 then
      if oget s 0x2001 0 = 0 then s
      else
        let s1 := { s with dict := { s.dict with held := s.dict.held.filter (fun x => x.ix != 0x2002) } }
        let a := powerRequest s1 h.via (ofLE h.val) true
        if a.1 = aOk then a.2 else holdDropped s h a.1
    else if appliesIdle h.ix h.sub && blockIdle s h.ix h.sub (ofLE h.val) then blockApply s (blockOf h.ix h.sub)
    else s
/-- CHECK_MODE_CHANGE (R446): a committed mode applies once every cluster is IDLE. -/
def checkModeChange (s : State) : State :=
  if s.dict.held.any (fun h => h.ix == 0x7001) && blockIdle s 0x7001 0 0 then blockApply s (blockOf 0x7001 0) else s

/-! The rows. -/

/-- HELD_VALUE_APPLY. -/
def execHeldValueApply (n : Nat) (s : State) : Host.Outcome State Fault Refusal := .next (heldApply s n)
/-- CHECK_MODE_CHANGE. -/
def execCheckModeChange (s : State) : Host.Outcome State Fault Refusal := .next (checkModeChange s)

end Sys2Proof.Machine
end

