-- ==== Sys2Proof/Machine/QpCmd.lean ====
section
/-! DEFINITION. Machine/QpCmd.lean: the commands of a queue pair (R420, R443). -/

namespace Sys2Proof.Machine

/-! Commands (R420). -/

/-- QP_CMD 1: from RESET only; attributes without a destination are inconsistent (log entry 28). -/
def qpArm (s : State) (q : Nat) : Act :=
  if qget s q 1 ≠ 0 ∨ drained s = true then refuse aState s
  else if qget s q 5 = 0 ∨ qget s q 6 = 0 then refuse aInconsistent s
  else (aOk, modQp (qset (qset (qset s q 0x0F (qget s q 0x0A)) q 0x0E 800000) q 1 1) q
    (fun _ => { Qp.idle with una := qget s q 0x0A, tokens := qget s q 9 * 8000, tokensAt := s.now }))
/-- QP_CMD 2: to ERROR. -/
def qpErrorCmd (s : State) (q : Nat) : Act :=
  if qget s q 1 = 0 then refuse aState s else (aOk, activity (qpError s q 5))
/-- QP_CMD 3: from ERROR to RESET, where the attributes that were held apply. A flushed order is never still being read here: a packet reads its bytes
in one step (log entry 31). -/
def qpResetCmd (s : State) (q : Nat) : Act :=
  if qget s q 1 = 1 then refuse aState s
  else if qget s q 1 = 0 then (aOk, s)
  else (aOk, blockApply (qset s q 1 0) (blockOf (0x6100 + q) 1))
/-- A write of QP_CMD (R443). -/
def qpCmd (s : State) (q v : Nat) : Act :=
  match v with
  | 1 => qpArm s q
  | 2 => qpErrorCmd s q
  | 3 => qpResetCmd s q
  | _ => refuse aRange s

/-- QP_ARM. -/
def execQpArm (via : Iface) (q : Nat) (s : State) : Host.Outcome State Fault Refusal :=
  .next (written s via (0x6100 + toQp q) 2 (qpArm s (toQp q)))
/-- QP_ERROR_CMD. -/
def execQpErrorCmd (via : Iface) (q : Nat) (s : State) : Host.Outcome State Fault Refusal :=
  .next (written s via (0x6100 + toQp q) 2 (qpErrorCmd s (toQp q)))
/-- QP_RESET_CMD. -/
def execQpResetCmd (via : Iface) (q : Nat) (s : State) : Host.Outcome State Fault Refusal :=
  .next (written s via (0x6100 + toQp q) 2 (qpResetCmd s (toQp q)))

end Sys2Proof.Machine
end

