-- ==== Sys2Proof/Machine/Cuts.lean ====
section
/-! DEFINITION. Machine/Cuts.lean: cuts (R480-R487): COMMIT with its checks across objects (R29, R35, R150, R321), ROLLBACK, CONFIRM, DISCARD,
the end of a trial, and how a cut comes into effect. -/

namespace Sys2Proof.Machine

/-! The checks of a COMMIT (R482). -/

/-- The value of an ST object in a set of values. -/
def inVals (vals : List (Nat × Nat)) (ix sub : Nat) : Nat := mget (objDefault ix sub) vals (okey ix sub)
/-- A torus dimension is 1 or an even number from 2 to 32 (R29). -/
def torusOk (t : Nat) : Bool := t == 1 || (t % 2 == 0 && decide (2 ≤ t) && decide (t ≤ 32))
/-- R29 on MODULE_NUMBER: no number, or a valid one inside the torus whose board position is BOARD_SLOT. -/
def numberOk (s : State) (vals : List (Nat × Nat)) : Bool :=
  let m := inVals vals 0x1010 0
  m == 0xFFFFFF ||
    (decide (m < 32768) && [0, 1, 2].all (fun d => decide (coord m d < inVals vals 0x1011 (d + 1))) &&
      coord m 0 % 2 + 2 * (coord m 1 % 2) + 4 * (coord m 2 % 2) == oget s 0x1012 1)
/-- The lowest object of each check that a set of staged values fails, in index order: R29, R321, R150, R35. -/
def cutRefusal (s : State) (vals : List (Nat × Nat)) : Option Nat :=
  let part (c : Fin 8) : Nat := inVals vals (cobj c 0x4001) 0
  let badDim (d : Nat) : Bool := !torusOk (inVals vals 0x1011 (d + 1))
  let rootOut (d : Nat) : Bool := decide (inVals vals 0x1011 (d + 1) ≤ coord (inVals vals 0x1102 0) d)
  let rates := ((List.range 5).map (fun i => inVals vals 0x3030 (i + 1))).foldl (· + ·) 0
  let split (k : Nat) : Bool := inVals vals 0x7001 0 == 2 && part (toFin8 (2 * k)) != part (toFin8 (2 * k + 1))
  firstBad ([(!numberOk s vals, okey 0x1010 0)] ++ [0, 1, 2].map (fun d => (badDim d || rootOut d, okey 0x1011 (d + 1))) ++
    [(decide (1024 < rates), okey 0x3030 1)] ++ [0, 1, 2, 3].map (fun k => (split k, okey (cobj (toFin8 (2 * k)) 0x4001) 0)))

/-! A cut comes into effect (R475, R478, R481, R485). -/

/-- The objects of a set of ST values that are not in effect and need no reset, by key. -/
def toApply (s : State) (vals : List (Nat × Nat)) : List Nat :=
  (valsDiff (s.obj.filter (fun x => ((objRow (x.1 / 256) (x.1 % 256)).map (fun r => r.acc)) == some .st)) vals).filter (fun k =>
    match objRow (k / 256) (k % 256) with
    | some r => r.acc == .st && r.app != .reset
    | none => false)
/-- The bytes of an ST value. -/
def stBytes (vals : List (Nat × Nat)) (k : Nat) : List Byte :=
  match objRow (k / 256) (k % 256) with
  | some r => toLE r.ty.size (inVals vals (k / 256) (k % 256))
  | none => []
/-- The held values after a set of ST values replaces those held before. -/
def heldAfter (s : State) (vals : List (Nat × Nat)) (via : Iface) : List Held :=
  s.dict.held.filter (fun h => !h.st) ++ ((toApply s vals).filter (fun k => appliesIdle (k / 256) (k % 256))).map (fun k =>
    { ix := k / 256, sub := k % 256, val := stBytes vals k, via := via, st := true })
/-- The values of a cut take effect in one step: at once, when their block is idle, or at the next reset. -/
def cutApply (s : State) (vals : List (Nat × Nat)) (via : Iface) : State :=
  let now := (toApply s vals).filter (fun k => !appliesIdle (k / 256) (k % 256))
  let held := heldAfter s vals via
  let s1 := { s with dict := { s.dict with held := held, staged := vals } }
  let s2 := now.foldl (fun s k => putValue s (k / 256) (k % 256) (stBytes vals k)) s1
  let s3 := now.foldl (fun s k =>
    if k = okey 0x1103 0 ∧ now.contains (okey 0x1102 0) = true then s else afterValue s (k / 256) (k % 256) (oget s1 (k / 256) (k % 256))) s2
  let l := s3.dict.held.filter (fun x => x.st && blockIdle s3 x.ix x.sub (ofLE x.val))
  applyHeld (l.length + 1) s3 l

/-! Commands (R481-R486). -/

/-- COMMIT (R481, R482). `flash`: the write of the slot fails. -/
def cutCommit (s : State) (via : Iface) (flash : Bool) : Act :=
  let st := ((curCut s).map (fun c => c.state)).getD 0
  let changed := stagedChanges s
  let vals := s.dict.staged
  if st = 1 ∨ st = 3 then refuse aCutTrial s
  else if changed = [] then refuse aNothingStaged s
  else match cutRefusal s vals with
    | some k => (aInconsistent, oset s 0x1309 0 k)
    | none =>
      if 64 < (heldAfter s vals via).length then refuse aBusy s
      else if flash then refuse aFlash s
      else
        let num := oget s 0x1306 0 + 1
        let prev := cutNumber s
        let i := otherSlot s
        let s1 := modFlash (obump (oset s 0x1306 0 num) 0x1308 0 1) (fun f =>
          { f with slots := vset f.slots i (some { num := num, state := 1, booted := false, vals := vals }), cur := some i })
        (aOk, logEv (cutApply s1 vals via) 0xC1 0x0702 0
          (payOf [(16, num), (20, prev), (24, changed.length % 65536), (26, ifaceNo via)]))
/-- ROLLBACK (R485). -/
def cutRollback (s : State) (via : Iface) : Act :=
  match s.flash.cur, prevCut s with
  | some i, some (j, c) =>
    let old := cutNumber s
    if 64 < (heldAfter s c.vals via).length then refuse aBusy s
    else
      let s1 := modFlash (cutState s i (fun c => { c with state := 4 })) (fun f => { f with cur := some j })
      let s2 := { s1 with dict := { s1.dict with trialEnd := none } }
      (aOk, logEv (cutApply s2 c.vals via) 0xC1 0x0703 0 (payOf [(16, c.num), (20, old)]))
  | _, _ => refuse aNoPrevious s
/-- CONFIRM (R484). -/
def cutConfirm (s : State) : Act :=
  match s.flash.cur, curCut s with
  | some i, some c =>
    if c.state ≠ 1 then refuse aNotTrial s
    else
      let s1 := cutState s i (fun c => { c with state := 2 })
      (aOk, logEv { s1 with dict := { s1.dict with trialEnd := none } } 0xC1 0x0704 0 (payOf [(16, c.num)]))
  | _, _ => refuse aNotTrial s
/-- DISCARD (R486). -/
def cutDiscard (s : State) : Act :=
  (aOk, { s with dict := { s.dict with staged := ((curCut s).map (fun c => c.vals)).getD [] } })
/-- A write of CUT_COMMAND (R481, R484-R486). -/
def cutCommand (s : State) (via : Iface) (v : Nat) (flash : Bool) : Act :=
  match v with
  | 1 => cutCommit s via flash
  | 2 => cutRollback s via
  | 3 => cutConfirm s
  | 4 => cutDiscard s
  | _ => refuse aRange s
/-- CUT_TRIAL_EXPIRED (R484): the period ended without a CONFIRM. -/
def cutTrialExpired (s : State) : State :=
  match s.dict.trialEnd, s.flash.cur with
  | some t, some i =>
    if s.now < t then s
    else
      let s1 := cutState s i (fun c => { c with state := 3 })
      logEv { s1 with dict := { s1.dict with trialEnd := none } } 0xC1 0x0705 0 (payOf [(16, cutNumber s)])
  | _, _ => s

/-! The rows. -/

/-- CUT_COMMIT. -/
def execCutCommit (via : Iface) (flash : Bool) (s : State) : Host.Outcome State Fault Refusal := .next (written s via 0x1303 0 (cutCommit s via flash))
/-- CUT_ROLLBACK. -/
def execCutRollback (via : Iface) (s : State) : Host.Outcome State Fault Refusal := .next (written s via 0x1303 0 (cutRollback s via))
/-- CUT_CONFIRM. -/
def execCutConfirm (via : Iface) (s : State) : Host.Outcome State Fault Refusal := .next (written s via 0x1303 0 (cutConfirm s))
/-- CUT_DISCARD. -/
def execCutDiscard (via : Iface) (s : State) : Host.Outcome State Fault Refusal := .next (written s via 0x1303 0 (cutDiscard s))
/-- CUT_TRIAL_EXPIRED. -/
def execCutTrialExpired (s : State) : Host.Outcome State Fault Refusal := .next (cutTrialExpired s)

end Sys2Proof.Machine
end

