-- ==== Sys2Proof/Machine/Dict.lean ====
section
/-! DEFINITION. Machine/Dict.lean: writes of the object dictionary (R473, R475-R479), the dictionary engine, mailboxes (R500, R501), the DAP server
(R488-R495) and the director's proxied accesses (R502). -/

namespace Sys2Proof.Machine

/-! Writes (R473, R479). -/

/-- A flag set written by the host: the bits written as 1 are cleared (R82); bits [7:5] are reserved. -/
def flagsClear (s : State) (ix sub v : Nat) : Act :=
  if 32 ≤ v then refuse aRange s else (aOk, oset s ix sub (oget s ix sub &&& (0xFF - v)))
/-- The objects whose write is an action of its own (R82, R377, R384, R420, R424, R443, R457, R461, R466, R481, R531, R536, R537, R541, R548,
R568-R575). `flash`: a flash write or read fails. -/
def objAction (s : State) (via : Iface) (ix sub : Nat) (nohold : Bool) (b : List Byte) (flash : Bool) : Option Act :=
  let v := ofLE b
  if ix = 0x1303 then some (cutCommand s via v flash)
  else if ix = 0x2002 then some (powerRequest s via v nohold)
  else if ix = 0x2011 then some (clkSrcWrite s (toIsland (sub - 1)) v)
  else if 0x4000 ≤ ix ∧ ix < 0x4800 ∧ ix % 0x100 = 0x10 then some (flagsClear s ix sub v)
  else if ix = 0x5005 then some (routeWrite s via 0 b)
  else if ix = 0x5006 then some (if v ≠ 1 then refuse aRange s else routeDefault s)
  else if 0x5010 ≤ ix ∧ ix < 0x5016 ∧ sub = 4 then some (portCmd s (toPort (ix - 0x5010)) v)
  else if ix = 0x5023 then some (flagsClear s ix sub v)
  else if ix = 0x6012 then some (dlyPost s (sub - 1) b)
  else if 0x6100 ≤ ix ∧ ix < 0x6500 ∧ sub = 2 then some (qpCmd s (ix - 0x6100) v)
  else if ix = 0x7005 then some (drainCmd s v)
  else if ix = 0x7009 then some (digestVerdict s v)
  else if ix = 0x7021 then some (evlogAcked s v)
  else if ix = 0x7031 then some (contAcked s v)
  else if ix = 0x8002 then some (lifecycleCmd s via v)
  else if ix = 0x8006 then some (secToken s via b)
  else if ix = 0x8011 then some (debugRequest s via v)
  else if ix = 0x8012 then some (debugEndCmd s v)
  else if ix = 0x8022 then some (imageCmd s v flash)
  else if ix = 0x8023 then some (imageLoad s b)
  else if ix = 0x8050 then some (dbgCore s (toFin8 (sub - 1)) v)
  else if ix = 0x9014 then some (resetCmd s v)
  else if 0x9100 ≤ ix ∧ ix < 0x9108 ∧ sub = 11 then some (tqEnable s (toFin8 (ix - 0x9100)) v)
  else if ix = 0xA011 then some (crewAcked s v)
  else if ix = 0xA023 then some (directorRelease s v)
  else none
/-- The codes that come before STATE in the order of R479. -/
def beforeState (code : Nat) : Bool :=
  code == aNotPermitted || code == aLocked || code == aToken || code == aLength || code == aRange
/-- A refusal by STATE of an immediate write whose block has no power, unless an earlier condition holds (R479). -/
def gated (s : State) (r : ObjRow) (ix : Nat) (a : Act) : Act :=
  if r.app = .imm ∧ islandOn s (objIsland ix) = false ∧ beforeState a.1 = false then refuse aState s else a
/-- The lengths of an object with an action: DOMAIN objects check their own. -/
def actionLength (r : ObjRow) (ix : Nat) (b : List Byte) : Bool :=
  match r.ty with
  | .domain _ => ix != 0x5005 || b.length == 32768
  | t => b.length == t.size
/-- The value of an ordinary object is written: staged, applied or held (R473, R475-R477). -/
def objStore (s : State) (r : ObjRow) (via : Iface) (ix sub : Nat) (nohold : Bool) (b : List Byte) : Act :=
  let a := aloneCheck s r ix sub b
  if a ≠ aOk then refuse a s
  else if r.acc = .st then
    (aOk, { s with dict := { s.dict with staged := mset (objDefault ix sub) s.dict.staged (okey ix sub) (ofLE b) } })
  else if directorObj ix && !isDirector s then refuse aState s
  else if drained s && decide (0x5100 ≤ ix) && decide (ix < 0x5200) && sub == 1 && ofLE b == 1 then refuse aState s
  else match r.app with
    | .take => holdValue s via ix sub b false nohold
    | .idle =>
      if blockIdle s ix sub (ofLE b) then
        let t := putValue s ix sub b
        let j := jointCheck t ix sub
        if j ≠ aOk then refuse j s
        else (aOk, applyValue { s with dict := { s.dict with held := s.dict.held.filter (fun h => !(h.ix == ix && h.sub == sub)) } } ix sub b)
      else holdValue s via ix sub b false nohold
    | _ => if islandOn s (objIsland ix) then (aOk, applyValue s ix sub b) else refuse aState s
/-- A write through an interface (R473, R479). -/
def objWrite (s : State) (via : Iface) (ix sub flags : Nat) (b : List Byte) (flash : Bool) : Act :=
  if flagsBad flags then refuse aCommand s
  else match objAt ix sub with
    | .noIndex => refuse aNoIndex s
    | .noSub => refuse aNoSub s
    | .const _ _ => if canWrite s via ix sub then refuse aReadOnly s else refuse aNotPermitted s
    | .row r =>
      if !canWrite s via ix sub then refuse aNotPermitted s
      else if r.acc = .const ∨ r.acc = .ro then refuse aReadOnly s
      else
        let a := match objAction s via ix sub (bit flags 2) b flash with
          | some a => if a.1 == aNotPermitted || a.1 == aLocked then refuse a.1 s else if !actionLength r ix b then refuse aLength s else gated s r ix a
          | none => objStore s r via ix sub (bit flags 2) b
        if bootState s = 11 ∧ failedServes ix = false ∧ beforeState a.1 = false then refuse aState s else a

/-! DAP frames (R490-R492). -/

/-- A frame padded with zero bytes to the next length of CAN FD (R491). -/
def canPad (b : List Byte) : List Byte :=
  let n := (([8, 12, 16, 20, 24, 32, 48, 64] : List Nat).find? (fun k => decide (b.length ≤ k))).getD b.length
  b ++ zeros (n - b.length)
/-- A RESPONSE frame of this module. -/
def dapOut (s : State) (b : List Byte) : State := sendCan s (0x200 + myNode s) (canPad b)
/-- A response (R491): the command that it answers, the transaction, STATUS, LENGTH or the abort code, and the value. -/
def dapReply (s : State) (t : DapTx) (cmd status len : Nat) (data : List Byte) : State :=
  dapOut s (toLE 1 cmd ++ toLE 1 t.client ++ toLE 1 t.tid ++ toLE 1 status ++ toLE 2 t.ix ++ toLE 1 t.sub ++ toLE 1 t.node ++ toLE 4 len ++ data)
/-- A response with an abort code, counted in DAP_COUNTERS. -/
def dapAbortReply (s : State) (t : DapTx) (cmd code : Nat) : State := obump (dapReply s t cmd 1 code []) 0x1205 6 1
/-- The transaction of a client. -/
def txOf (s : State) (client tid : Nat) : Option DapTx := s.dict.txs.find? (fun t => t.client == client && t.tid == tid)
/-- The state with f applied to the transaction of a client. -/
def modTx (s : State) (client tid : Nat) (f : DapTx → DapTx) : State :=
  modDict s (fun d => { d with txs := mapIf (fun t => t.client == client && t.tid == tid) f d.txs })
/-- A transaction is over: it, its access and its proxied access are gone. -/
def dropTx (s : State) (client tid : Nat) : State :=
  modDict s (fun d => { d with
    txs := d.txs.filter (fun t => !(t.client == client && t.tid == tid)),
    queue := d.queue.filter (fun q => q.src != .dap client tid),
    proxies := d.proxies.filter (fun x => x.req.src != .dap client tid) })
/-- A valid client (R489): a client of the buyer, or the director. -/
def validClient (n : Nat) : Bool := n == 0 || (decide (32 ≤ n) && decide (n ≤ 62))
/-- A REQUEST frame reaches this module, addressed to node n; it is counted (R490). -/
def dapHears (s : State) (n : Nat) : Bool := dapUp s && n == myNode s
/-- The fields of a request frame as a transaction. -/
def txOfFrame (s : State) (f : List Byte) : DapTx :=
  { client := eF f 1 1, tid := eF f 2 1, cmd := eF f 0 1, ix := eF f 4 2, sub := eF f 6 1, flags := eF f 3 1, node := eF f 7 1, size := eF f 8 4,
    data := [], next := 0, block := 0, same := 0, phase := 0, at_ := s.now, since := s.now }
/-- A request is malformed (R492): too short for its command, a reserved bit of FLAGS, or a VIA above 31. -/
def reqBad (f : List Byte) : Bool :=
  decide (f.length < 12) || decide (8 ≤ eF f 3 1) || decide (32 ≤ eF f 7 1) ||
    (eF f 0 1 == 2 && decide (eF f 8 4 ≤ 52) && decide (f.length < 12 + eF f 8 4))
/-- The answer to a malformed frame (R492): COMMAND to a valid client, nothing to another. -/
def dapMalformed (s : State) (f : List Byte) : State :=
  if 3 ≤ f.length ∧ validClient (eF f 1 1) = true then dapAbortReply s (txOfFrame s f) (eF f 0 1) aCommand else s
/-- An access of a transaction goes to the dictionary engine (R478). -/
def txSubmit (s : State) (t : DapTx) (write : Bool) (data : List Byte) : State :=
  modDict s (fun d => { d with queue := d.queue ++
    [{ src := .dap t.client t.tid, write := write, ix := t.ix, sub := t.sub, flags := t.flags, node := t.node, data := data }] })
/-- A request frame starts a transaction (R495): one with its CLIENT and TID is cancelled first, and a fifth of a client is refused. -/
def dapStart (s : State) (n cmd : Nat) (f : List Byte) (go : State → DapTx → State) : State :=
  if !dapHears s n || eF f 0 1 != cmd then s
  else
    let s0 := obump s 0x1205 2 1
    if reqBad f || !validClient (eF f 1 1) then dapMalformed s0 f
    else
      let t := txOfFrame s0 f
      let s1 := dropTx s0 t.client t.tid
      if 4 ≤ (s1.dict.txs.filter (fun x => x.client == t.client)).length then dapAbortReply s1 t cmd aTooMany
      else go (modDict s1 (fun d => { d with txs := d.txs ++ [t] })) t
/-- DAP_READ (R493). -/
def dapRead (s : State) (n : Nat) (f : List Byte) : State := dapStart s n 1 f (fun s t => txSubmit s t false [])
/-- DAP_WRITE (R493): at most 52 bytes. -/
def dapWrite (s : State) (n : Nat) (f : List Byte) : State :=
  dapStart s n 2 f (fun s t => if 52 < t.size then dapAbortReply (dropTx s t.client t.tid) t 2 aLength else txSubmit s t true (slice f 12 t.size))
/-- SEG_READ (R494). -/
def segRead (s : State) (n : Nat) (f : List Byte) : State := dapStart s n 3 f (fun s t => txSubmit s t false [])
/-- SEG_WRITE (R494): answered with STATUS 0, and the segments may come. -/
def segWrite (s : State) (n : Nat) (f : List Byte) : State :=
  dapStart s n 4 f (fun s t =>
    if 65536 < t.size then dapAbortReply (dropTx s t.client t.tid) t 4 aLength
    else dapReply (modTx s t.client t.tid (fun x => { x with phase := 1 })) t 4 0 0 [])

/-! Segmented transfers (R494). -/

/-- The segments of a value. -/
def segCount (size : Nat) : Nat := cdiv size 60
/-- The first four bytes of a segment or acknowledgement. -/
def segHead (t : DapTx) (cmd k : Nat) : List Byte := toLE 1 cmd ++ toLE 1 t.client ++ toLE 1 t.tid ++ toLE 1 (k % 256)
/-- A block of up to 16 segments from segment k goes out. -/
def sendBlock (s : State) (t : DapTx) (k : Nat) : State :=
  ((List.range 16).filter (fun i => decide (k + i < segCount t.size))).foldl (fun s i =>
    dapOut s (segHead t 5 (k + i) ++ slice t.data (60 * (k + i)) 60)) s
/-- BLOCK_ACK counting (R494): how often in a row one number is named. -/
def ackSame (t : DapTx) (k : Nat) : Nat := if k = t.block then t.same + 1 else 1
/-- SEGMENT of a segmented write: the next one in sequence is kept, others are discarded; a block's last brings a BLOCK_ACK. -/
def segmentIn (s : State) (n : Nat) (f : List Byte) : State :=
  if !dapHears s n || eF f 0 1 != 5 then s
  else
    let s0 := obump s 0x1205 2 1
    match txOf s0 (eF f 1 1) (eF f 2 1) with
    | none => s0
    | some t =>
      if t.phase ≠ 1 then s0
      else
        let off := (eF f 3 1 + 256 - t.block % 256) % 256
        let mine := decide (t.block + off = t.next) && decide (t.next < segCount t.size)
        let t1 : DapTx := { t with at_ := s0.now, next := if mine then t.next + 1 else t.next,
                                   data := if mine then t.data ++ slice f 4 (min 60 (t.size - 60 * t.next)) else t.data }
        let ends := off == 15 || t.block + off + 1 == segCount t.size
        if !ends then modTx s0 t.client t.tid (fun _ => t1)
        else
          let same := ackSame t1 t1.next
          if 2 < same then dapAbortReply (dropTx s0 t.client t.tid) t 4 aSequence
          else dapOut (modTx s0 t.client t.tid (fun _ => { t1 with block := t1.next, same := same })) (segHead t1 6 t1.next)
/-- BLOCK_ACK of a segmented read: the next block goes out from the segment that it names, and SEG_END after the last. -/
def blockAck (s : State) (n : Nat) (f : List Byte) : State :=
  if !dapHears s n || eF f 0 1 != 6 then s
  else
    let s0 := obump s 0x1205 2 1
    match txOf s0 (eF f 1 1) (eF f 2 1) with
    | none => s0
    | some t =>
      let off := (eF f 3 1 + 256 - t.block % 256) % 256
      let k := t.block + off
      if t.phase ≠ 2 ∨ 16 < off ∨ segCount t.size < k then s0
      else
        let same := ackSame t k
        if 2 < same then dapAbortReply (dropTx s0 t.client t.tid) t 3 aSequence
        else if k = segCount t.size then dapOut (dropTx s0 t.client t.tid) (segHead t 7 0 ++ toLE 4 (crc32c t.data))
        else sendBlock (modTx s0 t.client t.tid (fun x => { x with block := k, next := k, same := same, at_ := s0.now })) t k
/-- SEG_END of a segmented write: the access is performed when the CRC matches. -/
def segEnd (s : State) (n : Nat) (f : List Byte) : State :=
  if !dapHears s n || eF f 0 1 != 7 then s
  else
    let s0 := obump s 0x1205 2 1
    if f.length < 8 then dapMalformed s0 f
    else match txOf s0 (eF f 1 1) (eF f 2 1) with
      | none => s0
      | some t =>
        if t.phase ≠ 1 then s0
        else if t.data.length ≠ t.size ∨ eF f 4 4 ≠ crc32c t.data then dapAbortReply (dropTx s0 t.client t.tid) t 7 aCrc
        else txSubmit (modTx s0 t.client t.tid (fun x => { x with phase := 0, at_ := s0.now, since := s0.now })) t true t.data
/-- DAP_ABORT (R492): the client cancels its transaction. -/
def dapAbort (s : State) (n : Nat) (f : List Byte) : State :=
  if !dapHears s n || eF f 0 1 != 0x7F then s
  else
    let s0 := obump s 0x1205 2 1
    if f.length < 12 then dapMalformed s0 f
    else match txOf s0 (eF f 1 1) (eF f 2 1) with
      | none => s0
      | some t => obump (dropTx s0 t.client t.tid) 0x1205 6 1
/-- DAP_UNKNOWN_COMMAND (R492): a command that no row names, or a malformed request. -/
def dapUnknown (s : State) (n : Nat) (f : List Byte) : State :=
  if !dapHears s n then s
  else
    let known := ([1, 2, 3, 4, 5, 6, 7, 0x7F] : List Nat).contains (eF f 0 1)
    let bad := if eF f 0 1 ≤ 4 then reqBad f else decide (f.length < 4)
    if known && !bad then s else dapMalformed (obump s 0x1205 2 1) f
/-- DAP_PENDING_RESPONSE (R493): every 20 ms an access that is not answered draws a response with STATUS 2, which restarts the wait. -/
def dapPending (s : State) (n : Nat) : State :=
  match s.dict.txs[n]? with
  | none => s
  | some t =>
    if t.phase ≠ 0 ∨ dapUp s = false ∨ s.now < t.since + 20000000 then s
    else dapReply (modTx s t.client t.tid (fun x => { x with since := s.now, at_ := s.now })) t t.cmd 2 0 []
/-- DAP_TRANSACTION_TIMEOUT (R495): no frame of a segmented transfer arrived within DAP_RESPONSE_TIMEOUT. -/
def dapTimeout (s : State) (n : Nat) : State :=
  match s.dict.txs[n]? with
  | none => s
  | some t =>
    if t.phase = 0 ∨ s.now < t.at_ + oget s 0x1204 0 * 1000000 then s
    else dapAbortReply (dropTx s t.client t.tid) t t.cmd aTimeout

/-! The outcome of an access (R478, R493, R501). -/

/-- A transaction gets its outcome. -/
def txDone (s : State) (client tid code : Nat) (data : List Byte) : State :=
  match txOf s client tid with
  | none => s
  | some t =>
    let cmd := if t.cmd = 4 then 7 else t.cmd
    if code ≠ aOk then dapAbortReply (dropTx s client tid) t cmd code
    else if t.cmd = 3 then
      let t1 := { t with phase := 2, size := data.length, data := data, at_ := s.now, next := 0, block := 0, same := 0 }
      sendBlock (dapReply (modTx s client tid (fun _ => t1)) t 3 0 data.length []) t1 0
    else if t.cmd = 1 ∧ 52 < data.length then dapAbortReply (dropTx s client tid) t 1 aLength
    else dapReply (dropTx s client tid) t cmd 0 (if t.cmd = 1 then data.length else 0) (if t.cmd = 1 then data else [])
/-- The outcome goes where the access came from. -/
def accessDone (s : State) (src : DictSrc) (code : Nat) (data : List Byte) : State :=
  match src with
  | .mailbox m => mboxDone s m code data
  | .dap c t => txDone s c t code data
/-- A proxied access waits for its place (R502), or is refused with NO_NODE. -/
def proxyStart (s : State) (q : DictReq) : State :=
  if isDirector s ∧ q.node < 32 ∧ bit (oget s 0xA000 0) q.node = true then
    modDict s (fun d => { d with proxies := d.proxies ++ [{ req := q, sent := false, at_ := s.now }] })
  else accessDone s q.src aNoNode []
/-- The dictionary engine serves accesses while the management island runs: DAP from S2 on, PCIe from the end of S3, and in FAILED (R524, R567). -/
def engineOn (s : State) : Bool := islandOn s 22
/-- DICT_ACCESS_COMPLETE (R478): the engine performs the access at the head of its queue and posts the outcome. -/
def dictAccess (s : State) (flash : Bool) : State :=
  match s.dict.queue with
  | [] => s
  | q :: rest =>
    if !engineOn s then s
    else
      let s1 := modDict s (fun d => { d with queue := rest })
      if 32 ≤ q.node then accessDone s1 q.src aCommand []
      else if flagsBad q.flags then accessDone s1 q.src aCommand []
      else if q.node ≠ 0 then proxyStart s1 q
      else if q.write then
        let a := objWrite s1 (srcIface q.src) q.ix q.sub q.flags q.data flash
        accessDone a.2 q.src a.1 []
      else
        let r := objRead s1 (srcIface q.src) q.ix q.sub q.flags
        accessDone s1 q.src r.1 r.2

/-! Mailboxes (R500, R501). -/

/-- A mailbox is served: 64 is the JTAG mailbox, reached whenever the management island runs; the others lie behind PCIe. -/
def mboxServed (s : State) (m : Nat) : Bool := if m = 64 then islandOn s 22 else decide (m < 64) && pcieUp s && hostServed s
/-- OP 1 (READ) or 2 (WRITE) is written to byte [0] of mailbox m, whose header and buffer were written before. -/
def mboxOp (s : State) (m : Nat) (write : Bool) : State :=
  let x := mboxGet s m
  if x.status = 1 then obump s 0x1210 0 1
  else
    let data := if write then (List.range (min x.length 65537)).map (fun i => mget 0#8 x.data i) else []
    let s1 := modMbox s m (fun x => { x with status := 1 })
    modDict s1 (fun d => { d with queue := d.queue ++
      [{ src := .mailbox m, write := write, ix := x.index, sub := x.sub, flags := x.flags, node := x.node, data := data }] })
/-- A mailbox OP through the window. -/
def mailboxOp (s : State) (m : Nat) (write : Bool) : State := if mboxServed s m then mboxOp s m write else s

/-! The director's proxied accesses (R502). -/

/-- A place for one more access to a crew node is free: 4 per node and 16 in all. -/
def proxyFree (s : State) (node : Nat) : Bool :=
  decide ((s.dict.proxies.filter (fun x => x.sent)).length < 16) &&
    decide ((s.dict.proxies.filter (fun x => x.sent && x.req.node == node)).length < 4)
/-- The request that the director sends to a crew node as client 0, expedited or segmented as the size requires; its TID is its own choice (log
entry 5). The segments of a long value are not shown (log entry 41). -/
def proxyRequest (s : State) (q : DictReq) : State :=
  let d := draw s
  let long := decide (52 < q.data.length) || (!q.write && (match objAt q.ix q.sub with
    | .row r => decide (52 < r.ty.size)
    | _ => false))
  let cmd := (if q.write then 2 else 1) + (if long then 2 else 0)
  let f := toLE 1 cmd ++ toLE 1 0 ++ toLE 1 (d.1 % 256) ++ toLE 1 q.flags ++ toLE 2 q.ix ++ toLE 1 q.sub ++ toLE 1 0 ++
    toLE 4 q.data.length ++ (if long then [] else q.data)
  sendCan d.2 (0x300 + q.node) (canPad f)
/-- PROXY_ACCESS n: access n gets a place and its request is sent, or waits in vain (BUSY); with its request out, the crew's value or abort code is
returned unchanged, or no answer came in time (TIMEOUT). -/
def proxyAccess (s : State) (n : Nat) (resp : Option (Nat × List Byte)) : State :=
  match s.dict.proxies[n]? with
  | none => s
  | some x =>
    let late := decide (x.at_ + oget s 0x1204 0 * 1000000 ≤ s.now)
    let gone := modDict s (fun d => { d with proxies := dropAt d.proxies n })
    if !isDirector s then s
    else if !x.sent then
      if proxyFree s x.req.node then
        proxyRequest (modDict s (fun d => { d with proxies := d.proxies.take n ++ [{ x with sent := true, at_ := s.now }] ++ d.proxies.drop (n + 1) })) x.req
      else if late then accessDone gone x.req.src aBusy [] else s
    else match resp with
      | some (code, data) => accessDone gone x.req.src code (if code = aOk ∧ x.req.write = false then data else [])
      | none => if late then accessDone gone x.req.src aTimeout [] else s

/-! The rows. -/

/-- DICT_ACCESS_COMPLETE. -/
def execDictAccessComplete (flash : Bool) (s : State) : Host.Outcome State Fault Refusal := .next (dictAccess s flash)
/-- MAILBOX_READ. -/
def execMailboxRead (m : Nat) (s : State) : Host.Outcome State Fault Refusal := .next (mailboxOp s m false)
/-- MAILBOX_WRITE. -/
def execMailboxWrite (m : Nat) (s : State) : Host.Outcome State Fault Refusal := .next (mailboxOp s m true)
/-- DAP_READ. -/
def execDapRead (n : Nat) (f : List Byte) (s : State) : Host.Outcome State Fault Refusal := .next (dapRead s n f)
/-- DAP_WRITE. -/
def execDapWrite (n : Nat) (f : List Byte) (s : State) : Host.Outcome State Fault Refusal := .next (dapWrite s n f)
/-- SEG_READ. -/
def execSegRead (n : Nat) (f : List Byte) (s : State) : Host.Outcome State Fault Refusal := .next (segRead s n f)
/-- SEG_WRITE. -/
def execSegWrite (n : Nat) (f : List Byte) (s : State) : Host.Outcome State Fault Refusal := .next (segWrite s n f)
/-- SEGMENT. -/
def execSegment (n : Nat) (f : List Byte) (s : State) : Host.Outcome State Fault Refusal := .next (segmentIn s n f)
/-- BLOCK_ACK. -/
def execBlockAck (n : Nat) (f : List Byte) (s : State) : Host.Outcome State Fault Refusal := .next (blockAck s n f)
/-- SEG_END. -/
def execSegEnd (n : Nat) (f : List Byte) (s : State) : Host.Outcome State Fault Refusal := .next (segEnd s n f)
/-- DAP_ABORT. -/
def execDapAbort (n : Nat) (f : List Byte) (s : State) : Host.Outcome State Fault Refusal := .next (dapAbort s n f)
/-- DAP_UNKNOWN_COMMAND. -/
def execDapUnknownCommand (n : Nat) (f : List Byte) (s : State) : Host.Outcome State Fault Refusal := .next (dapUnknown s n f)
/-- DAP_PENDING_RESPONSE. -/
def execDapPendingResponse (n : Nat) (s : State) : Host.Outcome State Fault Refusal := .next (dapPending s n)
/-- DAP_TRANSACTION_TIMEOUT. -/
def execDapTransactionTimeout (n : Nat) (s : State) : Host.Outcome State Fault Refusal := .next (dapTimeout s n)
/-- PROXY_ACCESS. -/
def execProxyAccess (n : Nat) (resp : Option (Nat × List Byte)) (s : State) : Host.Outcome State Fault Refusal := .next (proxyAccess s n resp)

end Sys2Proof.Machine
end

