-- ==== Sys2Proof/Machine/HostPort.lean ====
section
/-! DEFINITION. Machine/HostPort.lean: host memory accesses (R510, R511, R520), the bytes of a mailbox (R500, R501), and the JTAG port (R579,
R580). -/

namespace Sys2Proof.Machine

/-! The bytes of a mailbox (R500, R501). -/

/-- The header of a mailbox as it reads. -/
def mboxHeader (x : Mailbox) : List Byte :=
  zeros 4 ++ toLE 1 x.status ++ zeros 1 ++ toLE 2 x.index ++ zeros 1 ++ toLE 1 x.sub ++ toLE 1 x.flags ++ toLE 1 x.node ++ zeros 8 ++
    toLE 4 x.length ++ toLE 4 x.resultLen ++ toLE 4 x.abort ++ zeros 32
/-- The bytes [a, a + n) lie in the header or in the data buffer of a mailbox. -/
def mboxPlace (a n : Nat) : Bool := decide (a + n ≤ 64) || (decide (0x1000 ≤ a) && decide (a + n ≤ 0x11000))
/-- A read of mailbox m. -/
def mboxRead (s : State) (m a n : Nat) : List Byte :=
  if a < 64 then slice (mboxHeader (mboxGet s m)) a n else (List.range n).map (fun i => mget 0#8 (mboxGet s m).data (a - 0x1000 + i))
/-- A header field with some of its bytes written: the field lies at byte `at_`, n bytes long. -/
def fieldPut (old at_ n a : Nat) (l : List Byte) : Nat :=
  ofLE ((List.range n).map (fun i => if a ≤ at_ + i ∧ at_ + i < a + l.length then (l[at_ + i - a]?).getD 0#8 else ((toLE n old)[i]?).getD 0#8))
/-- Bytes written into the header: the writable fields take them. -/
def headerPut (x : Mailbox) (a : Nat) (l : List Byte) : Mailbox :=
  { x with index := fieldPut x.index 6 2 a l, sub := fieldPut x.sub 9 1 a l, flags := fieldPut x.flags 10 1 a l,
           node := fieldPut x.node 11 1 a l, length := fieldPut x.length 20 4 a l }
/-- Bytes written into mailbox m: discarded and counted while it is busy; byte [0] starts the command of its value, and an unknown one ends with
COMMAND (R501, R505). -/
def mboxWrite (s : State) (m a : Nat) (l : List Byte) : State :=
  if (mboxGet s m).status = 1 then obump s 0x1210 0 1
  else if a < 64 then
    let s1 := modMbox s m (fun x => headerPut x a l)
    if a ≠ 0 then s1
    else match eF l 0 1 with
      | 0 => s1
      | 1 => mboxOp s1 m false
      | 2 => mboxOp s1 m true
      | _ => mboxDone s1 m aCommand []
  else modMbox s m (fun x => { x with data := bufPut x.data (a - 0x1000) l })

/-! Places in the BARs (R510). -/

/-- What a BAR offset of function p reaches: a register of BAR0, the MSI-X table or pending bits, memory at a local address, a clapper and
the offset in its block, a mailbox and the offset in it, or nothing. -/
inductive HostPlace where
  | reg (off : Nat) | msixTab (off : Nat) | pba | mem (a : Nat) | clap (n off : Nat) | mbox (m off : Nat) | none
deriving DecidableEq, Repr
/-- The place of the n bytes at an offset. -/
def hostPlace (p : Fin 8) (bar off n : Nat) : HostPlace :=
  if bar = 0 then
    if off + n ≤ 0x40 ∧ off / 4 ≠ 5 ∧ off / 4 ≠ 9 then .reg off
    else if 0x8000 ≤ off ∧ off + n ≤ 0x8040 then .msixTab (off - 0x8000)
    else if 0x9000 ≤ off ∧ off + n ≤ 0x9008 then .pba
    else .none
  else if bar = 2 then (if off + n ≤ hbmSize then .mem off else .none)
  else if bar = 4 then
    if off + n ≤ 0x40000000 then .mem (0x10000000000 + off)
    else if 0x40000000 ≤ off ∧ off + n ≤ 0x40100000 then .clap ((off - 0x40000000) / 64) ((off - 0x40000000) % 64)
    else if 0x60000000 ≤ off ∧ off < 0x60800000 then
      (let m := (off - 0x60000000) / 0x100000
       let a := (off - 0x60000000) % 0x100000
       if mboxPlace a n then .mbox (8 * p.val + m) a else .none)
    else .none
  else .none
/-- STATUS of BAR0 (R520): READY, DRAINED, EMPTY (the partition has no cluster), TAKE_RUNNING, BOOT_STATE and the power state. -/
def hostStatus (s : State) (p : Fin 8) : Nat :=
  (if bootState s = 9 then 1 else 0) + (if drained s then 2 else 0) + (if (clustersOf s p).isEmpty then 4 else 0) +
    (if s.hf[p].run.isSome then 8 else 0) + bootState s % 16 * 256 + oget s 0x2001 0 % 16 * 4096
/-- A register of BAR0 that reads: its bytes, by its own size alone (R520). -/
def regRead (s : State) (p : Fin 8) (off n : Nat) : Option (List Byte) :=
  if off = 0x20 ∧ n = 4 then some (toLE 4 (hostStatus s p))
  else if off = 0x28 ∧ n = 8 then some (toLE 8 (s.hf[p].lastTake))
  else if 0x30 ≤ off ∧ off % 4 = 0 ∧ n = 4 then some (toLE 4 ((s.hf[p].head.toList[(off - 0x30) / 4]?).getD 0))
  else none
/-- A register of BAR0 that is written, by its own size alone: TQ_TAIL, CQ_HEAD, ABORT. -/
def regWrite (s : State) (p : Fin 8) (off : Nat) (l : List Byte) : Option State :=
  if off < 0x10 ∧ off % 4 = 0 ∧ l.length = 4 then some (tqTail s p ⟨off / 4 % 4, Nat.mod_lt _ (by decide)⟩ (ofLE l))
  else if off = 0x10 ∧ l.length = 4 then some (cqHead s p (ofLE l))
  else if off = 0x18 ∧ l.length = 8 then some (abortTake s p (ofLE l))
  else none
/-- The refusal of a memory access through a BAR with PERM bit b (R511). -/
def hostMemBad (s : State) (p : Fin 8) (a n b : Nat) : Option Nat :=
  firstBad [(!barOpen s, 2), (!protKey s (jobKey s p) a n b, 0)]
/-- A completion with data; one with EP set is counted as a poisoned completion. -/
def complete (s : State) (p : Fin 8) (l : List Byte) (bad : Bool) : State :=
  let s1 := { s with outs := s.outs ++ [Out.cpl p.val l bad] }
  if bad then obump s1 0x9003 4 1 else s1
/-- PCIE_MEM_READ (R511, R520): n bytes at an offset of a BAR of function p; `err` is what a clapper's storage is found to hold. -/
def memRead (s : State) (p : Fin 8) (bar off n : Nat) (err : MemErr) : State :=
  if !pcieUp s || !hostServed s then s
  else match hostPlace p bar off n with
    | .none => hostRefused s p bar 3 off false
    | .reg o => match regRead s p o n with
      | some l => complete s p l false
      | none => hostRefused s p bar 1 off false
    | .msixTab o => complete s p ((List.range n).map (fun i => mget 0#8 s.hf[p].msix (o + i))) false
    | .pba => complete s p (zeros n) false
    | .mem a => match hostMemBad s p a n 4 with
      | some r => hostRefused s p bar r off false
      | none => complete (meshDone s 0xC0 false (outerAddr s a) n) p (rdBytes s (outerAddr s a) n) (anyMesh s 0xC0 (outerAddr s a) n)
    | .clap k o => match firstBad [(!barOpen s, 2), (n != 8 || o % 8 != 0, 1), (!protKey s (jobKey s p) (clapAddr k) 64 4, 0)] with
      | some r => hostRefused s p bar r off false
      | none =>
        let x := homeRead s k err
        complete x.2 p (toLE 8 ((x.1.getD 0).toNat)) x.1.isNone
    | .mbox m a => complete s p (mboxRead s m a n) false
/-- A poisoned posted write to a register or a mailbox is not performed (log entry 42). -/
def poisonedDrop (s : State) : State := obump (obump s 0x9003 3 1) 0x9003 7 1
/-- PCIE_MEM_WRITE (R511, R520): a posted write; `ep`: received with EP set. -/
def memWrite (s : State) (p : Fin 8) (bar off : Nat) (l : List Byte) (ep : Bool) (err : MemErr) : State :=
  if !pcieUp s || !hostServed s then s
  else match hostPlace p bar off l.length with
    | .none => hostRefused s p bar 3 off true
    | .reg o =>
      if ep then poisonedDrop s
      else match regWrite s p o l with
        | some t => t
        | none => hostRefused s p bar 1 off true
    | .msixTab o => if ep then poisonedDrop s else modF s p (fun h => { h with msix := bufPut h.msix o l })
    | .pba => hostRefused s p bar 1 off true
    | .mem a => match hostMemBad s p a l.length 5 with
      | some r => hostRefused s p bar r off true
      | none =>
        let s1 := wrOuterMesh s 0xC0 a (l.map (fun b => (b, ep)))
        if ep then obump s1 0x9003 3 1 else s1
    | .clap k o =>
      match firstBad [(!barOpen s, 2), (l.length != 8 || o % 8 != 0, 1), (!protKey s (jobKey s p) (clapAddr k) 64 5, 0)] with
      | some r => hostRefused s p bar r off true
      | none =>
        if ep then clapPoison (obump s 0x9003 3 1) k
        else if o = 0 then hostClapWrite s p k 1 (BitVec.ofNat 64 (ofLE l)) err 0
        else if o = 8 then hostClapWrite s p k 2 (BitVec.ofNat 64 (ofLE l)) err 8
        else if o = 16 then hostClapWrite s p k 3 (BitVec.ofNat 64 (ofLE l)) err 16
        else hostClapReserved s p k
    | .mbox m a => if ep then poisonedDrop s else mboxWrite s m a l

/-! JTAG (R579, R580). -/

/-- EXTEST, HIGHZ and CLAMP act in STANDBY, and in DEPLOYED only with JTAG_EXTEST_EN. -/
def extestOn (s : State) : Bool := oget s 0x2001 0 == 3 && (lifecycle s != 2 || oget s 0x8033 0 == 1)
/-- The instruction that a code of the TAP acts as: BYPASS where it is not available or not listed. -/
def tapInstr (s : State) (code : Nat) : Nat :=
  if code = 0x00 ∨ code = 0x03 ∨ code = 0x04 then (if extestOn s then code else 0xFF)
  else if code = 0x01 ∨ code = 0x02 ∨ code = 0x10 then code
  else if code = 0x11 then (if debugLevel s = 3 then code else 0xFF)
  else 0xFF
/-- The state with an instruction in the register; IDCODE selects JTAG_IDCODE. -/
def tapSelect (s : State) (i : Nat) : State :=
  { s with sec := { s.sec with ir := i, dr := if i = 0x01 then Config.jtagIdcode % 2 ^ 32 else if i = 0xFF then 0 else s.sec.dr } }
/-- JTAG_IR_UPDATE. -/
def jtagIr (s : State) (code : Nat) : State := tapSelect s (tapInstr s (code % 256))
/-- JTAG_TEST_LOGIC_RESET: IDCODE is selected. -/
def jtagReset (s : State) : State := tapSelect s 0x01
/-- DBG_PORT is selected, its OFFSET is a multiple of 8 inside the mailbox, and the mailbox is served. -/
def dbgPortOk (s : State) (off : Nat) : Bool := s.sec.ir == 0x10 && off % 8 == 0 && mboxPlace off 8 && mboxServed s 64
/-- DBG_PORT_WRITE (R580): Update-DR with WRITE set writes 8 bytes of the JTAG mailbox. -/
def dbgPortWrite (s : State) (off : Nat) (data : Word) : State :=
  if dbgPortOk s off then mboxWrite { s with sec := { s.sec with dr := 2 ^ 96 + off * 2 ^ 64 + data.toNat } } 64 off (toLE 8 data.toNat) else s
/-- DBG_PORT_READ (R580): the 8 bytes at OFFSET are loaded at Capture-DR. -/
def dbgPortRead (s : State) (off : Nat) : State :=
  if dbgPortOk s off then
    let l := mboxRead s 64 off 8
    { s with sec := { s.sec with dr := off * 2 ^ 64 + ofLE l }, outs := s.outs ++ [Out.tdo l] }
  else s

/-! The rows. -/

/-- PCIE_MEM_READ. -/
def execPcieMemRead (p : Fin 8) (bar off n : Nat) (err : MemErr) (s : State) : Host.Outcome State Fault Refusal := .next (memRead s p bar off n err)
/-- PCIE_MEM_WRITE. -/
def execPcieMemWrite (p : Fin 8) (bar off : Nat) (l : List Byte) (ep : Bool) (err : MemErr) (s : State) : Host.Outcome State Fault Refusal :=
  .next (memWrite s p bar off l ep err)
/-- JTAG_IR_UPDATE. -/
def execJtagIrUpdate (code : Nat) (s : State) : Host.Outcome State Fault Refusal := .next (jtagIr s code)
/-- JTAG_TEST_LOGIC_RESET. -/
def execJtagTestLogicReset (s : State) : Host.Outcome State Fault Refusal := .next (jtagReset s)
/-- DBG_PORT_WRITE. -/
def execDbgPortWrite (off : Nat) (data : Word) (s : State) : Host.Outcome State Fault Refusal := .next (dbgPortWrite s off data)
/-- DBG_PORT_READ. -/
def execDbgPortRead (off : Nat) (s : State) : Host.Outcome State Fault Refusal := .next (dbgPortRead s off)

end Sys2Proof.Machine
end

