-- ==== Sys2Proof/Machine/Mem.lean ====
section
/-! DEFINITION. Machine/Mem.lean: HBM controllers and their regulator (R125-R127, R148-R150), and scratchpad banks (R122-R124, R127). -/

namespace Sys2Proof.Machine

/-! The regulator. -/

/-- The tokens of a class at a stack (R149). -/
def tokensOf (s : State) (k : Nat) (c : Fin 5) : Nat := (mfind s.reg.tokens (k * 8 + c.val)).getD s.reg.depth[c]
/-- A number as a class (R148). -/
def toClass (n : Nat) : Fin 5 := ⟨n % 5, Nat.mod_lt _ (by decide)⟩
/-- n tokens are taken; a request of two that finds one leaves none (log entry 106). -/
def takeTokens (s : State) (k : Nat) (c : Fin 5) (n : Nat) : State :=
  { s with reg := { s.reg with tokens := mset s.reg.depth[c] s.reg.tokens (k * 8 + c.val) (tokensOf s k c - n) } }
/-- A request of class c waits for tokens at stack k in this interval (R154). -/
def holdToken (s : State) (k : Nat) (c : Fin 5) : State :=
  { s with reg := { s.reg with held := if s.reg.held.contains (k * 8 + c.val) then s.reg.held else s.reg.held ++ [k * 8 + c.val] } }

/-- Requests of a class without tokens wait at stack k (R154). -/
def markWaits (s : State) (k : Nat) : State :=
  (fins 5).foldl (fun s c => if s.reg.wait.any (fun x => x.1 == c.val && x.2.g / 0x10000000 == k) && tokensOf s k c == 0 then holdToken s k c else s) s

/-- BWR_REPLENISH (R149, R150): committed values take effect, every bucket gains its rate, halved at a stack of 95 °C or more (R558), up to its
depth, and the classes that waited in the interval are counted; those still without tokens wait on. -/
def bwrReplenish (s : State) : State :=
  let rate : Vector Nat 5 := Vector.ofFn (fun c => oget s 0x3030 (c.val + 1))
  let depth : Vector Nat 5 := Vector.ofFn (fun c => oget s 0x3031 (c.val + 1))
  let borrow : Vector Bool 5 := Vector.ofFn (fun c => oget s 0x3032 (c.val + 1) == 1)
  let tok := (List.range 12).foldl (fun m k => (fins 5).foldl (fun m c =>
    mset depth[c] m (k * 8 + c.val) (min depth[c] (tokensOf s k c + (if (s.pow.hbmHot.toList[k]?).getD false then rate[c] / 2 else rate[c])))) m) ([] : List (Nat × Nat))
  let s1 := s.reg.held.foldl (fun s x => obump s (0x3040 + x / 8) (x % 8 + 1) 1) s
  (List.range 12).foldl markWaits { s1 with reg := { rate := rate, depth := depth, borrow := borrow, tokens := tok, held := [], wait := s.reg.wait } }

/-- The class of a request (R148, R348, R352): a descriptor's or an operation's BW_CLASS, or that of its requester; an engine's reads of its
descriptor ring count as ACTIVE (log entry 92). -/
def classOf (s : State) : MemSrc → Fin 5
  | .engine c e =>
    match streamOf s c e with
    | some (r, _) => toClass (((r.descs.find? (fun d => d.started && !d.written)).map (fun d => (descF d.d).cls)).getD 1)
    | none => toClass (((s.cl[c].flights.find? (fun f => (f.e.kind == .gather || f.e.kind == .digest) && engNo f.e.blk == e)).map (fun f => fld f.e.blk 114 3)).getD 1)
  | .tile _ => 1
  | .core _ => 1
  | .loader => 4
  | .dailies => 2
  | .fabric => 3
  | .remote => 3
  | .host => 4
/-- The request that the controller of stack k serves next (R149): the oldest of a class with tokens; only where there is none, the oldest of a
class that borrows. -/
def nextReq (s : State) (k : Nat) : Option (Nat × Fin 5 × MemReq) :=
  let mine := s.reg.wait.zipIdx.filter (fun x => x.1.2.g / 0x10000000 == k)
  let pick (p : Fin 5 → Bool) : Option (Nat × Fin 5 × MemReq) := (mine.find? (fun x => p (toClass x.1.1))).map (fun x => (x.2, toClass x.1.1, x.1.2))
  match pick (fun c => decide (0 < tokensOf s k c)) with
  | some x => some x
  | none => pick (fun c => s.reg.borrow[c])
/-- The tokens that a request costs (R126, R149). -/
def reqCost (r : MemReq) : Nat := if r.write && !r.whole then 2 else 1

/-! HBM. -/

/-- HBM_POISON (R126): an uncorrectable error poisons the granule, is counted and logged; found by a read (0) or a scrub (1) it is an
incident of the stack's controller (R456), found by a merge (2) it is logged only. -/
def hbmPoison (s : State) (g by_ : Nat) : State :=
  let k := g / 0x10000000
  let s1 := obump { s with pz := mset false s.pz g true } 0x3012 (k + 1) 1
  let pay := payOf [(16, g * 64), (24, k), (25, by_)]
  if by_ = 2 then
    let t := stampTc s1 (0x90 + k)
    logCont (stamped s1 (0x90 + k) t) t (0x90 + k) 0x0202 0 pay 0 6 2 0 0
  else incident s1 (0x90 + k) 6 0x0202 0 pay 0
/-- A correctable error is corrected in place and counted (R126). -/
def hbmCorrected (s : State) (g : Nat) : State := obump s 0x3011 (g / 0x10000000 + 1) 1

/-- What reading a granule finds for the served request: a whole write reads nothing (R126). -/
def served (s : State) (r : MemReq) (err : MemErr) : State :=
  if r.write && r.whole then s
  else
    match err with
    | .none => s
    | .corrected => hbmCorrected s r.g
    | .uncorrectable => hbmPoison s r.g (if r.write then 2 else 0)
/-- A stack serves accesses while it is active, not in self-refresh (R128). -/
def hbmActive (s : State) (k : Nat) : Bool := decide (k < 12) && oget s 0x3010 (k + 1) == 1
/-- HBM_ACCESS (R126, R128, R148, R149): a request, if one arrives, joins those waiting at the controller of stack k, and the controller serves the
next one; err is what reading its granule finds. A borrowed granule costs no token. -/
def hbmAccess (s : State) (k : Nat) (req : Option MemReq) (err : MemErr) : State :=
  if !hbmActive s k then s
  else
    let s1 := match req with
      | some r => if r.g / 0x10000000 = k then { s with reg := { s.reg with wait := s.reg.wait ++ [((classOf s r.src).val, r)] } } else s
      | none => s
    match nextReq s1 k with
    | none => markWaits s1 k
    | some (i, c, r) =>
      let s2 := takeTokens { s1 with reg := { s1.reg with wait := dropAt s1.reg.wait i } } k c (reqCost r)
      served (markWaits s2 k) r err

/-- HBM_SCRUB_STEP (R127, R128): one granule of an active stack is read, corrected and written back; poison is never cleared. -/
def hbmScrubStep (s : State) (g : Nat) (err : MemErr) : State :=
  if !hbmActive s (g / 0x10000000) || oget s 0x3013 0 == 0 then s
  else
    match err with
    | .none => s
    | .corrected => hbmCorrected s g
    | .uncorrectable => hbmPoison s g 1

/-! Scratchpads. -/

/-- The cluster whose scratchpad holds line g (its address divided by 64). -/
def spLine (g : Nat) : Option (Fin 8) :=
  match region (g * 64) with
  | .sp c => some c
  | _ => none
/-- SP_POISON (R123), as `hbmPoison`. -/
def spPoison (s : State) (c : Fin 8) (g by_ : Nat) : State :=
  let s1 := obump { s with pz := mset false s.pz g true } 0x3021 (c.val + 1) 1
  let pay := payOf [(16, g * 64), (24, c.val), (25, by_)]
  let u := 16 * c.val + 9
  if by_ = 2 then
    let t := stampTc s1 u
    logCont (stamped s1 u t) t u 0x0203 0 pay 0 5 2 0 0
  else incident s1 u 5 0x0203 0 pay 0
/-- SCRATCHPAD_ACCESS (R122-R124): a bank serves one access to line g. -/
def scratchpadAccess (s : State) (g : Nat) (write whole : Bool) (err : MemErr) : State :=
  match spLine g with
  | none => s
  | some c =>
    if write && whole then s
    else
      match err with
      | .none => s
      | .corrected => obump s 0x3020 (c.val + 1) 1
      | .uncorrectable => spPoison s c g (if write then 2 else 0)
/-- SP_SCRUB_STEP (R127). -/
def spScrubStep (s : State) (g : Nat) (err : MemErr) : State :=
  match spLine g with
  | none => s
  | some c =>
    if oget s 0x3022 0 = 0 then s
    else
      match err with
      | .none => s
      | .corrected => obump s 0x3020 (c.val + 1) 1
      | .uncorrectable => spPoison s c g 1

/-- HBM_ACCESS. -/
def execHbmAccess (k : Nat) (src : Option MemSrc) (g : Nat) (write whole : Bool) (err : MemErr) (s : State) : Host.Outcome State Fault Refusal :=
  .next (hbmAccess s k (src.map (fun x => { src := x, g := g, write := write, whole := whole })) err)
/-- SCRATCHPAD_ACCESS. -/
def execScratchpadAccess (g : Nat) (write whole : Bool) (err : MemErr) (s : State) : Host.Outcome State Fault Refusal :=
  .next (scratchpadAccess s g write whole err)
/-- HBM_SCRUB_STEP. -/
def execHbmScrubStep (g : Nat) (err : MemErr) (s : State) : Host.Outcome State Fault Refusal := .next (hbmScrubStep s g err)
/-- SP_SCRUB_STEP. -/
def execSpScrubStep (g : Nat) (err : MemErr) (s : State) : Host.Outcome State Fault Refusal := .next (spScrubStep s g err)
/-- BWR_REPLENISH. -/
def execBwrReplenish (s : State) : Host.Outcome State Fault Refusal := .next (bwrReplenish s)
end Sys2Proof.Machine
end

