-- ==== Sys2Proof/Machine/Mesh.lean ====
section
/-! DEFINITION. Machine/Mesh.lean: the package mesh: its links (R15), the fixed path between two dies (R16), and the errors of its flits (R19, R20). -/

namespace Sys2Proof.Machine

/-- The dies that a link joins (R15): 0-3 D0-D3, 4 N, 5 S. -/
def meshEnds (link : Nat) : Nat × Nat :=
  if link < 3 then (link, link + 1)
  else if link < 7 then (link - 3, 4)
  else if link < 11 then (link - 7, 5)
  else (4, 5)
/-- The fixed path from die a to die b (R16): each link with the die at which it is left. -/
def meshPath (a b : Nat) : List (Nat × Nat) :=
  if a = b ∨ 6 ≤ a ∨ 6 ≤ b then []
  else if a < 4 ∧ b < 4 then
    if a < b then (List.range (b - a)).map (fun i => (a + i, a + i + 1))
    else (List.range (a - b)).map (fun i => (a - 1 - i, a - 1 - i))
  else if 4 ≤ a ∧ 4 ≤ b then [(11, b)]
  else [((if max a b = 4 then 3 else 7) + min a b, b)]
/-- A flit from die a to die b arrives at `die` over `link`. -/
def onMeshPath (a b link die : Nat) : Bool := (meshPath a b).contains (link, die)
/-- The die that holds a granule (R14). -/
def dieOfGran (g : Nat) : Option Nat :=
  match region (g * 64) with
  | .hbm k => some (k / 3)
  | .sp c => some (c.val / 2)
  | .clap n => some ((clapHome n).val / 2)
  | _ => none
/-- The dies between which a packet of the router crosses the package: from its input port or its unit to its output port, or to the unit or
granule it is for (R17). -/
def packetDies (s : State) (inp : Nat) (p : Packet) : Option (Nat × Nat) :=
  let side (q : Nat) : Nat := if q < 3 then 4 else 5
  let a := if inp < 6 then side inp else dieOf p.srcUnit
  let port := bits (routeOf s p.dest) 0 3
  if port < 6 then some (a, side port)
  else if port = 6 then
    if isRequest p then (dieOfGran (p.addr / 64)).map (fun b => (a, b)) else some (a, dieOf p.srcUnit)
  else none
/-- The granules of a write whose path passes `link` to `die`: a multicast crosses each link once, and is replicated where the paths part (R19), so
that an error before that reaches every copy behind the link. -/
def copiesBehind (unit link die : Nat) (grans : List Nat) : List Nat :=
  grans.filter (fun g => (dieOfGran g).any (fun b => onMeshPath (dieOf unit) b link die))
/-- A flit with this load crosses `link` to `die` (R16). -/
def crosses (s : State) (link die : Nat) : MeshLoad → Bool
  | .read u g => (dieOfGran g).any (fun a => onMeshPath a (dieOf u) link die)
  | .write u gs => !(copiesBehind u link die gs).isEmpty
  | .packet i _ => match s.fab.queue[i]? with
    | some (inp, p) => (packetDies s inp p).any (fun x => onMeshPath x.1 x.2 link die)
    | none => false
/-- The address that the event names. -/
def loadAddr (s : State) : MeshLoad → Nat
  | .read _ g => g * 64
  | .write _ gs => (gs.head?).getD 0 * 64
  | .packet i k => match s.fab.queue[i]? with
    | some (_, p) => if isRequest p && bits (routeOf s p.dest) 0 3 == 6 then p.addr / 64 * 64 + 64 * k else 0
    | none => 0
/-- The data of a flit arrives poisoned (R20): at every unit, memory or packet that its copies reach (a hit waits for that access: log entry 87). -/
def hitLoad (s : State) (link die : Nat) : MeshLoad → State
  | .read u g => { s with meshHits := s.meshHits ++ [(u, false, g)] }
  | .write u gs => { s with meshHits := s.meshHits ++ (copiesBehind u link die gs).map (fun g => (u, true, g)) }
  | .packet i k => { s with fab := { s.fab with queue := s.fab.queue.zipIdx.map (fun x =>
      if x.2 = i then (x.1.1, { x.1.2 with poison := if x.1.2.data.isEmpty then x.1.2.poison else x.1.2.poison ||| 2 ^ ((x.1.2.addr % 2048 / 64 + k) % 32) })
      else x.1) } }
/-- A discarded flit takes its packet with it (R20). -/
def loseLoad (s : State) : MeshLoad → State
  | .packet i _ => match s.fab.queue[i]? with
    | some (inp, p) => freeUnits { s with fab := { s.fab with queue := dropAt s.fab.queue i } } inp (poolOf p) (unitsOf p)
    | none => s
  | _ => s
/-- MESH_FLIT_ARRIVAL (R16, R19, R20): a flit arrives at die `die` over a link of its path; a correctable error is counted; one in a header discards
the flit, is counted and drains the module (R457); one in data delivers the granule poisoned and is an incident of the link (R456). -/
def meshFlitArrival (s : State) (link : Nat) (die : Fin 6) (err : MemErr) (header : Bool) (load : MeshLoad) : State :=
  if decide (12 ≤ link) || !crosses s link die.val load then s
  else
    let u := 0xA0 + link
    match err with
    | .none => s
    | .corrected => obump s 0x1021 (link + 1) 1
    | .uncorrectable =>
      if header then
        let s1 := obump (loseLoad s load) 0x1022 (link + 1) 1
        let t := stampTc s1 u
        let s2 := logCont (stamped s1 u t) t u 0x0603 0 (payOf [(16, link), (17, 1), (18, die.val)]) 1 0 4 0 0
        moduleDrain s2 u 0x0603 0 t
      else
        incident (hitLoad s link die.val load) u 8 0x0603 0 (payOf [(16, link), (17, 0), (18, die.val), (24, loadAddr s load)]) 0

/-- MESH_FLIT_ARRIVAL. -/
def execMeshFlitArrival (link : Nat) (die : Fin 6) (err : MemErr) (header : Bool) (load : MeshLoad) (s : State) : Host.Outcome State Fault Refusal :=
  .next (meshFlitArrival s link die err header load)

end Sys2Proof.Machine
end

