-- ==== Sys2Proof/Machine/Ports.lean ====
section
/-! DEFINITION. Machine/Ports.lean: training (R358-R360), flits and their retry (R361-R366), credits and the choice of a channel
(R371-R373), and the corrected-symbol rate (R383). -/

namespace Sys2Proof.Machine

/-! Training. -/

/-- The time limit of a training step in ns (R358). -/
def stepLimit (k : Nat) : Nat := match k with
  | 1 => 1000000
  | 2 => 40000000
  | 3 => 2000000
  | _ => 1000000
/-- The training of port p has overrun the limit of its step or FAB_TRAIN_TIMEOUT (R358). -/
def trainLate (s : State) (p : Fin 6) : Bool :=
  let x := s.fab.port[p]
  decide (x.stepAt + stepLimit x.step < s.now) || decide (x.trainAt + oget s 0x5009 0 * 1000000 < s.now)
/-- The IDENT message of port p (R369). -/
def identMsg (s : State) (p : Fin 6) : List Byte :=
  toLE 1 1 ++ zeros 3 ++ toLE 4 (if unnumbered s then 0xFFFFFFFF else modNum s) ++ toLE 1 p.val ++ toLE 1 (torus s 0) ++ toLE 1 (torus s 1) ++
    toLE 1 (torus s 2) ++ toLE 4 (Config.txLat p.val) ++ toLE 4 (Config.rxLat p.val) ++ zeros 12

/-- The lanes are joined in order or reversed (R358). -/
def lanesJoined (lanes : List Nat) : Bool := lanes == List.range 8 || lanes == (List.range 8).reverse
/-- TRAIN_STEP_COMPLETE (R358): the step of port p ends in time. Step 2 starts from FAB_EQ_PRESET; eq are the coefficients it reaches. Step 3 finds
lane i joined to lanes[i] and the lanes of a mask inverted: it corrects a reversal and the inversions, and does not end with another permutation.
Step 4 begins with 16 IDENT messages. -/
def trainStepComplete (s : State) (p : Fin 6) (eq : Nat) (lanes : List Nat) (inverted : Nat) : State :=
  let x := s.fab.port[p]
  if portState s p = 2 ∧ 1 ≤ x.step ∧ x.step ≤ 3 ∧ trainLate s p = false ∧ (x.step = 3 → lanesJoined lanes = true) then
    modPort s p (fun x => { x with step := x.step + 1, stepAt := s.now,
                                   eq := if x.step = 1 then pget s p 5 else if x.step = 2 then eq % 256 ^ 64 else x.eq,
                                   laneRev := if x.step = 3 then lanes != List.range 8 else x.laneRev,
                                   laneInv := if x.step = 3 then inverted % 256 else x.laneInv,
                                   ctl := if x.step = 3 then List.replicate 16 (identMsg s p) else x.ctl })
  else s
/-- TRAIN_STEP_TIMEOUT (R358): FAB_TRAIN_FAIL is logged and the port waits in BACKOFF; lanes are those with a signal. -/
def trainStepTimeout (s : State) (p : Fin 6) (lanes : Nat) : State :=
  if portState s p = 2 ∧ trainLate s p = true then
    let k := s.fab.port[p].step
    logEv (pbump (modPort (pset s p 2 5) p (fun x => { x with backoffAt := s.now })) p 15 1) (portUnit p) 0x0304 0
      (payOf [(16, p.val), (17, k), (18, lanes % 256)])
  else s
/-- BACKOFF_EXPIRY (R358): after 1 s training starts again. -/
def backoffExpiry (s : State) (p : Fin 6) : State :=
  if portState s p = 5 ∧ s.fab.port[p].backoffAt + 1000000000 ≤ s.now then trainStart s p else s

/-- The first mismatch of a partner's IDENT (R359): module, port, torus size. -/
def identBad (s : State) (p : Fin 6) (m : List Byte) : Option Nat :=
  let n := ofLE (slice m 4 4)
  if unnumbered s ∨ n = 0xFFFFFFFF then none
  else firstBad [
    (n != neighbour s p, 0),
    (ofLE (slice m 8 1) != (p.val + 3) % 6, 1),
    (ofLE (slice m 9 1) != torus s 0 || ofLE (slice m 10 1) != torus s 1 || ofLE (slice m 11 1) != torus s 2, 2)]

/-- IDENT (R359, R360): the partner's identity and the wire delay; the link comes UP, or the port enters MISWIRED. -/
def ident (s : State) (p : Fin 6) (wire : Nat) : State :=
  if portState s p ≠ 2 ∨ s.fab.port[p].step ≠ 4 ∨ trainLate s p = true then s
  else
    match takeCtl s p 1 with
    | none => s
    | some (x, s0) =>
      let m := x.2
      let n := ofLE (slice m 4 4)
      let port := ofLE (slice m 8 1)
      let asym : Int := (((Config.txLat p.val : Int) + ofLE (slice m 16 4)) - ((ofLE (slice m 12 4) : Int) + Config.rxLat p.val)) / 2
      let s1 := pset (pset (pset s0 p 3 ((n % 2 ^ 24) * 256 + port)) p 8 (wire % 2 ^ 32)) p 7 (i2n 4 asym)
      let s2 := modPort s1 p (fun x => { freshLink x with step := 0, ctl := x.ctl })
      match identBad s p m with
      | some k =>
        logEv (pset s2 p 2 3) (portUnit p) 0x0303 0 (payOf [(16, p.val), (17, port), (20, n), (24, neighbour s p), (28, k)])
      | none =>
        tcReparent (logEv (pset (pset s2 p 2 4) p 6 s.fab.port[p].eq) (portUnit p) 0x0301 0
          (payOf [(16, p.val), (17, port), (20, n), (24, wire % 2 ^ 32), (28, i2n 4 asym)]))

/-! Receiving flits. -/

/-- The message bits of a codeword (R355): CTRL20, then the bytes of the body, each least significant bit first. -/
def flitMessage (ctrl : Nat) (body : List Byte) : Nat := ctrl % 2 ^ 20 + 2 ^ 20 * ofLE body
/-- CTRL20 of a flit. -/
def flitCtrl (f : Flit) : Nat := f.message % 2 ^ 20
/-- The 640 bytes of its body. -/
def flitBody (f : Flit) : List Byte := toLE 640 (f.message / 2 ^ 20)
/-- FCRC (R361). -/
def fcrc (ctrl : Nat) (body : List Byte) : Nat := crc32c (toLE 2 ctrl ++ toLE 1 (bits ctrl 16 4) ++ slice body 0 636)
/-- ACK_SEQ a covers SEQ q (R363). -/
def ackCovers (a q : Nat) : Bool := decide ((a + 4096 - q) % 4096 < 256)

/-- The link header of a received flit: identity, credits, acknowledgement and NAK (R362-R365). -/
def linkHeader (s : State) (p : Fin 6) (h : Nat) : State :=
  let ack := bits h 84 12
  let s1 := modPort s p (fun x =>
    let left := x.retry.filter (fun e => !ackCovers ack e.1)
    let moved := decide (left.length < x.retry.length)
    { x with identity := some (bits h 64 16, bits h 61 3),
             ret := Vector.ofFn (fun (i : Fin 8) => bits h (96 + 16 * i.val) 16),
             acked := ack, retry := left, replay := x.replay.filter (fun q => !ackCovers ack q),
             replays := if moved then 0 else x.replays, nakSeen := bit h 83 })
  if bit h 83 && !(s1.fab.port[p].retry).isEmpty && s1.fab.port[p].replayAck != some ack then startReplay s1 p else s1

/-- A discarded flit sets NAK until the expected one comes (R364). -/
def discardFlit (s : State) (p : Fin 6) : State := if portUp s p then modPort s p (fun x => { x with nak := true }) else s

/-- The area of an accepted DATA flit on channel vc: complete packets go to the router (R367). -/
def acceptData (s : State) (p : Fin 6) (vc : Fin 4) (area : List Byte) : State :=
  let r := parsePackets 40 (s.fab.port[p].rxPart[vc] ++ area) []
  let s1 := modPort s p (fun x => { x with expSeq := (x.expSeq + 1) % 4096, nak := false, rxPart := vset x.rxPart vc r.2.1 })
  let s2 := pbump { s1 with fab := { s1.fab with queue := s1.fab.queue ++ r.1.map (fun q => (p.val, q)) } } p 17
    (r.1.foldl (fun a q => a + 16 * unitsOf q) 0)
  if r.2.2 then linkDown s2 p 2 else s2

/-- FLIT_RECEIVE (R364): a flit is accepted, or discarded with NAK; its credits, ACK_SEQ and NAK are taken; a protocol error takes the
link down, of a MISWIRED port too, which takes no packets (R359, R366). -/
def flitReceive (s : State) (p : Fin 6) (f : Flit) : State :=
  let st := portState s p
  if ¬ (st = 4 ∨ st = 3 ∨ (st = 2 ∧ s.fab.port[p].step = 4)) then s
  else if !f.fecOk then discardFlit (pbump s p 11 1) p
  else
    let s0 := if f.corrSyms = 0 then s
      else modPort (pbump (pbump s p 9 f.corrSyms) p 10 1) p (fun x => { x with corr := x.corr + f.corrSyms })
    let ctrl := flitCtrl f
    let body := flitBody f
    if fcrc ctrl body ≠ ofLE (slice body 636 4) then discardFlit (pbump s0 p 12 1) p
    else
      let h := ofLE (slice body 608 28)
      let ty := bits ctrl 16 4
      let msg := slice body 0 32
      let id := (bits h 64 16, bits h 61 3)
      let now := tcAt s (18 + p.val / 3)
      if st = 2 then
        if ty = 2 ∧ ofLE (slice msg 0 1) = 1 then modPort s0 p (fun x => { x with rxCtl := x.rxCtl ++ [(now, msg)] }) else s0
      else if 3 ≤ ty then linkDown s0 p 2
      else if (match s.fab.port[p].identity with
          | some i => i != id
          | none => false) then linkDown s0 p 3
      else if st = 3 then modPort s0 p (fun x => { x with identity := some id })
      else
        let s1 := linkHeader s0 p h
        if portState s1 p ≠ 4 then s1
        else if ty = 0 then s1
        else if ty = 2 then
          if ofLE (slice msg 0 1) = 2 ∨ ofLE (slice msg 0 1) = 3 then modPort s1 p (fun x => { x with rxCtl := x.rxCtl ++ [(now, msg)] }) else s1
        else if bits ctrl 4 12 = s1.fab.port[p].expSeq then acceptData s1 p ⟨bits h 80 2 % 4, Nat.mod_lt _ (by decide)⟩ (slice body 0 608)
        else discardFlit s1 p

/-- REPLAY_NAK_TIMER (R365): 2 µs after a replay began NAK is still set. -/
def replayNakTimer (s : State) (p : Fin 6) : State :=
  let x := s.fab.port[p]
  match x.replayAt with
  | some t => if portUp s p && x.nakSeen && !x.retry.isEmpty && decide (t + 2000 ≤ s.now) then startReplay s p else s
  | none => s
/-- ACK_WAIT_TIMER (R365): the oldest unacknowledged flit has waited 4 µs. -/
def ackWaitTimer (s : State) (p : Fin 6) : State :=
  match s.fab.port[p].retry with
  | e :: _ => if portUp s p && decide (e.2.2.2 + 4000 ≤ s.now) then startReplay s p else s
  | [] => s
/-- LANE_LOCK_LOSS (R366). -/
def laneLockLoss (s : State) (p : Fin 6) : State := if portState s p = 4 ∨ portState s p = 3 then linkDown s p 0 else s

/-! Sending flits. -/

/-- The pool of queued packet e at the next module has credit for it (R372). -/
def hasCredit (x : FabPort) (p : Packet) : Bool :=
  decide (unitsOf p + (x.sent[poolOf p] + 65536 - x.ret[poolOf p]) % 65536 ≤ poolSize (poolOf p))
/-- The first packet that an input has queued on a channel. -/
def inputHead (x : FabPort) (vc inp : Nat) : Option (Nat × Nat × Packet) := x.txq.find? (fun e => e.1 == inp && vcOf e.2.2 == vc)
/-- The input whose turn it is on a channel, and its packet with credit (R373). -/
def pickPacket (x : FabPort) (vc : Fin 4) : Option (Nat × Nat × Packet) :=
  firstSome (fun i => (inputHead x vc.val ((x.lastIn[vc] + 1 + i) % 7)).bind (fun e => if hasCredit x e.2.2 then some e else none)) (List.range 7)
/-- A channel has something to send. -/
def vcReady (x : FabPort) (vc : Fin 4) : Bool := !(x.txPart[vc]).isEmpty || (pickPacket x vc).isSome
/-- A channel has a packet ready but no credit (R384). -/
def vcStarved (x : FabPort) (vc : Fin 4) : Bool := !vcReady x vc && x.txq.any (fun e => vcOf e.2.2 == vc.val)

/-- The area of a flit of channel vc: the rest of the packet under way, then whole packets with credit, then PAD (R367, R372). The list
holds the packets started. -/
def fillArea (vc : Fin 4) : Nat → FabPort → List Byte → List (Nat × Nat × Packet) → FabPort × List Byte × List (Nat × Nat × Packet)
  | 0, x, a, l => (x, a, l)
  | n + 1, x, a, l =>
    let room := 608 - a.length
    if room = 0 then (x, a, l)
    else if (x.txPart[vc]).isEmpty then
      match pickPacket x vc with
      | none => (x, a, l)
      | some e =>
        fillArea vc n { x with txq := x.txq.erase e, lastIn := vset x.lastIn vc e.1, txPart := vset x.txPart vc (packetBytes e.2.2),
                               sent := vmod x.sent (poolOf e.2.2) (fun v => (v + unitsOf e.2.2) % 65536) } a (l ++ [e])
    else fillArea vc n { x with txPart := vset x.txPart vc ((x.txPart[vc]).drop room) } (a ++ (x.txPart[vc]).take room) l

/-- The channel that sends the next flit (R373): VC 0 first, then 1 to 3 by weighted round robin; and the port with its turns. -/
def chooseVc (s : State) (x : FabPort) : Option (Fin 4) × FabPort :=
  if vcReady x 0 then (some 0, x)
  else
    let ready : List (Fin 4) := ([1, 2, 3] : List (Fin 4)).filter (vcReady x)
    match ready with
    | [] => (none, x)
    | r :: _ =>
      match ready.find? (fun v => decide (0 < x.wrr[v])) with
      | some v => (some v, { x with wrr := vmod x.wrr v (fun n => n - 1) })
      | none =>
        let w : Vector Nat 4 := Vector.ofFn (fun i => oget s 0x5001 i.val)
        (some r, { x with wrr := vmod w r (fun n => n - 1) })

/-- The link header of a flit that port p sends (R362). -/
def txHeader (s : State) (p : Fin 6) (vc : Nat) : Nat :=
  let x := s.fab.port[p]
  p.val * 2 ^ 61 + (if unnumbered s then 0xFFFF else modNum s % 65536) * 2 ^ 64 + vc * 2 ^ 80 + (if x.nak then 2 ^ 83 else 0) +
    ((x.expSeq + 4095) % 4096) * 2 ^ 84 + (fins 8).foldl (fun a i => a + x.freed[i] * 2 ^ (96 + 16 * i.val)) 0
/-- A flit leaves port p (R361). -/
def outFlit (s : State) (p : Fin 6) (ftype seq vc : Nat) (area : List Byte) : State :=
  let ctrl := ftype * 65536 + seq * 16
  let b := slice area 0 608 ++ toLE 28 (txHeader s p vc)
  { s with outs := s.outs ++ [Out.flit p.val (flitMessage ctrl (b ++ toLE 4 (fcrc ctrl b)))] }
/-- A control message with its time of sending written into it (R369). -/
def stampCtl (s : State) (p : Fin 6) (m : List Byte) : List Byte :=
  let t := toLE 8 (tcAt s (18 + p.val / 3))
  match ofLE (slice m 0 1) with
  | 2 => slice m 0 8 ++ t ++ slice m 16 16
  | 3 => slice m 0 24 ++ t
  | _ => m

/-- FLIT_TRANSMIT (R361, R363, R365, R369, R373, R384): port p sends its next flit, and counts a period in which a channel waits for credit: a control message, a flit of the replay, a new DATA flit if the
retry buffer has room, or IDLE. -/
def flitTransmit (s : State) (p : Fin 6) : State :=
  let st := portState s p
  let x := s.fab.port[p]
  if ¬ (st = 4 ∨ st = 3 ∨ (st = 2 ∧ x.step = 4)) then s
  else
    let s0 := if st = 4 ∧ ([0, 1, 2, 3] : List (Fin 4)).any (vcStarved x) = true then pbump s p 18 1 else s
    match x.ctl with
    | m :: r => outFlit (modPort s0 p (fun x => { x with ctl := r })) p 2 0 0 (stampCtl s p m)
    | [] =>
      if st ≠ 4 then outFlit s p 0 0 0 []
      else
        match x.replay with
        | q :: r =>
          let s1 := modPort s0 p (fun x => { x with replay := r, retry := mapIf (fun e => e.1 == q) (fun e => (e.1, e.2.1, e.2.2.1, s.now)) x.retry })
          match x.retry.find? (fun e => e.1 == q) with
          | some e => outFlit s1 p 1 q e.2.1 e.2.2.1
          | none => s1
        | [] =>
          let ch := if x.retry.length < 256 then chooseVc s x else (none, x)
          match ch with
          | (none, _) => outFlit s0 p 0 0 0 []
          | (some vc, y) =>
            let r := fillArea vc 80 y [] []
            let s1 := modPort s0 p (fun _ => { r.1 with txSeq := (y.txSeq + 1) % 4096,
                                                        retry := r.1.retry ++ [(y.txSeq, vc.val, slice r.2.1 0 608, s.now)] })
            let s2 := r.2.2.foldl (fun s e => pbump (freeUnits s e.1 (toFin8 e.2.1) (unitsOf e.2.2)) p 16 (16 * unitsOf e.2.2)) s1
            outFlit s2 p 1 y.txSeq vc.val r.2.1

/-- FEC_RATE_CHECK (R383): the corrected symbols of the last second are held against FAB_FEC_WARN; FAB_FEC_DEGRADED is logged at most
once per 60 s. -/
def fecRateCheck (s : State) (p : Fin 6) (lane : Nat) : State :=
  let x := s.fab.port[p]
  let s1 := modPort s p (fun x => { x with corr := 0 })
  let due := match x.fecWarnAt with
    | some t => decide (t + 60000000000 ≤ s.now)
    | none => true
  if decide (oget s 0x5008 0 < x.corr) && due then
    logEv (modPort s1 p (fun x => { x with fecWarnAt := some s.now })) (portUnit p) 0x0305 0 (payOf [(16, p.val), (17, lane % 8), (20, x.corr % 2 ^ 32)])
  else s1

/-- TRAIN_STEP_COMPLETE. -/
def execTrainStepComplete (p : Fin 6) (eq : Nat) (s : State) (lanes : List Nat := [0, 1, 2, 3, 4, 5, 6, 7]) (inverted : Nat := 0) : Host.Outcome State Fault Refusal :=
  .next (trainStepComplete s p eq lanes inverted)
/-- TRAIN_STEP_TIMEOUT. -/
def execTrainStepTimeout (p : Fin 6) (lanes : Nat) (s : State) : Host.Outcome State Fault Refusal := .next (trainStepTimeout s p lanes)
/-- BACKOFF_EXPIRY. -/
def execBackoffExpiry (p : Fin 6) (s : State) : Host.Outcome State Fault Refusal := .next (backoffExpiry s p)
/-- IDENT. -/
def execIdent (p : Fin 6) (wire : Nat) (s : State) : Host.Outcome State Fault Refusal := .next (ident s p wire)
/-- FLIT_RECEIVE. -/
def execFlitReceive (p : Fin 6) (f : Flit) (s : State) : Host.Outcome State Fault Refusal := .next (flitReceive s p f)
/-- REPLAY_NAK_TIMER. -/
def execReplayNakTimer (p : Fin 6) (s : State) : Host.Outcome State Fault Refusal := .next (replayNakTimer s p)
/-- ACK_WAIT_TIMER. -/
def execAckWaitTimer (p : Fin 6) (s : State) : Host.Outcome State Fault Refusal := .next (ackWaitTimer s p)
/-- LANE_LOCK_LOSS. -/
def execLaneLockLoss (p : Fin 6) (s : State) : Host.Outcome State Fault Refusal := .next (laneLockLoss s p)
/-- FLIT_TRANSMIT. -/
def execFlitTransmit (p : Fin 6) (s : State) : Host.Outcome State Fault Refusal := .next (flitTransmit s p)
/-- FEC_RATE_CHECK. -/
def execFecRateCheck (p : Fin 6) (lane : Nat) (s : State) : Host.Outcome State Fault Refusal := .next (fecRateCheck s p lane)

end Sys2Proof.Machine
end

