-- ==== Sys2Proof/Machine/Dispatch.lean ====
section
/-! DEFINITION. Machine/Dispatch.lean: the meaning of each command, one direct call per constructor. -/

namespace Sys2Proof.Machine

/-- The effect of a command on the module. -/
def exec (i : Instr) (s : State) : Host.Outcome State Fault Refusal :=
  match i with
  | .tcfg c => Sys2Proof.Machine.execTcfg c s
  | .tld c => Sys2Proof.Machine.execTld c s
  | .tst c => Sys2Proof.Machine.execTst c s
  | .mma c => Sys2Proof.Machine.execMma c s
  | .vec c => Sys2Proof.Machine.execVec c s
  | .red c => Sys2Proof.Machine.execRed c s
  | .stream c => Sys2Proof.Machine.execStream c s
  | .gather c => Sys2Proof.Machine.execGather c s
  | .tsend c => Sys2Proof.Machine.execTsend c s
  | .digest c => Sys2Proof.Machine.execDigest c s
  | .clapRead c => Sys2Proof.Machine.execClapRead c s
  | .clapSet c => Sys2Proof.Machine.execClapSet c s
  | .clapAdd c => Sys2Proof.Machine.execClapAdd c s
  | .clapMax c => Sys2Proof.Machine.execClapMax c s
  | .clapFadd c => Sys2Proof.Machine.execClapFadd c s
  | .clapSwap c => Sys2Proof.Machine.execClapSwap c s
  | .clapCas c => Sys2Proof.Machine.execClapCas c s
  | .cwait c => Sys2Proof.Machine.execCwait c s
  | .tend c => Sys2Proof.Machine.execTend c s
  | .ecall c => Sys2Proof.Machine.execEcall c s
  | .ebreak c => Sys2Proof.Machine.execEbreak c s
  | .fence c => Sys2Proof.Machine.execFence c s
  | .fenceI c => Sys2Proof.Machine.execFenceI c s
  | .csrRead c => Sys2Proof.Machine.execCsrRead c s
  | .clmAccess c => Sys2Proof.Machine.execClmAccess c s
  | .windowLoad c => Sys2Proof.Machine.execWindowLoad c s
  | .windowStore c => Sys2Proof.Machine.execWindowStore c s
  | .baseInstruction c => Sys2Proof.Machine.execBaseInstruction c s
  | .issueResume c => Sys2Proof.Machine.execIssueResume c s
  | .clapResultArrival c n => Sys2Proof.Machine.execClapResultArrival c n s
  | .windowLoadResponse c err => Sys2Proof.Machine.execWindowLoadResponse c s err
  | .windowStoreAck c n => Sys2Proof.Machine.execWindowStoreAck c n s
  | .opDispatch c q ecc => Sys2Proof.Machine.execOpDispatch c q ecc s
  | .gateTimeoutExpiry c q => Sys2Proof.Machine.execGateTimeoutExpiry c q s
  | .tldComplete c n parity => Sys2Proof.Machine.execTldComplete c n parity s
  | .tstWriteAck c n parity => Sys2Proof.Machine.execTstWriteAck c n parity s
  | .mmaElementStart c parity => Sys2Proof.Machine.execMmaElementStart c parity s
  | .mmaElementComplete c vs => Sys2Proof.Machine.execMmaElementComplete c vs s
  | .residueVerdict c vs => Sys2Proof.Machine.execResidueVerdict c vs s
  | .pairComparison p => Sys2Proof.Machine.execPairComparison p s
  | .drainRead c parity word => Sys2Proof.Machine.execDrainRead c parity s word
  | .prepSlotStart c => Sys2Proof.Machine.execPrepSlotStart c s
  | .prepSlotComplete c parity => Sys2Proof.Machine.execPrepSlotComplete c s parity
  | .gradeElementEnd c => Sys2Proof.Machine.execGradeElementEnd c s
  | .sendBufferDrain c => Sys2Proof.Machine.execSendBufferDrain c s
  | .sendWriteAck c n => Sys2Proof.Machine.execSendWriteAck c n s
  | .vqOpComplete c n => Sys2Proof.Machine.execVqOpComplete c n s
  | .descriptorFetch c e => Sys2Proof.Machine.execDescriptorFetch c e s
  | .descriptorStart c e => Sys2Proof.Machine.execDescriptorStart c e s
  | .descriptorComplete c e n => Sys2Proof.Machine.execDescriptorComplete c e n s
  | .reelReserve c r u => Sys2Proof.Machine.execReelReserve c r u s
  | .reelCommit c r => Sys2Proof.Machine.execReelCommit c r s
  | .reelClaim c r u => Sys2Proof.Machine.execReelClaim c r u s
  | .reelRelease c r => Sys2Proof.Machine.execReelRelease c r s
  | .reelWaitTimeout c u => Sys2Proof.Machine.execReelWaitTimeout c u s
  | .mcastStall c e => Sys2Proof.Machine.execMcastStall c e s
  | .gatherComplete c e => Sys2Proof.Machine.execGatherComplete c e s
  | .tsendComplete c e => Sys2Proof.Machine.execTsendComplete c e s
  | .digestComplete c e => Sys2Proof.Machine.execDigestComplete c e s
  | .hbmAccess k src g write whole err => Sys2Proof.Machine.execHbmAccess k src g write whole err s
  | .scratchpadAccess g write whole err => Sys2Proof.Machine.execScratchpadAccess g write whole err s
  | .hbmScrubStep g err => Sys2Proof.Machine.execHbmScrubStep g err s
  | .spScrubStep g err => Sys2Proof.Machine.execSpScrubStep g err s
  | .bwrReplenish => Sys2Proof.Machine.execBwrReplenish s
  | .meshFlitArrival link die err header load => Sys2Proof.Machine.execMeshFlitArrival link die err header load s
  | .faultReport p n => Sys2Proof.Machine.execFaultReport p n s
  | .discardComplete p => Sys2Proof.Machine.execDiscardComplete p s
  | .clapperOpPerform n err => Sys2Proof.Machine.execClapperOpPerform n err s
  | .waiterRegister w err => Sys2Proof.Machine.execWaiterRegister w s err
  | .hostClapSet p clap v err => Sys2Proof.Machine.execHostClapSet p clap v err s
  | .hostClapAdd p clap v err => Sys2Proof.Machine.execHostClapAdd p clap v err s
  | .hostClapMax p clap v err => Sys2Proof.Machine.execHostClapMax p clap v err s
  | .hostAtomicFetchadd p clap v err field size => Sys2Proof.Machine.execHostAtomicFetchadd p clap v err s field size
  | .hostAtomicSwap p clap v err field size => Sys2Proof.Machine.execHostAtomicSwap p clap v err s field size
  | .hostAtomicCas p clap v cmp err field size => Sys2Proof.Machine.execHostAtomicCas p clap v cmp err s field size
  | .hostClapReservedWrite p clap => Sys2Proof.Machine.execHostClapReservedWrite p clap s
  | .tcReplicaCorrect j off => Sys2Proof.Machine.execTcReplicaCorrect j off s
  | .timeExchangeStart => Sys2Proof.Machine.execTimeExchangeStart s
  | .timeReq p => Sys2Proof.Machine.execTimeReq p s
  | .timeResp p => Sys2Proof.Machine.execTimeResp p s
  | .tcHoldoverLimit => Sys2Proof.Machine.execTcHoldoverLimit s
  | .tcNoParent => Sys2Proof.Machine.execTcNoParent s
  | .timeBeaconSend => Sys2Proof.Machine.execTimeBeaconSend s
  | .timeBeaconReceive f => Sys2Proof.Machine.execTimeBeaconReceive f s
  | .ptpSync rx tx follow => Sys2Proof.Machine.execPtpSync rx tx follow s
  | .ptpLost => Sys2Proof.Machine.execPtpLost s
  | .trainStepComplete p eq lanes inverted => Sys2Proof.Machine.execTrainStepComplete p eq s lanes inverted
  | .trainStepTimeout p lanes => Sys2Proof.Machine.execTrainStepTimeout p lanes s
  | .backoffExpiry p => Sys2Proof.Machine.execBackoffExpiry p s
  | .ident p wire => Sys2Proof.Machine.execIdent p wire s
  | .flitReceive p f => Sys2Proof.Machine.execFlitReceive p f s
  | .replayNakTimer p => Sys2Proof.Machine.execReplayNakTimer p s
  | .ackWaitTimer p => Sys2Proof.Machine.execAckWaitTimer p s
  | .laneLockLoss p => Sys2Proof.Machine.execLaneLockLoss p s
  | .flitTransmit p => Sys2Proof.Machine.execFlitTransmit p s
  | .packetForward n err header gran => Sys2Proof.Machine.execPacketForward n err header gran s
  | .fabWriteRequest n => Sys2Proof.Machine.execFabWriteRequest n s
  | .fabReadRequest n err => Sys2Proof.Machine.execFabReadRequest n s err
  | .fabClapRequest n => Sys2Proof.Machine.execFabClapRequest n s
  | .fabRespArrival n => Sys2Proof.Machine.execFabRespArrival n s
  | .fabRespTimeout unit tag => Sys2Proof.Machine.execFabRespTimeout unit tag s
  | .fecRateCheck p lane => Sys2Proof.Machine.execFecRateCheck p lane s
  | .fabRouteWrite via first data => Sys2Proof.Machine.execFabRouteWrite via first data s
  | .fabRouteDefault via => Sys2Proof.Machine.execFabRouteDefault via s
  | .fabPortRetrain via p => Sys2Proof.Machine.execFabPortRetrain via p s
  | .fabPortHoldDown via p => Sys2Proof.Machine.execFabPortHoldDown via p s
  | .grpLaunch g => Sys2Proof.Machine.execGrpLaunch g s
  | .contextTake e => Sys2Proof.Machine.execContextTake e s
  | .collStarve g seq => Sys2Proof.Machine.execCollStarve g seq s
  | .rts n => Sys2Proof.Machine.execRts n s
  | .cts n => Sys2Proof.Machine.execCts n s
  | .chunkSend e => Sys2Proof.Machine.execChunkSend e s
  | .chunk n => Sys2Proof.Machine.execChunk n s
  | .ack n => Sys2Proof.Machine.execAck n s
  | .rereq n => Sys2Proof.Machine.execRereq n s
  | .collAckTimer g seq l => Sys2Proof.Machine.execCollAckTimer g seq l s
  | .entryDone g seq k => Sys2Proof.Machine.execEntryDone g seq k s
  | .collProgressTimeout g seq => Sys2Proof.Machine.execCollProgressTimeout g seq s
  | .collInstanceRelease g seq => Sys2Proof.Machine.execCollInstanceRelease g seq s
  | .dlyOrderClaim e => Sys2Proof.Machine.execDlyOrderClaim e s
  | .dlyPost via b data => Sys2Proof.Machine.execDlyPost via b data s
  | .qpArm via q => Sys2Proof.Machine.execQpArm via q s
  | .qpErrorCmd via q => Sys2Proof.Machine.execQpErrorCmd via q s
  | .qpResetCmd via q => Sys2Proof.Machine.execQpResetCmd via q s
  | .rocePacketTransmit e => Sys2Proof.Machine.execRocePacketTransmit e s
  | .roceAck q psn => Sys2Proof.Machine.execRoceAck q psn s
  | .roceNakSequence q psn => Sys2Proof.Machine.execRoceNakSequence q psn s
  | .roceRnrNak q psn timer => Sys2Proof.Machine.execRoceRnrNak q psn timer s
  | .rnrTimerExpiry q => Sys2Proof.Machine.execRnrTimerExpiry q s
  | .roceNakFatal q psn kind => Sys2Proof.Machine.execRoceNakFatal q psn kind s
  | .cnpReceive q => Sys2Proof.Machine.execCnpReceive q s
  | .qpAckTimeout q => Sys2Proof.Machine.execQpAckTimeout q s
  | .ccPeriod => Sys2Proof.Machine.execCcPeriod s
  | .sealSend q => Sys2Proof.Machine.execSealSend q s
  | .ethLinkUp p => Sys2Proof.Machine.execEthLinkUp p s
  | .ethLinkDown p => Sys2Proof.Machine.execEthLinkDown p s
  | .ethFrameReceive p frame => Sys2Proof.Machine.execEthFrameReceive p frame s
  | .drainCmd via v => Sys2Proof.Machine.execDrainCmd via v s
  | .digestVerdict via v => Sys2Proof.Machine.execDigestVerdict via v s
  | .checkModeChange => Sys2Proof.Machine.execCheckModeChange s
  | .pairEgressCompare p => Sys2Proof.Machine.execPairEgressCompare p s
  | .pairEgressTimeout p => Sys2Proof.Machine.execPairEgressTimeout p s
  | .evlogAcked via v => Sys2Proof.Machine.execEvlogAcked via v s
  | .contAcked via v => Sys2Proof.Machine.execContAcked via v s
  | .mailboxRead m => Sys2Proof.Machine.execMailboxRead m s
  | .mailboxWrite m => Sys2Proof.Machine.execMailboxWrite m s
  | .dictAccessComplete flash => Sys2Proof.Machine.execDictAccessComplete flash s
  | .heldValueApply n => Sys2Proof.Machine.execHeldValueApply n s
  | .dapRead n f => Sys2Proof.Machine.execDapRead n f s
  | .dapWrite n f => Sys2Proof.Machine.execDapWrite n f s
  | .segRead n f => Sys2Proof.Machine.execSegRead n f s
  | .segWrite n f => Sys2Proof.Machine.execSegWrite n f s
  | .segment n f => Sys2Proof.Machine.execSegment n f s
  | .blockAck n f => Sys2Proof.Machine.execBlockAck n f s
  | .segEnd n f => Sys2Proof.Machine.execSegEnd n f s
  | .dapAbort n f => Sys2Proof.Machine.execDapAbort n f s
  | .dapPendingResponse n => Sys2Proof.Machine.execDapPendingResponse n s
  | .dapTransactionTimeout n => Sys2Proof.Machine.execDapTransactionTimeout n s
  | .proxyAccess n resp => Sys2Proof.Machine.execProxyAccess n resp s
  | .cutCommit via flash => Sys2Proof.Machine.execCutCommit via flash s
  | .cutRollback via => Sys2Proof.Machine.execCutRollback via s
  | .cutConfirm via => Sys2Proof.Machine.execCutConfirm via s
  | .cutDiscard via => Sys2Proof.Machine.execCutDiscard via s
  | .cutTrialExpired => Sys2Proof.Machine.execCutTrialExpired s
  | .heartbeatSend => Sys2Proof.Machine.execHeartbeatSend s
  | .heartbeatReceive n f => Sys2Proof.Machine.execHeartbeatReceive n f s
  | .crewSilent n => Sys2Proof.Machine.execCrewSilent n s
  | .eventFrameReceive n f => Sys2Proof.Machine.execEventFrameReceive n f s
  | .dapBusOff errs => Sys2Proof.Machine.execDapBusOff errs s
  | .pcieMemRead p bar off n err => Sys2Proof.Machine.execPcieMemRead p bar off n err s
  | .pcieMemWrite p bar off l ep err => Sys2Proof.Machine.execPcieMemWrite p bar off l ep err s
  | .tqTail p q v => Sys2Proof.Machine.execTqTail p q v s
  | .cqHead p v => Sys2Proof.Machine.execCqHead p v s
  | .abort p id => Sys2Proof.Machine.execAbort p id s
  | .tqEnable via p v => Sys2Proof.Machine.execTqEnable via p v s
  | .takeEntryFetch p q => Sys2Proof.Machine.execTakeEntryFetch p q s
  | .takeEntryArrival p q entry bad => Sys2Proof.Machine.execTakeEntryArrival p q entry bad s
  | .takeSchedule p => Sys2Proof.Machine.execTakeSchedule p s
  | .takeStart p => Sys2Proof.Machine.execTakeStart p s
  | .coreRelease c => Sys2Proof.Machine.execCoreRelease c s
  | .clusterEnded c => Sys2Proof.Machine.execClusterEnded c s
  | .completionWrite p fail => Sys2Proof.Machine.execCompletionWrite p fail s
  | .perstN level => Sys2Proof.Machine.execPerstN level s
  | .hotReset => Sys2Proof.Machine.execHotReset s
  | .linkDisable => Sys2Proof.Machine.execLinkDisable s
  | .flr p => Sys2Proof.Machine.execFlr p s
  | .resetCmdModule via => Sys2Proof.Machine.execResetCmdModule via s
  | .resetCmdWarm via => Sys2Proof.Machine.execResetCmdWarm via s
  | .resetDelayExpiry => Sys2Proof.Machine.execResetDelayExpiry s
  | .powerOnReset straps => Sys2Proof.Machine.execPowerOnReset straps s
  | .moduleReset cause => Sys2Proof.Machine.execModuleReset cause s
  | .modResetNAssert => Sys2Proof.Machine.execModResetNAssert s
  | .modResetNRelease => Sys2Proof.Machine.execModResetNRelease s
  | .bootStepEnd bad fail => Sys2Proof.Machine.execBootStepEnd bad fail s
  | .fabricBootWait => Sys2Proof.Machine.execFabricBootWait s
  | .tcBootWait => Sys2Proof.Machine.execTcBootWait s
  | .directorClaim => Sys2Proof.Machine.execDirectorClaim s
  | .directorRelease via => Sys2Proof.Machine.execDirectorRelease via s
  | .powerRequestIdle via => Sys2Proof.Machine.execPowerRequestIdle via s
  | .powerRequestPark via => Sys2Proof.Machine.execPowerRequestPark via s
  | .powerRequestStandby via => Sys2Proof.Machine.execPowerRequestStandby via s
  | .quiesceComplete => Sys2Proof.Machine.execQuiesceComplete s
  | .quiesceTimeout islands => Sys2Proof.Machine.execQuiesceTimeout islands s
  | .parkWakeComplete => Sys2Proof.Machine.execParkWakeComplete s
  | .wakeN => Sys2Proof.Machine.execWakeN s
  | .powerLimiterSample p100 => Sys2Proof.Machine.execPowerLimiterSample p100 s
  | .thermalSample d tj odd => Sys2Proof.Machine.execThermalSample d tj odd s
  | .telemetrySample k j v => Sys2Proof.Machine.execTelemetrySample k j v s
  | .protectRecovery => Sys2Proof.Machine.execProtectRecovery s
  | .inputFault cause value => Sys2Proof.Machine.execInputFault cause value s
  | .vinThreshold k straps => Sys2Proof.Machine.execVinThreshold k straps s
  | .clkRefLost b => Sys2Proof.Machine.execClkRefLost b s
  | .clkRefRestored b => Sys2Proof.Machine.execClkRefRestored b s
  | .clkSrcWrite via j v => Sys2Proof.Machine.execClkSrcWrite via j v s
  | .pllRelock j => Sys2Proof.Machine.execPllRelock j s
  | .pllRelockTimeout j => Sys2Proof.Machine.execPllRelockTimeout j s
  | .pllLockLoss j => Sys2Proof.Machine.execPllLockLoss j s
  | .secTokenDebug via t => Sys2Proof.Machine.execSecTokenDebug via t s
  | .secTokenLifecycle via t => Sys2Proof.Machine.execSecTokenLifecycle via t s
  | .secTokenRevoke via t => Sys2Proof.Machine.execSecTokenRevoke via t s
  | .lifecycleCmd via v => Sys2Proof.Machine.execLifecycleCmd via v s
  | .imageOpen via n => Sys2Proof.Machine.execImageOpen via n s
  | .imageLoad via b => Sys2Proof.Machine.execImageLoad via b s
  | .imageFinish via n err => Sys2Proof.Machine.execImageFinish via n err s
  | .imageAbandon via n => Sys2Proof.Machine.execImageAbandon via n s
  | .raiseSvn via => Sys2Proof.Machine.execRaiseSvn via s
  | .debugRequest via v => Sys2Proof.Machine.execDebugRequest via v s
  | .debugEnd via v => Sys2Proof.Machine.execDebugEnd via v s
  | .heldDebugOpen => Sys2Proof.Machine.execHeldDebugOpen s
  | .debugSessionExpiry => Sys2Proof.Machine.execDebugSessionExpiry s
  | .dbgCoreHalt via c => Sys2Proof.Machine.execDbgCoreHalt via c s
  | .dbgCoreStep via c => Sys2Proof.Machine.execDbgCoreStep via c s
  | .dbgCoreResume via c => Sys2Proof.Machine.execDbgCoreResume via c s
  | .dbgMemData via => Sys2Proof.Machine.execDbgMemData via s
  | .jtagIrUpdate code => Sys2Proof.Machine.execJtagIrUpdate code s
  | .dbgPortWrite off data => Sys2Proof.Machine.execDbgPortWrite off data s
  | .dbgPortRead off => Sys2Proof.Machine.execDbgPortRead off s
  | .pcieLinkUp speed width => Sys2Proof.Machine.execPcieLinkUp speed width s
  | .pcieLinkDown => Sys2Proof.Machine.execPcieLinkDown s
  | .pcieCompletionTimeout p q => Sys2Proof.Machine.execPcieCompletionTimeout p q s
  | .dieUnreachable d => Sys2Proof.Machine.execDieUnreachable d s
  | .stackFailed k => Sys2Proof.Machine.execStackFailed k s
  | .dapUnknownCommand n f => Sys2Proof.Machine.execDapUnknownCommand n f s
  | .jtagTestLogicReset => Sys2Proof.Machine.execJtagTestLogicReset s

end Sys2Proof.Machine
end

