-- ==== Sys2Proof/Machine/Tick.lean ====
section
/-! DEFINITION. Machine/Tick.lean: a nanosecond passes (log entry 3): the step on an empty queue. The timecode counts with its rate correction
(R311, R314), the replicas follow, running cores count cycles (R39), and the run times and powered seconds count (R469, R562). -/

namespace Sys2Proof.Machine

/-- The timecode after a nanosecond at the rate correction TC_FREQ_ADJ, in units of 10^-12 (R311, R314). A replica gives its lead up only as the
timecode counts, so that no read decreases. -/
def tcTick (s : State) : State :=
  let f : Int := s.tm.frac + sext 32 (oget s 0x1107 0)
  let above := decide (1000000000000 ≤ f)
  let under := decide (f < 0)
  { s with tc := if above then s.tc + 2 else if under then s.tc else s.tc + 1,
           tm := { s.tm with
             frac := (if above then f - 1000000000000 else if under then f + 1000000000000 else f).toNat,
             rep := if under then s.tm.rep else s.tm.rep.map (fun x => if x.2 then (x.1 - 1, false) else x) } }
/-- The core counts cycles: it has been released for the take that runs. -/
def coreCounts (k : Core) : Bool :=
  match k.status with
  | .stopped => false
  | .ended => false
  | .faulted => false
  | _ => true
/-- The cycles of a nanosecond, by the clock of the cluster in MHz (R39, R545). -/
def cycTick (s : State) : State :=
  { s with cl := Vector.ofFn (fun i =>
      let k := s.cl[i]
      if coreCounts k.core then { k with core := { k.core with cyc := k.core.cyc + oget s 0x2023 (i.val + 1) } } else k) }
/-- The run times after a microsecond (R544, R562): ISLAND_RUN_TIME of powered islands, LIMITED_TIME of clusters below CLUSTER_FREQ_MAX. -/
def runTick (s : State) : State :=
  let s1 := (List.range 24).foldl (fun s i => if islandOn s i then obump s 0x2014 (i + 1) 1 else s) s
  if clustersOn s1 then
    (fins 8).foldl (fun s c => if oget s 0x2023 (c.val + 1) < oget s 0x2022 0 then obump s 0x2025 (c.val + 1) 1 else s) s1
  else s1
/-- A nanosecond passes. A module that is OFF counts no more than the time. -/
def tick (s : State) : State :=
  let s1 := { s with now := s.now + 1 }
  if 4 ≤ s.boot.kind then s1
  else
    let s2 := cycTick (if islandOn s 22 then tcTick s1 else s1)
    let s3 := if s2.now % 1000 = 0 then runTick s2 else s2
    if s3.now % 1000000000 = 0 then obump s3 0x7007 0 1 else s3

end Sys2Proof.Machine
end

