-- ==== Sys2Proof/Safety.lean ====
section
/-! DEFINITION. Safety.lean: what claims call a well-formed state: every sparse store of State in its canonical form, so that equal contents are
equal data. -/

namespace Sys2Proof.Machine

/-- The canonical form of memory: addresses strictly rising, and no entry that equals what an unlisted address reads as (log entry 6). -/
def Memory.wf (m : List Host.Cell) : Bool := mwf 0 m
/-- Memory and its poison are in canonical form. -/
def State.memWf (s : State) : Bool := Memory.wf s.mem && mwf false s.pz
/-- Clapper values and their poison are in canonical form. -/
def State.clapWf (s : State) : Bool := mwf 0 s.clapVal && mwf false s.clapPz

/-- k steps from s end in a state, with no fault and no refusal. -/
def runsTo (k : Nat) (s t : State) : Prop := Sys2Proof.core.run k s = .next t

end Sys2Proof.Machine
end

