-- ==== Sys2Proof/Claims.lean ====
section
/-! DEFINITION. Claims.lean: the vocabulary of the statements: when a control core is ready to execute an instruction, and which command performs it. -/

namespace Sys2Proof.Machine

/-- The outcome is a next state, of which P holds. -/
def Answers (o : Host.Outcome State Fault Refusal) (P : State → Prop) : Prop := ∃ t, o = .next t ∧ P t

/-- The core of cluster c runs and finds instruction i of len bytes and word w at its pc, and no register of i awaits the result of a CLAP (R36, R50). -/
def Ready (s : State) (c : Fin 8) (i : RIns) (len w : Nat) : Prop :=
  coreRuns s.cl[c].core = true ∧ fetch s c = .ins i len w ∧ regsReady s.cl[c].core i = true

/-- The command in which the core of cluster c issues an operation of a kind (R329). -/
def issueCommand (c : Fin 8) : OpKind → Option Instr
  | .tcfg => some (.tcfg c)
  | .tld => some (.tld c)
  | .tst => some (.tst c)
  | .mma => some (.mma c)
  | .vec => some (.vec c)
  | .red => some (.red c)
  | .stream => some (.stream c)
  | .gather => some (.gather c)
  | .tsend => some (.tsend c)
  | .digest => some (.digest c)
  | _ => none

/-- The command in which the core of cluster c issues a CLAP of an operation code of R307. -/
def clapCommand (c : Fin 8) : Nat → Option Instr
  | 0 => some (.clapRead c)
  | 1 => some (.clapSet c)
  | 2 => some (.clapAdd c)
  | 3 => some (.clapMax c)
  | 4 => some (.clapFadd c)
  | 5 => some (.clapSwap c)
  | 6 => some (.clapCas c)
  | _ => none

/-- The core after an instruction that retires to npc. -/
def Core.retired (k : Core) (npc : Word) : Core := { k with pc := npc, instret := k.instret + 1, step := false }

/-- The clapper operations on their way, by operation code, clapper and value. -/
def clapsOut (s : State) : List (Nat × Nat × Word) := s.clapOps.map fun m => (m.op, m.clap, m.val)
/-- The ADD that the signal of an operation sends (R48); none without SIG_EN. -/
def signalOf (e : QEntry) : List (Nat × Nat × Word) := if hSigEn e.blk then [(2, hSigClap e.blk, BitVec.ofNat 64 (hSigInc e.blk))] else []
/-- The flights of cluster c without operation id. -/
def flightsLess (s : State) (c : Fin 8) (id : Nat) : List Flight := s.cl[c].flights.filter fun f => f.e.id != id
/-- The reports on their way to the take controllers, by code, engine, issue pc, address and DETAIL. -/
def reports (s : State) : List (Nat × Nat × Nat × Nat × Nat) := s.faults.map fun f => (f.code, f.engine, f.pc, f.addr, f.detail)

/-- The last record of the event log: its code and its payload. -/
def lastEvent (s : State) : Option (Nat × Nat) := s.evlog.getLast?.map fun r => (r.code, r.pay)
/-- The request p was answered with a status, data and poison (R370): to this module at once, to another over the fabric; `rest` is what the
inbox holds beside. -/
def Replied (s t : State) (rest : List (Nat × Packet)) (p : Packet) (status : Nat) (data : List Byte) (poison : Nat) : Prop :=
  let r := respTo s p status data poison
  if p.srcModule = modNum s then t.fab.inbox = rest ++ [(6, r)] ∧ t.fab.queue = s.fab.queue
  else t.fab.inbox = rest ∧ t.fab.queue = s.fab.queue ++ [(6, r)]
/-- One response frame was sent (R491): the command it answers, the client, the transaction and STATUS. -/
def Responds (s t : State) (cmd client tid status : Nat) : Prop :=
  ∃ d, t.outs = s.outs ++ [Out.can (0x200 + myNode s) d] ∧ d.take 4 = toLE 1 cmd ++ toLE 1 client ++ toLE 1 tid ++ toLE 1 status
/-- Access x of a mailbox ended with a code and data (R501). -/
def MailboxEnds (s t : State) (m code : Nat) (data : List Byte) : Prop :=
  (mboxGet t m).status = (if code = 0 then 2 else 3) ∧ (mboxGet t m).abort = code ∧
    (code = 0 → (mboxGet t m).resultLen = data.length ∧ ∀ i, i < data.length → some (mget 0 (mboxGet t m).data i) = data[i]?) ∧
    (∀ k, k ≠ m → mboxGet t k = mboxGet s k)

end Sys2Proof.Machine
end

