-- ==== Sys2Proof/Certificates/Slice0/Obligations.lean ====
section
/-! DEFINITION. Certificates/Slice0/Obligations.lean: the statements about the module, in the order of OBLIGATIONS.json. A statement whose conclusion is
`Answers (exec c s) P` says that the command c, given in state s, is answered by a next state, and what that state holds. -/

open Sys2Proof Sys2Proof.Machine

/-- TCFG, TLD, TST, MMA, VEC, RED, STREAM, GATHER, TSEND and DIGEST issue their op block into the engine queue and retire. R43, R44, R45, R329, R330, R334. -/
def Obligations.EngineOperationsIssue : Prop :=
  ∀ (s : State) (c : Fin 8) (kind : OpKind) (i : Instr) (rs1 blk len w : Nat),
    let a := (xget s c rs1 + BitVec.ofNat 64 (64 * blk)).toNat
    let b : OpBlock := BitVec.ofNat 512 (ofLE (clmRd s.cl[c] a 64))
    let q := qOf kind b
    issueCommand c kind = some i → Ready s c (.ob kind rs1 blk) len w →
    s.cl[c].core.step = false → s.cl[c].core.wstores = [] → a % 64 = 0 → a + 64 ≤ 0x10000 →
    (qGet s.cl[c] q).length < qCap q → s.cl[c].vq.length + (slotsOf kind b).length ≤ 32 →
    Answers (exec i s) fun t =>
      (qGet t.cl[c] q).map (fun e => (e.kind, e.blk, e.pc, e.instr)) =
        (qGet s.cl[c] q).map (fun e => (e.kind, e.blk, e.pc, e.instr)) ++ [(kind, b, s.cl[c].core.pc.toNat, w)] ∧
      (q ≠ .vq → t.cl[c].vq.map (fun e => e.kind) = s.cl[c].vq.map (fun e => e.kind) ++ slotsOf kind b) ∧
      (∀ q', q' ≠ q → q' ≠ .vq → qGet t.cl[c] q' = qGet s.cl[c] q') ∧
      t.cl[c].core = s.cl[c].core.retired (s.cl[c].core.pc + BitVec.ofNat 64 len) ∧
      t.cl[c].clm = s.cl[c].clm ∧ t.cl[c].reg = s.cl[c].reg ∧ t.cl[c].flights = s.cl[c].flights ∧
      (∀ d, d ≠ c → t.cl[d] = s.cl[d]) ∧ t.hf = s.hf ∧ t.clapVal = s.clapVal ∧ t.faults = s.faults ∧
      (oget s 0x8010 0 = 0 → t.mem = s.mem ∧ t.obj = s.obj)

/-- An op block whose queue is full, or with a window store outstanding, stalls at issue; a bad op block address faults with cause 24 or 25. R43, R46, R60, R62, R63, R240, R330. -/
def Obligations.IssueStallsAndFaults : Prop :=
  ∀ (s : State) (c : Fin 8) (kind : OpKind) (i : Instr) (rs1 blk len w : Nat),
    let a := (xget s c rs1 + BitVec.ofNat 64 (64 * blk)).toNat
    let b : OpBlock := BitVec.ofNat 512 (ofLE (clmRd s.cl[c] a 64))
    let q := qOf kind b
    issueCommand c kind = some i → Ready s c (.ob kind rs1 blk) len w →
    (a % 64 = 0 → a + 64 ≤ 0x10000 →
      (s.cl[c].core.wstores ≠ [] ∨ qCap q ≤ (qGet s.cl[c] q).length ∨ 32 < s.cl[c].vq.length + (slotsOf kind b).length) →
      Answers (exec i s) fun t => t = modCore s c fun k => { k with status := .stalled }) ∧
    ((a % 64 ≠ 0 ∨ 0x10000 < a + 64) →
      Answers (exec i s) fun t =>
        t.cl = (modCore s c fun k => { k with status := .faulted }).cl ∧
        t.faults.map (fun f => (f.code, f.cluster, f.engine, f.pc, f.addr, f.instr, f.detail)) =
          s.faults.map (fun f => (f.code, f.cluster, f.engine, f.pc, f.addr, f.instr, f.detail)) ++
            [if a % 64 ≠ 0 then (5, c.val, 0, s.cl[c].core.pc.toNat, a, w, 24) else (6, c.val, 0, s.cl[c].core.pc.toNat, a, w, 25)] ∧
        t.mem = s.mem ∧ t.obj = s.obj ∧ t.hf = s.hf ∧ t.clapVal = s.clapVal)

/-- Each CLAP reads its operands, enters YQ and retires, and a returned value's register awaits it. R50, R296, R298, R332. -/
def Obligations.ClapsIssue : Prop :=
  ∀ (s : State) (c : Fin 8) (op rd a b d : Nat) (i : Instr) (len w : Nat),
    clapCommand c op = some i → Ready s c (.clap op rd a b d) len w →
    s.cl[c].core.step = false → s.cl[c].core.wstores = [] → s.cl[c].yq.length < 32 →
    Answers (exec i s) fun t =>
      t.cl[c].yq.map (fun e => (e.kind, e.clap, e.pc)) = s.cl[c].yq.map (fun e => (e.kind, e.clap, e.pc)) ++
        [(.clap, { op := op, target := xget s c a, val := if op = 0 then 0 else xget s c b, cmp := if op = 6 then xget s c d else 0, rd := rd },
          s.cl[c].core.pc.toNat)] ∧
      t.cl[c].core = { s.cl[c].core.retired (s.cl[c].core.pc + BitVec.ofNat 64 len) with
        awaits := if (op = 0 ∨ op = 4 ∨ op = 5 ∨ op = 6) ∧ rd ≠ 0 then s.cl[c].core.awaits ++ [rd] else s.cl[c].core.awaits } ∧
      (∀ q, q ≠ .yq → qGet t.cl[c] q = qGet s.cl[c] q) ∧ t.cl[c].clm = s.cl[c].clm ∧ (∀ e, e ≠ c → t.cl[e] = s.cl[e]) ∧
      t.clapVal = s.clapVal ∧ t.clapOps = s.clapOps ∧ t.hf = s.hf ∧ (oget s 0x8010 0 = 0 → t.mem = s.mem ∧ t.obj = s.obj)

/-- CWAIT waits at its clapper, TEND ends the program, FENCE and FENCE.I retire, a CSR read writes rd. R36, R38, R39, R50, R57, R333, R576. -/
def Obligations.CwaitTendFenceAndCsr : Prop :=
  ∀ (s : State) (c : Fin 8) (len w : Nat), s.cl[c].core.step = false →
    let nxt := s.cl[c].core.pc + BitVec.ofNat 64 len
    (∀ (eq : Bool) (a b : Nat), Ready s c (.cwait eq a b) len w → s.cl[c].core.wstores = [] →
      let n := (xget s c a).toNat % 16384
      protOk s (partOf s c) (clapAddr n) 64 false = true →
      Answers (exec (.cwait c) s) fun t =>
        t = modCore (traceIssue s c w) c fun k => { k with status := .cwait n eq (xget s c b) s.now }) ∧
    (Ready s c .tend len w → s.cl[c].core.wstores = [] →
      Answers (exec (.tend c) s) fun t =>
        t = cset (modCore (traceIssue s c w) c fun k => { k with status := .ended, instret := k.instret + 1 }) c 0x4002 0 3) ∧
    (Ready s c .fence len w → s.cl[c].core.wstores = [] → Answers (exec (.fence c) s) fun t => t = modCore s c fun k => k.retired nxt) ∧
    (Ready s c .fenceI len w → Answers (exec (.fenceI c) s) fun t => t = modCore s c fun k => k.retired nxt) ∧
    (∀ rd n : Nat, Ready s c (.csr rd n) len w →
      Answers (exec (.csrRead c) s) fun t => t = modCore s c fun k => (xput k rd (BitVec.ofNat 64 (csrVal s c n))).retired nxt)

/-- With a debug session open each issue writes one 16-byte trace entry at its place in the ring and counts it; else nothing. R576. -/
def Obligations.IssueTraceEntry : Prop :=
  ∀ (s : State) (c : Fin 8) (w : Nat),
    ((oget s 0x8010 0 = 0 ∨ oget s 0x8041 0 = 0) → traceIssue s c w = s) ∧
    (oget s 0x8010 0 ≠ 0 → oget s 0x8041 0 ≠ 0 → oget s 0x2001 0 ≤ 1 →
      let a := localPart (oget s 0x8040 0) + oget s 0x8042 0 % (oget s 0x8041 0 / 16) * 16
      rdBytes (traceIssue s c w) a 16 =
        toLE 1 c.val ++ toLE 1 (partOf s c).val ++ toLE 2 s.cl[c].core.pc.toNat ++ toLE 4 w ++ toLE 8 (tcAt s c.val) ∧
      (∀ x, (x < a ∨ a + 16 ≤ x) → rdByte (traceIssue s c w) x = rdByte s x) ∧
      oget (traceIssue s c w) 0x8042 0 = min (oget s 0x8042 0 + 1) (objMax 0x8042 0))

/-- ECALL and, outside a level 2 session, EBREAK fault with causes 8 and 3; in one EBREAK halts the core; a bad fetch faults. R58, R59, R60, R61, R575. -/
def Obligations.EcallEbreakAndFetchFaults : Prop :=
  ∀ (s : State) (c : Fin 8) (len w : Nat),
    let faulted (cause code instr : Nat) (t : State) : Prop :=
      t.cl = (modCore s c fun k => { k with status := .faulted }).cl ∧
      t.faults.map (fun f => (f.part, f.code, f.cluster, f.engine, f.pc, f.addr, f.instr, f.detail)) =
        s.faults.map (fun f => (f.part, f.code, f.cluster, f.engine, f.pc, f.addr, f.instr, f.detail)) ++
          [((partOf s c).val, code, c.val, 0, s.cl[c].core.pc.toNat, 0, instr, cause)] ∧
      t.mem = s.mem ∧ t.obj = s.obj ∧ t.clapVal = s.clapVal ∧ t.hf = s.hf ∧ t.evlog = s.evlog
    (Ready s c .ecall len w → Answers (exec (.ecall c) s) (faulted 8 14 w)) ∧
    (Ready s c .ebreak len w → debugOn s c = false → Answers (exec (.ebreak c) s) (faulted 3 14 w)) ∧
    (Ready s c .ebreak len w → debugOn s c = true →
      Answers (exec (.ebreak c) s) fun t =>
        t.cl = (modCore s c fun k => { k.retired (k.pc + BitVec.ofNat 64 len) with halted := true }).cl ∧
        t.faults = s.faults ∧ t.mem = s.mem ∧ t.hf = s.hf) ∧
    (∀ cause, coreRuns s.cl[c].core = true → fetch s c = .bad cause w →
      Answers (exec (.baseInstruction c) s) (faulted cause (causeCode cause) w)) ∧
    causeCode 0 = 5 ∧ causeCode 1 = 6 ∧ causeCode 2 = 14

/-- LUI, AUIPC, JAL, JALR, branches and the arithmetic of the base and M sets: rd, the pc, and nothing else. R36. -/
def Obligations.BaseInstructionResults : Prop :=
  ∀ (s : State) (c : Fin 8) (len w : Nat), s.cl[c].core.step = false →
    let pc := s.cl[c].core.pc
    let nxt := pc + BitVec.ofNat 64 len
    let gives (f : Core → Core) : Prop := Answers (exec (.baseInstruction c) s) fun t => t = modCore s c f
    (∀ rd imm, Ready s c (.lui rd imm) len w → gives fun k => (xput k rd imm).retired nxt) ∧
    (∀ rd imm, Ready s c (.auipc rd imm) len w → gives fun k => (xput k rd (pc + imm)).retired nxt) ∧
    (∀ rd imm, Ready s c (.jal rd imm) len w → gives fun k => (xput k rd nxt).retired (pc + imm)) ∧
    (∀ rd a imm, Ready s c (.jalr rd a imm) len w →
      gives fun k => (xput k rd nxt).retired ((xget s c a + imm) &&& 0xFFFFFFFFFFFFFFFE#64)) ∧
    (∀ f3 a b imm, Ready s c (.br f3 a b imm) len w →
      gives fun k => k.retired (if brTaken f3 (xget s c a) (xget s c b) then pc + imm else nxt)) ∧
    (∀ wd f rd a imm, Ready s c (.opi wd f rd a imm) len w → gives fun k => (xput k rd (alu wd f (xget s c a) imm)).retired nxt) ∧
    (∀ wd f rd a b, Ready s c (.op wd f rd a b) len w →
      gives fun k => (xput k rd (alu wd f (xget s c a) (xget s c b))).retired nxt)

/-- x0 reads 0 and discards writes; any other register reads back what is written and leaves the rest alone. R36. -/
def Obligations.RegisterZeroDiscardsWrites : Prop :=
  (∀ (k : Core) (v : Word), xput k 0 v = k) ∧ (∀ (s : State) (c : Fin 8), xget s c 0 = 0) ∧
  (∀ (s : State) (c : Fin 8) (r q : Nat) (v : Word), 1 ≤ r → r < 32 →
    xget (modCore s c fun k => xput k r v) c r = v ∧ (q ≠ r → xget (modCore s c fun k => xput k r v) c q = xget s c q))

/-- Loads, stores, LR, SC and AMO reach the core's own memory; every other byte and the rest of the module stay as before. R36, R37, R38, R60. -/
def Obligations.CoreLocalMemoryAccesses : Prop :=
  ∀ (s : State) (c : Fin 8) (len w : Nat), s.cl[c].core.step = false →
    let nxt := s.cl[c].core.pc + BitVec.ofNat 64 len
    let put (a : Nat) (l : List Byte) (k : Cluster) : Cluster := { k with clm := clmPut k.clmDraw k.clm a l }
    (∀ f3 rd a imm, Ready s c (.load f3 rd a imm) len w →
      let ad := (xget s c a + imm).toNat
      ad < 2 ^ 63 →
      (inClm ad (accWidth f3) = true → Answers (exec (.clmAccess c) s) fun t =>
        t = modCore s c fun k => (xput k rd (loadVal f3 (clmRd s.cl[c] ad (accWidth f3)))).retired nxt) ∧
      (inClm ad (accWidth f3) = false → Answers (exec (.clmAccess c) s) fun t => t = coreFault s c 5 ad w)) ∧
    (∀ f3 a b imm, Ready s c (.store f3 a b imm) len w →
      let ad := (xget s c a + imm).toNat
      ad < 2 ^ 63 →
      (inClm ad (accWidth f3) = true → Answers (exec (.clmAccess c) s) fun t =>
        t = modC s c fun k => { put ad (toLE (accWidth f3) (xget s c b).toNat) k with core := k.core.retired nxt }) ∧
      (inClm ad (accWidth f3) = false → Answers (exec (.clmAccess c) s) fun t => t = coreFault s c 7 ad w)) ∧
    (∀ (d : Bool) (rd a : Nat), Ready s c (.lr d rd a) len w →
      let n := if d then 8 else 4
      let ad := (xget s c a).toNat
      ad % n = 0 → inClm ad n = true → Answers (exec (.clmAccess c) s) fun t =>
        t = modCore s c fun k => { (xput k rd (loadVal (if d then 3 else 2) (clmRd s.cl[c] ad n))).retired nxt with resv := some (ad, n) }) ∧
    (∀ (d : Bool) (rd a b : Nat), Ready s c (.sc d rd a b) len w →
      let n := if d then 8 else 4
      let ad := (xget s c a).toNat
      ad % n = 0 → inClm ad n = true → Answers (exec (.clmAccess c) s) fun t =>
        t = modC s c fun k => { (if s.cl[c].core.resv = some (ad, n) then put ad (toLE n (xget s c b).toNat) k else k) with
          core := { (xput k.core rd (if s.cl[c].core.resv = some (ad, n) then 0 else 1)).retired nxt with resv := none } }) ∧
    (∀ (f5 : Nat) (d : Bool) (rd a b : Nat), Ready s c (.amo f5 d rd a b) len w →
      let n := if d then 8 else 4
      let ad := (xget s c a).toNat
      let old := clmRd s.cl[c] ad n
      let new := if d then (amoVal f5 (BitVec.ofNat 64 (ofLE old)) (xget s c b)).toNat
        else (amoVal f5 (BitVec.ofNat 32 (ofLE old)) ((xget s c b).truncate 32)).toNat
      ad % n = 0 → inClm ad n = true → Answers (exec (.clmAccess c) s) fun t =>
        t = modC s c fun k => { put ad (toLE n new) k with core := (xput k.core rd (loadVal (if d then 3 else 2) old)).retired nxt })

/-- A window load waits for its response; a window store retires and is outstanding; both obey alignment and the protection regions. R37, R46, R60, R368, R371. -/
def Obligations.WindowAccessesStart : Prop :=
  ∀ (s : State) (c : Fin 8) (f3 r a : Nat) (imm : Word) (len w : Nat), s.cl[c].core.step = false → 2 ^ 63 ≤ (xget s c a + imm).toNat →
    let ad := (xget s c a + imm).toNat
    let g := ad - 2 ^ 63
    let n := accWidth f3
    let nxt := s.cl[c].core.pc + BitVec.ofNat 64 len
    (Ready s c (.load f3 r a imm) len w →
      (ad % n ≠ 0 → Answers (exec (.windowLoad c) s) fun t => t = coreFault s c 4 ad w) ∧
      (ad % n = 0 → isLocal s g = true → protOk s (partOf s c) (localPart g) n false = true → Answers (exec (.windowLoad c) s) fun t =>
        t = modCore s c fun k => { k with status := .winLoad r n (decide (f3 < 4)) g false none }) ∧
      (ad % n = 0 → isLocal s g = false → Answers (exec (.windowLoad c) s) fun t =>
        t.cl[c].core = { s.cl[c].core with status := .winLoad r n (decide (f3 < 4)) g true none } ∧
        t.reqs.map (fun q => (q.why, q.pkt.type, q.pkt.addr, q.pkt.len, q.pkt.dest)) =
          s.reqs.map (fun q => (q.why, q.pkt.type, q.pkt.addr, q.pkt.len, q.pkt.dest)) ++ [(.winLoad c, 2, localPart g, n, modulePart g)] ∧
        t.mem = s.mem ∧ t.obj = s.obj)) ∧
    (∀ b, Ready s c (.store f3 a b imm) len w →
      let data := toLE n (xget s c b).toNat
      let st (remote : Bool) : WStore := { pc := s.cl[c].core.pc.toNat, addr := g, data := data, remote := remote, done := none }
      (ad % n ≠ 0 → Answers (exec (.windowStore c) s) fun t => t = coreFault s c 6 ad w) ∧
      (ad % n = 0 → (∀ k, region (localPart g) ≠ .clap k) → isLocal s g = true → protOk s (partOf s c) (localPart g) n true = true →
        Answers (exec (.windowStore c) s) fun t =>
          t = modCore s c fun k => { k.retired nxt with wstores := k.wstores ++ [st false] }) ∧
      (ad % n = 0 → (∀ k, region (localPart g) ≠ .clap k) → isLocal s g = false → paired s = false → Answers (exec (.windowStore c) s) fun t =>
        t.cl[c].core = { s.cl[c].core.retired nxt with wstores := s.cl[c].core.wstores ++ [st true] } ∧
        t.reqs.map (fun q => (q.why, q.pkt.type, q.pkt.addr, q.pkt.data)) =
          s.reqs.map (fun q => (q.why, q.pkt.type, q.pkt.addr, q.pkt.data)) ++
            [(.winStore c s.cl[c].core.pc.toNat g, 1, localPart g, data)] ∧ t.mem = s.mem ∧ t.obj = s.obj))

/-- The response of a local window load writes rd and releases the core, or faults on poison; a local window store is performed when acknowledged. R37, R46, R49, R59. -/
def Obligations.WindowResponses : Prop :=
  ∀ (s : State) (c : Fin 8), s.cl[c].core.step = false → paired s = false →
    (∀ (rd n g len w : Nat) (sg : Bool) (i : RIns) (err : MemErr), s.cl[c].core.status = .winLoad rd n sg g false none → fetch s c = .ins i len w →
      len = (if w % 4 = 3 then 4 else 2) →
      let a := localPart g
      let value (l : List Byte) : Word := if sg then sxW (8 * n) (ofLE l) else BitVec.ofNat 64 (ofLE l)
      let released (k : Core) (l : List Byte) : Core :=
        (xput { k with status := .running } rd (value l)).retired (s.cl[c].core.pc + BitVec.ofNat 64 len)
      ((∀ k, region a ≠ .clap k) → anyMesh s (16 * c.val) a n = false →
        Answers (exec (.windowLoadResponse c err) s) fun t =>
          t = modCore (meshDone s (16 * c.val) false a n) c fun k => released k (rdBytes s a n)) ∧
      (∀ k, region a = .clap k → clapBad s k = false → err ≠ .uncorrectable →
        Answers (exec (.windowLoadResponse c err) s) fun t =>
          t.cl[c].core = released s.cl[c].core (slice (toLE 8 (clapGet s k).toNat) (a % 8) n) ∧ (∀ d, d ≠ c → t.cl[d] = s.cl[d]) ∧
          t.mem = s.mem ∧ t.clapVal = s.clapVal ∧ t.clapPz = s.clapPz) ∧
      (((∀ k, region a ≠ .clap k) ∧ anyMesh s (16 * c.val) a n = true) ∨ (∃ k, region a = .clap k ∧ clapBad s k = true ∧ err ≠ .uncorrectable) →
        Answers (exec (.windowLoadResponse c err) s) fun t =>
          t.cl = (modCore s c fun k => { k with status := .faulted }).cl ∧
          t.faults.map (fun f => (f.code, f.pc, f.addr)) = s.faults.map (fun f => (f.code, f.pc, f.addr)) ++
            [(7, s.cl[c].core.pc.toNat, 2 ^ 63 + g)])) ∧
    (∀ (st : WStore) (rest : List WStore), s.cl[c].core.wstores = st :: rest → st.remote = false → st.done = none →
      Answers (exec (.windowStoreAck c 0) s) fun t =>
        t.cl = (modCore s c fun k => { k with wstores := rest }).cl ∧
        rdBytes t (localPart st.addr) st.data.length = st.data ∧
        (∀ x, (x < localPart st.addr ∨ localPart st.addr + st.data.length ≤ x) → rdByte t x = rdByte s x) ∧
        t.obj = s.obj ∧ t.clapVal = s.clapVal ∧ t.hf = s.hf)

/-- A stalled instruction resumes as if it issued now, and the value of a CLAP reaches its register, which then awaits it no more. R43, R46, R50. -/
def Obligations.ResumedIssueAndClapResult : Prop :=
  ∀ (s : State) (c : Fin 8),
    (let s1 := modCore s c fun k => { k with status := .running }
     ∀ (i : Instr) (len w : Nat), s.cl[c].core.status = .stalled →
      ((∃ k rs1 blk, Ready s1 c (.ob k rs1 blk) len w ∧ issueCommand c k = some i) ∨
        (∃ op rd a b d, Ready s1 c (.clap op rd a b d) len w ∧ clapCommand c op = some i) ∨
        (∃ eq a b, Ready s1 c (.cwait eq a b) len w ∧ i = .cwait c) ∨ (Ready s1 c .tend len w ∧ i = .tend c)) →
      Answers (exec (.issueResume c) s) fun t => exec i s1 = .next t) ∧
    (∀ (n rd source : Nat) (v : Word), (s.clapRes.filter (fun r => r.1 == c))[n]? = some (c, rd, v, source) → 1 ≤ rd → rd < 32 →
      (∀ r, r ∈ (s.clapRes.filter (fun r => r.1 == c)).take n → r.2.2.2 ≠ source) →
      Answers (exec (.clapResultArrival c n) s) fun t =>
        xget t c rd = v ∧ t.cl[c].core.awaits = s.cl[c].core.awaits.erase rd ∧ t.cl[c].core.pc = s.cl[c].core.pc ∧
        t.clapRes.length + 1 = s.clapRes.length ∧ (∀ d, d ≠ c → t.cl[d] = s.cl[d]) ∧ t.mem = s.mem ∧ t.obj = s.obj ∧ t.clapVal = s.clapVal)

/-- A local CLAP dispatches to its home, a tile load joins the tile path, and an operation whose gate is shut waits at the head. R47, R51, R55, R297, R298. -/
def Obligations.DispatchFromQueues : Prop :=
  ∀ (s : State) (c : Fin 8) (e : QEntry) (rest : List QEntry), e.checked = false → e.waitSince = none →
    (s.cl[c].yq = e :: rest → e.kind = .clap → clapCheck s c e.clap = none → isLocal s e.clap.target.toNat = true → paired s = false →
      Answers (exec (.opDispatch c .yq false) s) fun t =>
        t.cl[c].yq = rest ∧ t.cl[c].mq = s.cl[c].mq ∧ t.cl[c].vq = s.cl[c].vq ∧ t.cl[c].core = s.cl[c].core ∧
        clapsOut t = clapsOut s ++ [(e.clap.op, (localPart e.clap.target.toNat - clapBase) / 64, e.clap.val)] ∧
        (t.clapOps.getLast?).map (fun m => (m.cmp, m.ret)) = some (e.clap.cmp, if clapReturns e.clap.op then .core c e.clap.rd else .none) ∧
        t.mem = s.mem ∧ t.obj = s.obj ∧ t.clapVal = s.clapVal ∧ t.faults = s.faults) ∧
    (s.cl[c].mq = e :: rest → e.kind = .tld → hGateEn e.blk = false → gateCheck s c e = none → held s.cl[c] e = false → tileFault s c e true = none →
      (tileF e.blk).isReel = false →
      Answers (exec (.opDispatch c .mq false) s) fun t =>
        t.cl[c].mq = rest ∧ t.cl[c].flights.map (fun f => (f.e, f.phase, f.wr)) = s.cl[c].flights.map (fun f => (f.e, f.phase, f.wr)) ++ [(e, 0, wrSet e)] ∧
        t.mem = s.mem ∧ t.faults = s.faults ∧ t.cl[c].reg = s.cl[c].reg) ∧
    (∀ q, qGet s.cl[c] q = e :: rest → e.kind ≠ .clap → e.kind ≠ .prepA → e.kind ≠ .prepB → e.kind ≠ .grade → gateCheck s c e = none →
      hGateEn e.blk = true → s.freed.contains (.gate c e.id) = false →
      Answers (exec (.opDispatch c q false) s) fun t => t = modHead s c q fun x => { x with waitSince := some s.now })

/-- A gate or a CWAIT that outlasts GATE_TIMEOUT faults with E_TIMEOUT; a GATE_TIMEOUT of 0 means no limit. R47, R50, R302, R303. -/
def Obligations.GateTimeouts : Prop :=
  ∀ (s : State) (c : Fin 8),
    (cget s c 0x4005 0 = 0 → ∀ q, Answers (exec (.gateTimeoutExpiry c q) s) fun t => t = s) ∧
    (cget s c 0x4005 0 ≠ 0 →
      (∀ (q : QSel) (e : QEntry) (rest : List QEntry) (since : Nat), qGet s.cl[c] q = e :: rest → e.kind ≠ .mma → e.kind ≠ .clap → e.waitSince = some since →
        hGateEn e.blk = true → s.freed.contains (.gate c e.id) = false → elapsedUs s since (cget s c 0x4005 0) = true →
        Answers (exec (.gateTimeoutExpiry c (some q)) s) fun t =>
          qGet t.cl[c] q = (qGet s.cl[c] q).filter (fun x => !(x.id == e.id && x.kind == e.kind)) ∧
          reports t = reports s ++ [(12, engineOf e.kind e.blk, e.pc, clapGlobal s (hGateClap e.blk), 0xF0)] ∧
          t.mem = s.mem ∧ t.obj = s.obj ∧ t.clapVal = s.clapVal) ∧
      (∀ (n : Nat) (eq : Bool) (v : Word) (since : Nat), s.cl[c].core.status = .cwait n eq v since → s.cl[c].core.halted = false →
        s.freed.contains (.cwait c) = false → elapsedUs s since (cget s c 0x4005 0) = true →
        Answers (exec (.gateTimeoutExpiry c none) s) fun t =>
          t.cl = (modCore s c fun k => { k with status := .faulted }).cl ∧
          reports t = reports s ++ [(12, 0, s.cl[c].core.pc.toNat, clapGlobal s n, 28)] ∧ t.mem = s.mem ∧ t.obj = s.obj))

/-- A plain tile load fills its region from memory, a plain tile store writes its rows, and each performs its signal and retires. R48, R166, R167, R172, R173, R176. -/
def Obligations.TileTransfersComplete : Prop :=
  ∀ (s : State) (c : Fin 8) (n : Nat) (fl : Flight), paired s = false → onPath s.cl[c] fl.e.id = true → s.cl[c].egress = [] → fl.phase = 0 →
    let f := tileF fl.e.blk
    f.isReel = false → f.reg < 10 →
    (nthFlight s.cl[c] .tld n = some fl → f.split = 0 → tilePoison s c fl true = none → (tileCvt fl.e.blk true (tileRegFmt s c f)).plain = true →
      Answers (exec (.tldComplete c n none) s) fun t =>
        (∀ r, r < 10 → treg t c r = if r = f.reg ∧ f.empty = false then (treg s c r).write f.c0 f.cols (tileRead s c f (localPart f.base)) else treg s c r) ∧
        t.cl[c].flights = flightsLess s c fl.e.id ∧ clapsOut t = clapsOut s ++ signalOf fl.e ∧ t.mem = s.mem ∧ t.pz = s.pz ∧ t.faults = s.faults ∧ t.obj = s.obj) ∧
    (nthFlight s.cl[c] .tst n = some fl → tilePoison s c fl false = none → (tileCvt fl.e.blk false (treg s c f.reg).fmt).plain = true →
      Answers (exec (.tstWriteAck c n none) s) fun t =>
        t.mem = (if f.empty then s.mem else ((tstRows s c fl).foldl (fun u x => emitRow u c (opRep s c fl.e 0 0 0) x.1 x.2) s).mem) ∧
        t.cl[c].reg = s.cl[c].reg ∧ t.cl[c].flights.map (fun x => x.e.id) = (flightsLess s c fl.e.id).map (fun x => x.e.id) ∧
        clapsOut t = clapsOut s ++ signalOf fl.e ∧ t.faults = s.faults ∧ t.obj = s.obj)

/-- A VEC or RED in flight writes its results, is counted, performs its signal and retires. R48, R209, R232, R234. -/
def Obligations.VectorOperationsComplete : Prop :=
  ∀ (s : State) (c : Fin 8) (n : Nat) (fl : Flight), paired s = false → fl.phase = 0 →
    (s.cl[c].flights.filter (fun f => f.e.kind == .vec || f.e.kind == .red))[n]? = some fl →
    ((s.cl[c].flights.filter (fun f => f.e.kind == .vec || f.e.kind == .red)).take n).any (fun f => spansMeet (vecSpans s c f.e) (vecSpans s c fl.e)) = false →
    spansMeet (gradeLeft s c fl.e.id) (vecSpans s c fl.e) = false →
    vSrcReelEn fl.e.blk = false → vDstReelEn fl.e.blk = false → (vEmpty fl.e.blk = false → vecPoison s c fl.e = none) →
    Answers (exec (.vqOpComplete c n) s) fun t =>
      t.mem = (if vEmpty fl.e.blk then s else vecRun s c fl).mem ∧
      t.cl[c].flights.map (fun x => x.e.id) = (flightsLess s c fl.e.id).map (fun x => x.e.id) ∧ t.cl[c].vq = s.cl[c].vq ∧
      cget t c 0x4041 (if fl.e.kind = .red then 2 else 1) = min (cget s c 0x4041 (if fl.e.kind = .red then 2 else 1) + 1) (objMax (cobj c 0x4041) (if fl.e.kind = .red then 2 else 1)) ∧
      clapsOut t = clapsOut s ++ signalOf fl.e ∧ t.faults = s.faults

/-- The next unit of an MMA is fed, committed into its plane, given its verdict and drained. R183, R186, R187, R196, R197, R202, R203, R258. -/
def Obligations.MatrixPipeline : Prop :=
  ∀ (s : State) (c : Fin 8) (r : MmaRun) (fl : Flight), s.cl[c].mma = [r] → s.cl[c].flights = [fl] → fl.e.id = r.id →
    let b := fl.e.blk
    (r.next < mmaUnits b → unitHeld b r r.next = false → (∀ i ∈ unitElems b r.next, elemPoison s c b i = none) → ((mmaF b).chain = false ∨ r.next = 0) →
      Answers (exec (.mmaElementStart c none) s) fun t =>
        t.cl[c].mma.map (fun x => (x.id, x.next)) = [(r.id, r.next + 1)] ∧
        (t.cl[c].mma.flatMap (fun x => x.units)).map (fun x => (x.u, x.res)) = (if (mmaF b).chain then [] else r.units.map (fun x => (x.u, x.res))) ++
          [(r.next, (unitElems b r.next).map fun i => (i, (elemRun s c b i none).1))] ∧
        t.cl[c].reg = s.cl[c].reg ∧ t.mem = s.mem ∧ t.obj = s.obj ∧ t.faults = s.faults) ∧
    (∀ u vs, r.units.find? (fun x => x.stage == 1) = some u → checkMode s ≠ 0 → (∀ v ∈ vs, v = Verdict.pass ∨ v = .residue) →
      Answers (exec (.mmaElementComplete c vs) s) fun t =>
        t = modUnit (cbump (setFlags (commitUnit s c b u) c 1 u.flags) c 0x4031 2 (if (mmaF b).chain then 1 else u.res.length)) c r.id u.u
          fun x => { x with stage := 2 }) ∧
    (∀ u x rest, r.units.find? (fun x => x.stage == 2) = some u → u.res = x :: rest → checkMode s ≠ 0 → cget s c 0x4033 0 = 0 →
      (oget s 0x7010 1 = 0 ∨ incidentCount s 1 (16 * c.val + 1) + 1 < oget s 0x7010 1) →
      Answers (exec (.residueVerdict c [.residue]) s) fun t =>
        reports t = reports s ++ [(8, engineOf fl.e.kind b, fl.e.pc, 0, mmaDet 6 5 x.1)] ∧
        ((t.cl[c].mma.flatMap (fun y => y.units)).find? (fun y => y.u == u.u)).map (fun y => y.bad) = some true ∧
        (∀ i j, i < (mmaF b).m → j < (mmaF b).n →
          (treg t c (planeOf b x.1)).bad ((cOrg b x.1).1.toNat + i) ((cOrg b x.1).2.toNat + j) = true)) ∧
    (∀ u, r.units.find? (fun x => x.stage == 3 && hasGrade b) = some u →
      let i := (u.res.head?.map (fun x => x.1)).getD 0
      let pl : Fin 2 := if planeOf b i = 8 then 0 else 1
      s.cl[c].drainBuf[pl] = none →
      Answers (exec (.drainRead c none none) s) fun t =>
        t.cl[c].drainBuf[pl] = some (r.id, u.u) ∧ t.cl[c].reg = s.cl[c].reg ∧ t.mem = s.mem ∧ t.faults = s.faults ∧
        ((t.cl[c].mma.flatMap (fun x => x.units)).find? (fun x => x.u == u.u)).map (fun x => (x.stage, x.drained.map (fun y => y.1))) =
          ((r.units.find? (fun x => x.u == u.u)).map (fun _ => (4, u.res.map (fun x => x.1)))))

/-- A prep slot binds its MMA's programs, completes its transformation and leaves VQ; a graded unit frees its drain buffer. R240, R241, R242, R255, R257, R258, R261, R263. -/
def Obligations.PrepAndGradePrograms : Prop :=
  ∀ (s : State) (c : Fin 8),
    (∀ e rest, s.cl[c].vq = e :: rest → (e.kind = .prepA ∨ e.kind = .prepB) → e.kind ∈ progRoles e.blk → e.checked = false → prepHeld s.cl[c] e = false →
      s.cl[c].progs.any (fun p => p.mma == e.mma) = false → mmaCheck s c e.blk = none → mmaEmpty e.blk = false →
      (∀ f ∈ s.cl[c].flights, f.e.kind ≠ .vec ∧ f.e.kind ≠ .red) →
      Answers (exec (.prepSlotStart c) s) fun t =>
        t.cl[c].progs = s.cl[c].progs ++ bindProgs s c e.blk e.mma ∧ (t.cl[c].vq.head?).map (fun x => (x.id, x.kind, x.checked)) = some (e.id, e.kind, true) ∧
        t.cl[c].reg = s.cl[c].reg ∧ t.mem = s.mem ∧ t.obj = s.obj ∧ t.faults = s.faults) ∧
    (∀ e rest pg, s.cl[c].vq = e :: rest → (e.kind = .prepA ∨ e.kind = .prepB) → e.checked = true →
      s.cl[c].progs.find? (fun p => p.mma == e.mma && p.role == e.kind) = some pg →
      let r := (prepElems e.blk e.kind).foldl (fun st i => match st.2 with
        | some _ => st
        | none => ((prepElem st.1 c e pg i).1, (prepElem st.1 c e pg i).2.map (fun f => (i, f)))) (s, (none : Option (Nat × FaultRep)))
      r.2 = none →
      Answers (exec (.prepSlotComplete c none) s) fun t => t.cl[c].vq = rest ∧ t.cl[c].reg = r.1.cl[c].reg ∧ t.obj = r.1.obj ∧ t.mem = s.mem ∧ t.faults = s.faults) ∧
    (∀ e fl u pg, gradeHead s c = some (e, fl, u, pg) → slotsMissing pg u = [] → s.cl[c].sendStall = [] →
      Answers (exec (.gradeElementEnd c) s) fun t =>
        t.cl[c].drainBuf = s.cl[c].drainBuf.map (fun x => if x = some (fl.e.id, u.u) then none else x) ∧
        ((∀ i, (portOf pg.bind i).kind ≠ 7) → t.cl[c].vq.map (fun x => x.id) = (if u.u + 1 = mmaUnits e.blk then s.cl[c].vq.tail else s.cl[c].vq).map (fun x => x.id))) ∧
    (∀ id u det p rest fl, s.cl[c].sendBuf = (id, u, det, p) :: rest → s.cl[c].sendStall = [] → flightOf s c id = some fl → paired s = false →
      Answers (exec (.sendBufferDrain c) s) fun t =>
        t.cl[c].sendBuf = rest ∧ t.reqs.map (fun q => (q.pkt.type, q.pkt.dest, q.pkt.addr, q.pkt.data)) =
          s.reqs.map (fun q => (q.pkt.type, q.pkt.dest, q.pkt.addr, q.pkt.data)) ++ [(p.type, p.dest, p.addr, p.data)] ∧
        t.mem = s.mem ∧ t.obj = s.obj ∧ t.faults = s.faults)

/-- Equal tile digests of a pair mark both copies compared; different ones raise E_PAIR and mark both copies failed. R264, R451, R452, R469. -/
def Obligations.PairDigestsCompared : Prop :=
  ∀ (s : State) (p : Fin 4) (fl fm : Flight) (u w : MmaUnit),
    let c := toFin8 (2 * p.val)
    let d := toFin8 (2 * p.val + 1)
    paired s = true → awaitsPair s.cl[c] = some (fl, u) → awaitsPair s.cl[d] = some (fm, w) → fl.e.id = fm.e.id → u.u = w.u →
    bit (oget s 0x7008 0) p.val = false →
    ((∀ x ∈ u.res, tileDigest s c fl.e.blk x.1 = tileDigest s d fm.e.blk x.1) → hasGrade fl.e.blk = true → hasGrade fm.e.blk = true →
      (∀ x, (s.cl[c].mma.find? (fun r => r.id == fl.e.id)).bind (fun r => r.units.find? (fun y => y.u == u.u)) = some x → x.stage ≠ 5) →
      (∀ x, (s.cl[d].mma.find? (fun r => r.id == fm.e.id)).bind (fun r => r.units.find? (fun y => y.u == w.u)) = some x → x.stage ≠ 5) →
      Answers (exec (.pairComparison p) s) fun t =>
        t = modUnit (modUnit s c fl.e.id u.u fun y => { y with paired := true }) d fm.e.id w.u fun y => { y with paired := true }) ∧
    (∀ x, u.res.find? (fun x => tileDigest s c fl.e.blk x.1 != tileDigest s d fm.e.blk x.1) = some x →
      (oget s 0x7010 4 = 0 ∨ incidentCount s 4 (16 * c.val + 1) + 1 < oget s 0x7010 4) →
      Answers (exec (.pairComparison p) s) fun t =>
        reports t = reports s ++ [(9, engineOf fl.e.kind fl.e.blk, fl.e.pc, 0, mmaDet 7 5 x.1)] ∧
        (∀ r ∈ t.cl[c].mma, r.id = fl.e.id → ∀ y ∈ r.units, y.u = u.u → y.bad = true) ∧
        (∀ r ∈ t.cl[d].mma, r.id = fm.e.id → ∀ y ∈ r.units, y.u = w.u → y.bad = true))

/-- A reel slot is reserved, committed, claimed and released in order, with its counts and pointers; a late wait faults. R142, R143, R155. -/
def Obligations.ReelSlotsMove : Prop :=
  ∀ (s : State) (c : Fin 8) (r : Nat), r < 32 →
    (∀ f, tstWaiting s.cl[c] = some f → (tileF f.e.blk).reel = r → reelFree s c r = true →
      Answers (exec (.reelReserve c r (.op .mq)) s) fun t =>
        rlGet t c r 6 = (rlGet s c r 6 + 1) % rlSlots s c r ∧ rlGet t c r 7 = rlGet s c r 7 + 1 ∧
        (reelOf t c r).resv = (reelOf s c r).resv ++ [(rlGet s c r 6, false)] ∧ (flightOf t c f.e.id).map (fun x => x.e.slot) = (flightOf s c f.e.id).map (fun _ => some (rlGet s c r 6)) ∧
        rlGet t c r 5 = rlGet s c r 5 ∧ rlGet t c r 8 = rlGet s c r 8 ∧ t.mem = s.mem) ∧
    (∀ j rest, (reelOf s c r).resv = (j, true) :: rest → s.cl[c].mma = [] →
      Answers (exec (.reelCommit c r) s) fun t =>
        rlGet t c r 8 = rlGet s c r 8 + 1 ∧ rlGet t c r 9 = rlGet s c r 9 + 1 ∧ (reelOf t c r).resv = rest ∧ (reelOf t c r).claims = (reelOf s c r).claims ∧
        rlGet t c r 5 = rlGet s c r 5 ∧ rlGet t c r 6 = rlGet s c r 6 ∧ rlGet t c r 7 = rlGet s c r 7 ∧ t.mem = s.mem) ∧
    (∀ q e, headWaiting s.cl[c] q = some e → (slotWanted e).1 = some r → e.slot = none → 0 < rlGet s c r 8 →
      Answers (exec (.reelClaim c r (.op q)) s) fun t =>
        rlGet t c r 8 = rlGet s c r 8 - 1 ∧ (reelOf t c r).claims = (reelOf s c r).claims ++ [(reelNext s c r, false)] ∧
        ((qGet t.cl[c] q).head?).map (fun x => x.slot) = some (some (reelNext s c r)) ∧ (reelOf t c r).resv = (reelOf s c r).resv ∧
        rlGet t c r 5 = rlGet s c r 5 ∧ rlGet t c r 7 = rlGet s c r 7 ∧ t.mem = s.mem) ∧
    (∀ j rest, (reelOf s c r).claims = (j, true) :: rest →
      Answers (exec (.reelRelease c r) s) fun t =>
        rlGet t c r 5 = (rlGet s c r 5 + 1) % rlSlots s c r ∧ rlGet t c r 7 = rlGet s c r 7 - 1 ∧ (reelOf t c r).claims = rest ∧
        (reelOf t c r).resv = (reelOf s c r).resv ∧ rlGet t c r 6 = rlGet s c r 6 ∧ rlGet t c r 8 = rlGet s c r 8 ∧ t.mem = s.mem) ∧
    (∀ q e since, headWaiting s.cl[c] q = some e → (q = .mq → tstWaiting s.cl[c] = none) → e.reelSince = some since → cget s c 0x4005 0 ≠ 0 →
      elapsedUs s since (cget s c 0x4005 0) = true →
      Answers (exec (.reelWaitTimeout c (.op q)) s) fun t =>
        (t.faults.map (fun f => (f.code, f.pc))) = s.faults.map (fun f => (f.code, f.pc)) ++ [(12, e.pc)] ∧ t.mem = s.mem ∧ t.obj = s.obj) ∧
    (∀ f since, tstWaiting s.cl[c] = some f → f.e.reelSince = some since → cget s c 0x4005 0 ≠ 0 → elapsedUs s since (cget s c 0x4005 0) = true →
      Answers (exec (.reelWaitTimeout c (.op .mq)) s) fun t =>
        (t.faults.map (fun g => (g.code, g.pc))) = s.faults.map (fun g => (g.code, g.pc)) ++ [(12, f.e.pc)] ∧
        t.cl[c].flights = flightsLess s c f.e.id ∧ t.cl[c].mq = s.cl[c].mq ∧ t.mem = s.mem ∧ t.obj = s.obj)

/-- Descriptors are fetched in bursts of up to eight, start, complete with their signal, and a late multicast is logged. R121, R129, R135, R136, R137, R147, R156, R470. -/
def Obligations.StreamDescriptorsRun : Prop :=
  ∀ (s : State) (c : Fin 8) (e : Fin 4) (r : StreamRun) (fl : Flight), streamOf s c e = some (r, fl) →
    let b := fl.e.blk
    ((r.descs.filter (fun d => !d.started)).length < 4 → r.nFetched < stCount b → stBase b % 128 = 0 → isPow2 (stRing b) = true → stRing b ≤ 65536 → ringOk s c b = true →
      (∀ i, i < min 8 (stCount b - r.nFetched) → protOk s (partOf s c) (descAddr s c b (r.nFetched + i)) 128 false = true) →
      Answers (exec (.descriptorFetch c e) s) fun t =>
        (t.cl[c].streams[e]).map (fun x => (x.nFetched, x.descs.map (fun d => (d.idx, d.d)))) =
          some (r.nFetched + min 8 (stCount b - r.nFetched), r.descs.map (fun d => (d.idx, d.d)) ++
            (List.range (min 8 (stCount b - r.nFetched))).map (fun i =>
              (r.nFetched + i, BitVec.ofNat 1024 (rdLE s (ownAddr s c (localPart (stBase b) + 128 * ((stFirst b + r.nFetched + i) % stRing b))) 128)))) ∧
        t.mem = s.mem ∧ t.obj = s.obj ∧ t.faults = s.faults) ∧
    (∀ x, r.descs.find? (fun d => !d.started) = some x → (r.descs.filter (fun d => d.started)).length < 4 → descCheck s c x = none →
      (descF x.d).isSR = false → (descF x.d).isDR = false → (descF x.d).cvt.mode ≠ 2 → granDiffers s c (descF x.d).cvt = false →
      Answers (exec (.descriptorStart c e) s) fun t =>
        ((t.cl[c].streams[e]).map (fun y => (y.descs.filter (fun d => d.idx == x.idx)).all (fun d => d.started))) = some true ∧
        (t.cl[c].streams[e]).map (fun y => y.descs.length) = some r.descs.length ∧ t.mem = s.mem ∧ t.faults = s.faults) ∧
    (∀ x, (r.descs.filter (fun d => d.started)) = [x] → r.descs.find? (fun d => d.idx == x.idx) = some x → x.written = false → (descF x.d).empty = true → x.srcSlot = none → x.dstSlots = [] → x.outst = 0 →
      paired s = false → s.cl[c].egress = [] → r.done + 1 < stCount b →
      Answers (exec (.descriptorComplete c e 0) s) fun t =>
        (t.cl[c].streams[e]).map (fun y => (y.descs.map (fun d => d.idx), y.done)) = some ((r.descs.filter (fun d => d.idx != x.idx)).map (fun d => d.idx), r.done + 1) ∧
        clapsOut t = clapsOut s ++ (if (descF x.d).sigEn then [(2, (descF x.d).sigClap, BitVec.ofNat 64 (descF x.d).sigInc)] else []) ∧
        t.mem = s.mem ∧ t.obj = s.obj ∧ t.faults = s.faults) ∧
    (∀ x since, r.descs.find? (fun d => (descF d.d).mask != 0 && d.mcSince.isSome && !d.stalled && !d.written) = some x → x.mcSince = some since →
      oget s 0x3050 0 ≠ 0 → elapsedUs s since (oget s 0x3050 0) = true →
      Answers (exec (.mcastStall c e) s) fun t =>
        oget t 0x3051 0 = min (oget s 0x3051 0 + 1) (objMax 0x3051 0) ∧ (t.evlog.getLast?).map (fun v => v.code) = some 0x0201 ∧
        ((t.cl[c].streams[e]).map (fun y => (y.descs.filter (fun d => d.idx == x.idx)).all (fun d => d.stalled))) = some true ∧ t.mem = s.mem ∧ t.faults = s.faults)

/-- GATHER counts and retires, TSEND sends its rows, its addition and its signal in turn, DIGEST writes the SHA-256 of its source. R48, R287, R293, R350, R352. -/
def Obligations.GatherTsendDigestComplete : Prop :=
  ∀ (s : State) (c : Fin 8) (e : Fin 4) (fl : Flight), paired s = false → s.cl[c].egress = [] →
    (engFlight s.cl[c] .gather e = some fl →
      let f := gatherF fl.e.blk
      let g := gatherRun s c (16 * c.val + 4 + e.val) f (opRep s c fl.e 0 0 0)
      g.bad = none →
      Answers (exec (.gatherComplete c e) s) fun t =>
        t.mem = (gatherScales c f (opRep s c fl.e 0 0 0) g).mem ∧ t.cl[c].flights = flightsLess s c fl.e.id ∧ clapsOut t = clapsOut s ++ signalOf fl.e ∧ t.faults = s.faults ∧
        cget t c 0x4060 1 = min (cget s c 0x4060 1 + 1) (objMax (cobj c 0x4060) 1)) ∧
    (engFlight s.cl[c] .tsend e = some fl → fl.outst = 0 →
      let f := tsendF fl.e.blk
      (fl.phase = 0 → f.rows = 1 → f.rowBytes = 64 → f.dst % 2048 = 0 →
        Answers (exec (.tsendComplete c e) s) fun t =>
          t.reqs.map (fun q => (q.pkt.type, q.pkt.dest, q.pkt.addr, q.pkt.data)) = s.reqs.map (fun q => (q.pkt.type, q.pkt.dest, q.pkt.addr, q.pkt.data)) ++
            [(1, modulePart f.dst, localPart f.dst, (rdBytes s (spBase c + f.srcOff) 64))] ∧
          (flightOf t c fl.e.id).map (fun x => (x.phase, x.outst)) = some (1, 1) ∧ t.mem = s.mem) ∧
      (fl.phase = 1 → f.inc ≠ 0 →
        Answers (exec (.tsendComplete c e) s) fun t =>
          t.reqs.map (fun q => (q.pkt.type, q.pkt.opc, q.pkt.addr, q.pkt.data)) = s.reqs.map (fun q => (q.pkt.type, q.pkt.opc, q.pkt.addr, q.pkt.data)) ++
            [(3, 2, clapAddr f.clap, toLE 8 f.inc ++ zeros 8)] ∧ t.mem = s.mem) ∧
      (fl.phase = 2 → Answers (exec (.tsendComplete c e) s) fun t =>
        t.cl[c].flights = flightsLess s c fl.e.id ∧ clapsOut t = clapsOut s ++ signalOf fl.e ∧ t.reqs = s.reqs ∧ t.mem = s.mem ∧ t.faults = s.faults)) ∧
    (engFlight s.cl[c] .digest e = some fl →
      let b := fl.e.blk
      (digestWaiting s).head? = some (c, fl.e.id) → (rdMesh s (16 * c.val + 4 + e.val) (localPart (dgSrc b)) (dgLen b)).any (fun x => x.2) = false →
      Answers (exec (.digestComplete c e) s) fun t =>
        rdBytes t (spBase c + dgDst b) 32 = sha256 (rdBytes s (localPart (dgSrc b)) (dgLen b)) ∧
        (∀ a, (a < spBase c + dgDst b ∨ spBase c + dgDst b + 32 ≤ a) → rdByte t a = rdByte s a) ∧
        t.cl[c].flights = flightsLess s c fl.e.id ∧ clapsOut t = clapsOut s ++ signalOf fl.e ∧ t.obj = s.obj)

/-- HBM and scratchpad accesses and scrubs: tokens, corrected and uncorrectable errors, poison; memory bytes never change. R123, R124, R126, R127, R128, R148, R149. -/
def Obligations.MemoryControllersServe : Prop :=
  ∀ (s : State) (g : Nat),
    let k := g / 0x10000000
    (∀ r : MemReq, r.g = g → hbmActive s k = true → (∀ x ∈ s.reg.wait, x.2.g / 0x10000000 ≠ k) →
      let c := classOf s r.src
      let cost := if r.write = true ∧ r.whole = false then 2 else 1
      (0 < tokensOf s k c →
        (Answers (exec (.hbmAccess k (some r.src) r.g r.write r.whole .none) s) fun t =>
          tokensOf t k c = tokensOf s k c - cost ∧ (∀ k' c', (k' ≠ k ∨ c' ≠ c) → tokensOf t k' c' = tokensOf s k' c') ∧
          t = { s with reg := { s.reg with tokens := t.reg.tokens } }) ∧
        (r.write = true → r.whole = true → ∀ err, exec (.hbmAccess k (some r.src) r.g r.write r.whole err) s = exec (.hbmAccess k (some r.src) r.g r.write r.whole .none) s) ∧
        ((r.write = false ∨ r.whole = false) → Answers (exec (.hbmAccess k (some r.src) r.g r.write r.whole .corrected) s) fun t =>
          oget t 0x3011 (k + 1) = min (oget s 0x3011 (k + 1) + 1) (objMax 0x3011 (k + 1)) ∧ t.mem = s.mem ∧ t.pz = s.pz ∧ t.reg.wait = s.reg.wait) ∧
        ((r.write = false ∨ r.whole = false) → (r.write = true ∨ oget s 0x7010 6 = 0 ∨ incidentCount s 6 (0x90 + k) + 1 < oget s 0x7010 6) →
          Answers (exec (.hbmAccess k (some r.src) r.g r.write r.whole .uncorrectable) s) fun t =>
            granBad t g = true ∧ (∀ g', g' ≠ g → granBad t g' = granBad s g') ∧ t.mem = s.mem ∧
            oget t 0x3012 (k + 1) = min (oget s 0x3012 (k + 1) + 1) (objMax 0x3012 (k + 1)))) ∧
      (∀ err, tokensOf s k c = 0 → s.reg.borrow[c] = false → Answers (exec (.hbmAccess k (some r.src) r.g r.write r.whole err) s) fun t =>
        t.reg.wait = s.reg.wait ++ [(c.val, r)] ∧ k * 8 + c.val ∈ t.reg.held ∧ t.reg.tokens = s.reg.tokens ∧ t.mem = s.mem ∧ t.pz = s.pz)) ∧
    (hbmActive s k = false →
      (∀ src g' w whole err, Answers (exec (.hbmAccess k src g' w whole err) s) fun t => t = s) ∧ (∀ err, Answers (exec (.hbmScrubStep g err) s) fun t => t = s)) ∧
    (hbmActive s k = true → oget s 0x3013 0 ≠ 0 →
      (Answers (exec (.hbmScrubStep g .none) s) fun t => t = s) ∧
      (Answers (exec (.hbmScrubStep g .corrected) s) fun t => t = obump s 0x3011 (k + 1) 1) ∧
      ((oget s 0x7010 6 = 0 ∨ incidentCount s 6 (0x90 + k) + 1 < oget s 0x7010 6) →
        Answers (exec (.hbmScrubStep g .uncorrectable) s) fun t => granBad t g = true ∧ t.mem = s.mem)) ∧
    (∀ c, spLine g = some c →
      (∀ write whole, Answers (exec (.scratchpadAccess g write whole .none) s) fun t => t = s) ∧
      (Answers (exec (.scratchpadAccess g false true .corrected) s) fun t => t = obump s 0x3020 (c.val + 1) 1) ∧
      (oget s 0x3022 0 ≠ 0 → Answers (exec (.spScrubStep g .corrected) s) fun t => t = obump s 0x3020 (c.val + 1) 1) ∧
      ((oget s 0x7010 5 = 0 ∨ incidentCount s 5 (16 * c.val + 9) + 1 < oget s 0x7010 5) →
        (Answers (exec (.scratchpadAccess g false true .uncorrectable) s) fun t => granBad t g = true ∧ t.mem = s.mem) ∧
        (oget s 0x3022 0 ≠ 0 → Answers (exec (.spScrubStep g .uncorrectable) s) fun t => granBad t g = true ∧ t.mem = s.mem)))

/-- Every bucket gains its rate, halved at a hot stack, up to its depth, and the committed values take effect. R149, R150, R154, R558. -/
def Obligations.BucketsReplenish : Prop :=
  ∀ s : State, Answers (exec .bwrReplenish s) fun t =>
    (∀ (k : Nat) (c : Fin 5), k < 12 →
      tokensOf t k c = min (oget s 0x3031 (c.val + 1)) (tokensOf s k c +
        (if (s.pow.hbmHot.toList[k]?).getD false then oget s 0x3030 (c.val + 1) / 2 else oget s 0x3030 (c.val + 1)))) ∧
    (∀ c : Fin 5, t.reg.rate[c] = oget s 0x3030 (c.val + 1) ∧ t.reg.depth[c] = oget s 0x3031 (c.val + 1) ∧ t.reg.borrow[c] = (oget s 0x3032 (c.val + 1) == 1)) ∧
    (∀ (k : Nat) (c : Fin 5), k < 12 →
      (k * 8 + c.val ∈ t.reg.held ↔ (∃ x ∈ s.reg.wait, x.1 = c.val ∧ x.2.g / 0x10000000 = k) ∧ tokensOf t k c = 0) ∧
      (s.reg.held = [k * 8 + c.val] → oget t (0x3040 + k) (c.val + 1) = min (oget s (0x3040 + k) (c.val + 1) + 1) (objMax (0x3040 + k) (c.val + 1)))) ∧
    t.reg.wait = s.reg.wait ∧ t.mem = s.mem ∧ t.cl = s.cl ∧ t.hf = s.hf

/-- A mesh flit on its path: a corrected error is counted, one in data reaches its copies alone, one in a header drains; off the path nothing arrives. R15, R16, R19, R20, R457. -/
def Obligations.MeshFlitErrors : Prop :=
  ∀ (s : State) (link : Nat) (die : Fin 6) (load : MeshLoad), link < 12 →
    (crosses s link die.val load = false → ∀ err h, Answers (exec (.meshFlitArrival link die err h load) s) fun t => t = s) ∧
    (crosses s link die.val load = true →
      (die.val = (meshEnds link).1 ∨ die.val = (meshEnds link).2) ∧
      (∀ h, Answers (exec (.meshFlitArrival link die .none h load) s) fun t => t = s) ∧
      (∀ h, Answers (exec (.meshFlitArrival link die .corrected h load) s) fun t => t = obump s 0x1021 (link + 1) 1) ∧
      ((oget s 0x7010 8 = 0 ∨ incidentCount s 8 (0xA0 + link) + 1 < oget s 0x7010 8) →
        Answers (exec (.meshFlitArrival link die .uncorrectable false load) s) fun t =>
          t.mem = s.mem ∧ t.pz = s.pz ∧ t.cl = s.cl ∧
          (∀ u g, load = .read u g → t.meshHits = s.meshHits ++ [(u, false, g)] ∧ t.fab.queue = s.fab.queue) ∧
          (∀ u gs, load = .write u gs → t.meshHits = s.meshHits ++ (copiesBehind u link die.val gs).map (fun g => (u, true, g)) ∧ t.fab.queue = s.fab.queue) ∧
          (∀ i k inp p, load = .packet i k → s.fab.queue[i]? = some (inp, p) → p.data ≠ [] →
            t.meshHits = s.meshHits ∧ (∀ j, j ≠ i → t.fab.queue[j]? = s.fab.queue[j]?) ∧
            t.fab.queue[i]? = some (inp, { p with poison := p.poison ||| 2 ^ ((p.addr % 2048 / 64 + k) % 32) }))) ∧
      (Answers (exec (.meshFlitArrival link die .uncorrectable true load) s) fun t =>
        drained t = true ∧ oget t 0x1022 (link + 1) = min (oget s 0x1022 (link + 1) + 1) (objMax 0x1022 (link + 1))))

/-- A permitted host write or AtomicOp performs its operation on the clapper; an AtomicOp answers the old value. R295, R296, R299, R308. -/
def Obligations.HostClapperAccesses : Prop :=
  ∀ (s : State) (p : Fin 8) (n : Nat) (v cmp : Word), pcieUp s = true → hostClapBad s p n 5 = none →
    let old := clapGet s n
    let quiet (x : Word) : Prop := ∀ w ∈ s.waiters, w.clap = n → satisfied w x = false
    let same (t : State) : Prop := (∀ k, k ≠ n → clapGet t k = clapGet s k) ∧ t.mem = s.mem ∧ t.cl = s.cl ∧ t.hf = s.hf ∧ t.waiters = s.waiters
    (clapBad s n = false →
      (∀ i x, (i, x) ∈ [(Instr.hostClapSet p n v .none, v), (.hostClapAdd p n v .none, old + v), (.hostClapMax p n v .none, if old.toNat < v.toNat then v else old)] →
        quiet x → Answers (exec i s) fun t => clapGet t n = x ∧ same t ∧ t.outs = s.outs) ∧
      (∀ i x, (i, x) ∈ [(Instr.hostAtomicFetchadd p n v .none, old + v), (.hostAtomicSwap p n v .none, v), (.hostAtomicCas p n v cmp .none, if old = cmp then v else old)] →
        quiet x → Answers (exec i s) fun t => clapGet t n = x ∧ same t ∧ t.outs = s.outs ++ [Out.cpl p.val (toLE 8 old.toNat) false])) ∧
    (clapBad s n = true →
      (quiet v → Answers (exec (.hostClapSet p n v .none) s) fun t => clapGet t n = v ∧ clapBad t n = false ∧ same t) ∧
      (∀ i ∈ [Instr.hostAtomicFetchadd p n v .none, .hostAtomicSwap p n v .none, .hostAtomicCas p n v cmp .none],
        Answers (exec i s) fun t => t.clapVal = s.clapVal ∧ clapBad t n = true ∧ t.outs = s.outs ++ [Out.cpl p.val (zeros 8) true])) ∧
    (∀ field size, field ≠ 0 ∨ size ≠ 8 →
      ∀ i ∈ [Instr.hostAtomicFetchadd p n v .none field size, .hostAtomicSwap p n v .none field size, .hostAtomicCas p n v cmp .none field size],
        Answers (exec i s) fun t => (∃ l, t.outs = s.outs ++ Out.unsupported p.val :: l) ∧ t.clapVal = s.clapVal ∧ t.clapPz = s.clapPz ∧ t.waiters = s.waiters ∧ t.mem = s.mem) ∧
    (Answers (exec (.hostClapReservedWrite p n) s) fun t => t = cbump s (clapHome n) 0x4071 3 1)

/-- The home performs READ, SET, ADD, MAX, FADD, SWAP and CAS as R296 states, and the old value sets out for its register. R18, R296, R297, R304. -/
def Obligations.ClapperHomePerforms : Prop :=
  ∀ (s : State) (n : Nat) (m : ClapMsg), s.clapOps[n]? = some m → clapsServed s = true → clapBad s m.clap = false →
    (s.clapOps.take n).any (fun x => heldBack s x m) = false →
    let old := clapGet s m.clap
    let new : Word := match m.op with
      | 0 => old
      | 1 => m.val
      | 2 => old + m.val
      | 3 => if old.toNat < m.val.toNat then m.val else old
      | 4 => old + m.val
      | 5 => m.val
      | _ => if old = m.cmp then m.val else old
    m.op ≤ 6 → (∀ w ∈ s.waiters, w.clap = m.clap → satisfied w new = false) →
    ∀ (c : Fin 8) (rd : Nat),
      (m.ret = .none ∨ (m.ret = .core c rd ∧ paired s = false ∧ s.cl[c].core.awaits.contains rd = true)) →
      Answers (exec (.clapperOpPerform n .none) s) fun t =>
        t.clapOps = dropAt s.clapOps n ∧ clapGet t m.clap = new ∧ (∀ k, k ≠ m.clap → clapGet t k = clapGet s k) ∧
        t.clapRes = s.clapRes ++ (if m.ret = .none then [] else [(c, rd, old, (homeOf s m.clap).val)]) ∧ t.mem = s.mem ∧ t.cl = s.cl ∧ t.hf = s.hf ∧ t.faults = s.faults

/-- A gate or CWAIT registers at its clapper, proceeds at once when the value satisfies it, and is released by the operation that satisfies it. R49, R50, R300. -/
def Obligations.WaitersRegisterAndRelease : Prop :=
  ∀ s : State,
    (∀ (c : Fin 8) (id : Nat) (q : QSel) (e : QEntry),
      let w : Waiter := { clap := hGateClap e.blk, eq := fld e.blk 78 1 == 1, value := BitVec.ofNat 64 (fld e.blk 0 64), who := .gate c id }
      (s.waiters.any (fun x => x.who == .gate c id) || s.freed.contains (.gate c id)) = false → gateHead s.cl[c] id = some (q, e) → clapBad s w.clap = false →
      Answers (exec (.waiterRegister (.gate c id) .none) s) fun t =>
        t = if satisfied w (clapGet s w.clap) then { s with freed := s.freed ++ [.gate c id] } else { s with waiters := s.waiters ++ [w] }) ∧
    (∀ (c : Fin 8) (n : Nat) (eq : Bool) (v : Word) (since : Nat),
      let w : Waiter := { clap := n, eq := eq, value := v, who := .cwait c }
      (s.waiters.any (fun x => x.who == .cwait c) || s.freed.contains (.cwait c)) = false → s.cl[c].core.status = .cwait n eq v since →
      clapBad s n = false → s.cl[c].core.step = false →
      Answers (exec (.waiterRegister (.cwait c) .none) s) fun t =>
        t = if satisfied w (clapGet s n) then modCore s c fun k => { k.retired (k.pc + 4) with status := .running }
          else { s with waiters := s.waiters ++ [w] }) ∧
    (∀ (p : Fin 8) (n : Nat) (v : Word) (w : Waiter) (c : Fin 8) (id : Nat), pcieUp s = true → hostClapBad s p n 5 = none →
      s.waiters = [w] → w.clap = n → w.who = .gate c id → satisfied w v = true →
      Answers (exec (.hostClapSet p n v .none) s) fun t => t.freed = s.freed ++ [.gate c id] ∧ t.waiters = [] ∧ clapGet t n = v)

/-- TQ_TAIL, CQ_HEAD, TQ_ENABLE and ABORT: doorbells, enables, the entries of a disabled queue, and the take that an ABORT stops. R65, R517, R518, R519, R520, R521, R522, R536. -/
def Obligations.HostQueueRegisters : Prop :=
  ∀ (s : State) (p : Fin 8), hostServed s = true →
    let counted (t : State) : Prop := t.hf = s.hf ∧ fnGet t p 0x0F = min (fnGet s p 0x0F + 1) (objMax (0x9100 + p.val) 0x0F)
    (∀ (q : Fin 4) (v : Nat),
      (tqOn s p q = true → v < tqSize s p q → Answers (exec (.tqTail p q v) s) fun t => t = modF s p fun h => { h with tail := vset h.tail q v }) ∧
      ((tqOn s p q = false ∨ tqSize s p q ≤ v) → Answers (exec (.tqTail p q v) s) counted)) ∧
    (∀ v, (v < fnGet s p 0x0A → Answers (exec (.cqHead p v) s) fun t => t = modF s p fun h => { h with cqHead := v }) ∧
      (fnGet s p 0x0A ≤ v → Answers (exec (.cqHead p v) s) counted)) ∧
    (∀ (via : Iface) (v : Nat), canWrite s via (0x9100 + p.val) 0x0B = true → v < 16 →
      (∀ q : Fin 4, bit v q.val = true → tqOn s p q = true ∨ (fnGet s p (1 + q.val) ≠ 0 ∧ fnGet s p 9 ≠ 0)) →
      Answers (exec (.tqEnable via p v) s) fun t =>
        fnGet t p 0x0B = v ∧ (fnGet s p 0x0B = 0 → v ≠ 0 → t.hf[p].cqHead = 0 ∧ t.hf[p].cqTail = 0 ∧ t.hf[p].phase = true) ∧
        t.hf[p].compl.map (fun x => (x.id, x.disp, x.code)) = s.hf[p].compl.map (fun x => (x.id, x.disp, x.code)) ++
          ((fetchedTakes s p).filter (fun e => bit (fnGet s p 0x0B) e.q && !bit v e.q)).map (fun e => (e.id, 1, 0x0F)) ∧
        t.hf[p].run = s.hf[p].run ∧ (∀ q, q ≠ p → t.hf[q] = s.hf[q]) ∧ t.mem = s.mem ∧ t.cl = s.cl) ∧
    (∀ id : Word,
      ((∀ r, s.hf[p].run = some r → r.ent.id ≠ id.toNat) → (∀ e ∈ fetchedTakes s p, e.id ≠ id.toNat) →
        Answers (exec (.abort p id) s) fun t => t.hf = s.hf ∧ fnGet t p 0x0E = min (fnGet s p 0x0E + 1) (objMax (0x9100 + p.val) 0x0E)) ∧
      ((∀ r, s.hf[p].run = some r → r.ent.id ≠ id.toNat) → (∃ e ∈ fetchedTakes s p, e.id = id.toNat) →
        Answers (exec (.abort p id) s) fun t =>
          t.hf[p].compl.map (fun x => (x.id, x.disp, x.code)) = s.hf[p].compl.map (fun x => (x.id, x.disp, x.code)) ++
            ((fetchedTakes s p).filter (fun e => e.id == id.toNat)).map (fun e => (e.id, 1, 0x0F)) ∧
          t.hf[p].run = s.hf[p].run ∧ (∀ q, q ≠ p → t.hf[q] = s.hf[q]) ∧ t.cl = s.cl ∧ t.mem = s.mem) ∧
      (∀ r, s.hf[p].run = some r → r.ent.id = id.toNat → r.stop = none →
        (∀ g ∈ groupsOf s p, (groupOf s g).run = none ∧ (groupOf s g).waiting = []) →
        Answers (exec (.abort p id) s) fun t =>
          t.hf[p].run = some { r with stop := some (.abort, s.tc), ended := [] } ∧
          (∀ c ∈ clustersOf s p, cget t c 0x4002 0 = 4 ∧ t.cl[c].core.status = .stopped ∧ (∀ q, qGet t.cl[c] q = [])) ∧
          (∀ c, c ∉ clustersOf s p → t.cl[c] = s.cl[c]) ∧ t.mem = s.mem))

/-- A take entry is read, checked and scheduled; a bad entry is REFUSED, a failed read disables its queue, a partition without clusters answers EMPTY. R512, R514, R516, R519, R522, R523. -/
def Obligations.TakeEntriesFetchedAndScheduled : Prop :=
  ∀ (s : State) (p : Fin 8) (q : Fin 4),
    let addr := fnGet s p (1 + q.val) + 64 * s.hf[p].head[q]
    let failed (cause : Nat) (t : State) : Prop :=
      tqOn t p q = false ∧ t.hf[p] = { s.hf[p] with fetching := vset s.hf[p].fetching q false } ∧
        lastEvent t = some (0x0802, payOf [(16, p.val), (17, q.val), (18, cause), (24, addr)])
    (hostServed s = true → pcieUp s = true → tqOn s p q = true → s.hf[p].head[q] ≠ s.hf[p].tail[q] → s.hf[p].fetching[q] = false →
      s.hf[p].fetched[q] = none → (∀ e, s.hf[p].gate = some e → e.q ≠ q.val) →
      Answers (exec (.takeEntryFetch p q) s) fun t =>
        t.outs = s.outs ++ [Out.hostRead p.val addr 64] ∧ t.hf = (modF s p fun h => { h with fetching := vset h.fetching q true }).hf ∧
        t.obj = s.obj ∧ t.mem = s.mem ∧ t.cl = s.cl) ∧
    (s.hf[p].fetching[q] = true →
      (∀ b : List Byte, tqOn s p q = true → drained s = false →
        let h1 := { s.hf[p] with fetching := vset s.hf[p].fetching q false, head := vset s.hf[p].head q ((s.hf[p].head[q] + 1) % tqSize s p q) }
        Answers (exec (.takeEntryArrival p q b 0) s) fun t =>
          (takeEntryBad s p b = none → t.hf[p] = { h1 with fetched := vset s.hf[p].fetched q (some (takeEntry q.val b)) }) ∧
          (∀ code, takeEntryBad s p b = some code →
            t.hf[p] = { h1 with compl := s.hf[p].compl ++ [idleCompl s (takeEntry q.val b) 4 code] }) ∧
          fnGet t p 0x0D = min (fnGet s p 0x0D + 1) (objMax (0x9100 + p.val) 0x0D) ∧ (∀ d, d ≠ p → t.hf[d] = s.hf[d]) ∧ t.cl = s.cl ∧ t.mem = s.mem) ∧
      (∀ b, Answers (exec (.takeEntryArrival p q b 1) s) (failed 1)) ∧
      (∀ b, Answers (exec (.takeEntryArrival p q b 2) s) (failed 2)) ∧
      Answers (exec (.pcieCompletionTimeout p q) s) (failed 0)) ∧
    (∀ e, s.hf[p].run = none → s.hf[p].gate = none → s.hf[p].compl = [] → oget s 0x9010 0 = 9 → mayStart s = true → s.hf[p].fetched[q] = some e →
      ((fins 4).map (fun i => (s.hf[p].rr + 1 + i.val) % 4)).find? (fun k => (s.hf[p].fetched.toList[k]?.bind id).isSome) = some q.val →
      let h1 := { s.hf[p] with rr := q.val, fetched := vset s.hf[p].fetched q none }
      Answers (exec (.takeSchedule p) s) fun t =>
        t.hf[p] = (if clustersOf s p = [] then { h1 with compl := [idleCompl s e 3 0x0F] } else { h1 with gate := some e }) ∧
        (∀ d, d ≠ p → t.hf[d] = s.hf[d]) ∧ t.cl = s.cl ∧ t.mem = s.mem)

/-- A take starts on every idle cluster of its partition, and each core is released on its image with its argument in x10 and its rank in x11. R34, R41, R83, R99, R204, R475, R515, R516. -/
def Obligations.TakesStartAndRelease : Prop :=
  ∀ (s : State) (p : Fin 8),
    (∀ e, s.hf[p].gate = some e → (bit e.flags 0 = true → s.freed.contains (.start p) = true) → (∀ c ∈ clustersOf s p, clusterState s c = 0) →
      drained s = false → s.dict.held.any (dueBefore s (clustersOf s p)) = false →
      Answers (exec (.takeStart p) s) fun t =>
        t.hf[p] = { s.hf[p] with gate := none, lastTake := e.id,
                                 run := some { ent := e, startTc := s.tc, started := true, unsync := s.unsync, faults := [], stop := none, ended := [] } } ∧
        (∀ d, d ≠ p → t.hf[d] = s.hf[d]) ∧ t.mem = s.mem ∧ (∀ c, c ∉ clustersOf s p → t.cl[c].core = s.cl[c].core ∧ t.cl[c].reg = s.cl[c].reg) ∧
        (∀ c ∈ clustersOf s p, cget t c 0x4002 0 = 1 ∧ cget t c 0x4003 0 = e.id ∧ (∀ i ∈ [1, 2, 3], cget t c 0x4011 i = 0) ∧
          (∀ q, qGet t.cl[c] q = []) ∧ t.cl[c].reg = Vector.replicate 10 TReg.reset ∧ t.cl[c].core.status = .stopped) ∧
        (s.dict.held = [] → (paired s = false → oget t 0x7008 0 = 0) ∧ (checkMode s = 0 → ∀ c ∈ clustersOf s p, cget t c 0x4033 0 = 0))) ∧
    (∀ (c : Fin 8) (r : TakeRun), partOf s c = p → s.hf[p].run = some r → clusterState s c = 1 → r.stop = none →
      r.faults.any (fun f => f.cluster == c.val) = false → s.faults.any (fun f => f.cluster == c.val && f.part == p.val) = false →
      let a := localPart r.ent.image
      (protOk s p a r.ent.imageLen false = true → anyMesh s (16 * c.val) (outerAddr s a) r.ent.imageLen = false →
        Answers (exec (.coreRelease c) s) fun t =>
          t.cl[c].core.status = .running ∧ t.cl[c].core.pc = BitVec.ofNat 64 r.ent.entry ∧ xget t c 10 = BitVec.ofNat 64 r.ent.targ ∧
          xget t c 11 = BitVec.ofNat 64 (prank s c) ∧ (∀ n, n < 32 → n ≠ 10 → n ≠ 11 → xget t c n = 0) ∧
          t.cl[c].clmDraw = 0 ∧ (∀ k, mget 0 t.cl[c].clm k = if k < r.ent.imageLen then rdByte s (outerAddr s a + k) else 0) ∧
          cget t c 0x4002 0 = 2 ∧ (∀ d, d ≠ c → t.cl[d] = s.cl[d]) ∧ t.hf = s.hf ∧ t.mem = s.mem) ∧
      (protOk s p a r.ent.imageLen false = true → anyMesh s (16 * c.val) (outerAddr s a) r.ent.imageLen = true →
        Answers (exec (.coreRelease c) s) fun t => reports t = reports s ++ [(7, 0, 0, r.ent.image, 29)] ∧ t.cl = s.cl ∧ t.hf = s.hf) ∧
      (protOk s p a r.ent.imageLen false = false →
        Answers (exec (.coreRelease c) s) fun t => reports t = reports s ++ [(6, 0, 0, r.ent.image, 29)] ∧ t.cl = s.cl ∧ t.hf = s.hf))

/-- A take ends with its last cluster, stops at its first fault, completes after its discard, and its completion is written to the ring. R57, R58, R64, R65, R66, R67, R516, R517, R518, R522, R523. -/
def Obligations.TakesEnd : Prop :=
  ∀ (s : State) (p : Fin 8),
    (∀ (c : Fin 8) (r : TakeRun), partOf s c = p → s.hf[p].run = some r → r.stop = none → s.cl[c].core.status = .ended → s.cl[c].core.halted = false →
      clusterQuiet s c = true → r.ended.contains c.val = false →
      ((clustersOf s p).all (fun d => d == c || r.ended.contains d.val) = false →
        Answers (exec (.clusterEnded c) s) fun t => t = modF s p fun h => { h with run := some { r with ended := r.ended ++ [c.val] } }) ∧
      ((clustersOf s p).all (fun d => d == c || r.ended.contains d.val) = true →
        let n := clapNo r.ent.doneClap
        let sig := bit r.ent.flags 1 && protOk s p (clapAddr n) 64 true
        (sig = true → clapBad s n = false ∧ ∀ w ∈ s.waiters, w.clap = n → satisfied w (clapGet s n + 1) = false) →
        Answers (exec (.clusterEnded c) s) fun t =>
          t.hf[p].run = none ∧
          t.hf[p].compl.map (fun x => (x.id, x.code, x.disp, x.startTc, x.endTc, x.signalled)) =
            s.hf[p].compl.map (fun x => (x.id, x.code, x.disp, x.startTc, x.endTc, x.signalled)) ++ [(r.ent.id, 0, 0, r.startTc, s.tc, sig)] ∧
          clapGet t n = (if sig = true then clapGet s n + 1 else clapGet s n) ∧ t.faults = s.faults.filter (fun f => f.part != p.val) ∧
          (∀ d ∈ clustersOf s p, cget t d 0x4002 0 = (if drained s then 6 else 0) ∧ t.cl[d].core.status = .stopped) ∧ t.mem = s.mem)) ∧
    (∀ (r : TakeRun) (n : Nat) (f : FaultRep), s.hf[p].run = some r → r.stop = none → (s.faults.filter (fun f => f.part == p.val))[n]? = some f →
      (∀ g ∈ groupsOf s p, (groupOf s g).run = none ∧ (groupOf s g).waiting = []) →
      Answers (exec (.faultReport p n) s) fun t =>
        t.hf[p].run = some { r with faults := r.faults ++ [f], stop := some (.fault, s.tc), ended := [] } ∧ t.faults = s.faults.erase f ∧
        (∀ c ∈ clustersOf s p, cget t c 0x4002 0 = 4 ∧ t.cl[c].core.status = .stopped ∧ (∀ q, qGet t.cl[c] q = [])) ∧ t.mem = s.mem) ∧
    (∀ (r : TakeRun) (why : Stop) (at' : Nat), s.hf[p].run = some r → r.stop = some (why, at') → why ≠ .reset →
      (clustersOf s p).any (outstanding s) = false → (∀ g ∈ groupsOf s p, (groupOf s g).run = none) →
      let code := (discardCode { r with faults := r.faults ++ s.faults.filter (fun f => f.part == p.val) }).1
      code ≠ 0 →
      Answers (exec (.discardComplete p) s) fun t =>
        t.hf[p].run = none ∧ t.faults = s.faults.filter (fun f => f.part != p.val) ∧
        t.hf[p].compl.map (fun x => (x.id, x.code, x.disp)) =
          s.hf[p].compl.map (fun x => (x.id, x.code, x.disp)) ++ [(r.ent.id, code, if why = .abort then 1 else 0)] ∧
        (∀ d ∈ clustersOf s p, cget t d 0x4002 0 = if drained s then 6 else 0) ∧ t.mem = s.mem) ∧
    (∀ (x : Compl) (rest : List Compl), s.hf[p].compl = x :: rest → cqRoom s p = true → fnGet s p 0x0B ≠ 0 → pcieUp s = true →
      let a := fnGet s p 9 + 32 * s.hf[p].cqTail
      (Answers (exec (.completionWrite p false) s) fun t =>
        t.outs = s.outs ++ [Out.hostWrite p.val a (complBytes x s.hf[p].phase)] ++ (if x.irq then [Out.msix p.val 0] else []) ∧
        t.hf[p].compl = rest ∧ t.hf[p].cqTail = (s.hf[p].cqTail + 1) % fnGet s p 0x0A ∧
        t.hf[p].phase = (if s.hf[p].cqTail + 1 = fnGet s p 0x0A then !s.hf[p].phase else s.hf[p].phase) ∧ t.cl = s.cl ∧ t.mem = s.mem ∧ t.obj = s.obj) ∧
      (Answers (exec (.completionWrite p true) s) fun t => fnGet t p 0x0B = 0 ∧ t.hf = s.hf ∧ t.cl = s.cl ∧ t.mem = s.mem))

/-- EVLOG_ACKED and CONT_ACKED take an index of the log; DRAIN_CMD and a failed DIGEST_VERDICT drain the module. R457, R458, R461, R466, R479. -/
def Obligations.LogsAcknowledgedAndModuleDrained : Prop :=
  ∀ (s : State) (via : Iface) (v : Nat),
    (canWrite s via 0x7021 0 = true →
      Answers (exec (.evlogAcked via v) s) fun t => t = if v ≤ oget s 0x7020 0 ∧ oget s 0x7020 0 ≤ v + 1024 then oset s 0x7021 0 v else s) ∧
    (canWrite s via 0x7031 0 = true →
      Answers (exec (.contAcked via v) s) fun t => t = if v ≤ oget s 0x7030 0 ∧ oget s 0x7030 0 ≤ v + 256 then oset s 0x7031 0 v else s) ∧
    (canWrite s via 0x7005 0 = true → Answers (exec (.drainCmd via v) s) fun t => if v = 1 then drained t = true else t = s) ∧
    (canWrite s via 0x7009 0 = true → 1 ≤ v % 256 → v % 256 ≤ 3 → v / 256 % 16 < 12 → v / 4096 % 16 = 0 → v < 2 ^ 32 →
      Answers (exec (.digestVerdict via v) s) fun t =>
        if v % 256 = 2 then drained t = true
        else lastEvent t = some (0x0607, payOf [(16, v)]) ∧ t.mem = s.mem ∧ t.cl = s.cl ∧ t.hf = s.hf)

/-- A pair's clapper operation leaves when the copies agree, E_PAIR when they differ or one is missing; CHECK_MODE changes when every cluster is idle. R446, R448, R450, R452, R475. -/
def Obligations.PairEgressAndCheckMode : Prop :=
  ∀ (s : State) (k : Fin 4) (c d : Fin 8), c.val = 2 * k.val → d.val = 2 * k.val + 1 →
    let calm := oget s 0x7010 4 = 0 ∨ incidentCount s 4 (16 * c.val + 1) + 1 < oget s 0x7010 4
    (∀ (m m' : ClapMsg) (t1 t2 : Nat) (f f' : FaultRep), s.cl[c].egress = [.clap m t1 f] → s.cl[d].egress = [.clap m' t2 f'] →
      f.engine = f'.engine → f.pc = f'.pc → m.clap < 16384 → m'.clap < 16384 → m.op < 7 → m'.op < 7 →
      ((m.clap, m.op, m.val, m.cmp) = (m'.clap, m'.op, m'.val, m'.cmp) →
        Answers (exec (.pairEgressCompare k) s) fun t =>
          t.clapOps = s.clapOps ++ [m] ∧ t.cl[c].egress = [] ∧ t.cl[d].egress = [] ∧ t.faults = s.faults ∧ t.mem = s.mem ∧ t.obj = s.obj) ∧
      ((m.clap, m.op, m.val, m.cmp) ≠ (m'.clap, m'.op, m'.val, m'.cmp) → calm →
        Answers (exec (.pairEgressCompare k) s) fun t =>
          reports t = reports s ++ [(9, f.engine, f.pc, f.addr, 0xE1)] ∧ t.clapOps = s.clapOps ∧ t.cl[c].egress = [] ∧ t.cl[d].egress = [] ∧ t.mem = s.mem)) ∧
    (∀ (a : Nat) (l : List (Byte × Bool)) (t1 t2 : Nat) (f f' : FaultRep), s.cl[c].egress = [.write a l t1 f] → s.cl[d].egress = [.write a l t2 f'] →
      f.engine = f'.engine → f.pc = f'.pc → (∀ e, region a ≠ .sp e) →
      Answers (exec (.pairEgressCompare k) s) fun t =>
        (∀ i x, l[i]? = some x → rdByte t (a + i) = x.1) ∧ (∀ b, (b < a ∨ a + l.length ≤ b) → rdByte t b = rdByte s b) ∧
        t.cl[c].egress = [] ∧ t.cl[d].egress = [] ∧ t.faults = s.faults ∧ t.clapOps = s.clapOps) ∧
    (∀ (m : ClapMsg) (since : Nat) (f : FaultRep), s.cl[c].egress = [.clap m since f] → s.cl[d].egress = [] → cget s c 0x4005 0 ≠ 0 →
      since + cget s c 0x4005 0 * 1000 ≤ s.now → calm →
      Answers (exec (.pairEgressTimeout k) s) fun t =>
        reports t = reports s ++ [(9, f.engine, f.pc, f.addr, 0xE2)] ∧ t.cl[c].egress = [] ∧ t.clapOps = s.clapOps ∧ t.mem = s.mem) ∧
    (∀ h : Held, s.dict.held = [h] → h.ix = 0x7001 → h.sub = 0 → ofLE h.val ≤ 2 → (∀ e, clusterState s e = 0) → islandOn s 22 = true →
      Answers (exec .checkModeChange s) fun t =>
        t.dict.held = [] ∧ t.mem = s.mem ∧ t.cl = s.cl ∧
        (if ofLE h.val = 2 ∧ pairsWhole (fun e => cget s e 0x4001 0) = false then oget t 0x7001 0 = oget s 0x7001 0
         else oget t 0x7001 0 = ofLE h.val ∧ (oget s 0x7001 0 ≠ ofLE h.val →
          lastEvent t = some (0x0609, payOf [(16, oget s 0x7001 0), (17, ofLE h.val), (20, cutNumber s)]))))

/-- Replicas are corrected without running backwards; the child asks, the parent answers, and the child steps once after four exchanges and then slews. R311, R313, R314, R315, R317, R369. -/
def Obligations.TimecodeExchange : Prop :=
  ∀ s : State,
    (∀ (j : Nat) (off : Bool), j < 24 →
      Answers (exec (.tcReplicaCorrect j off) s) fun t =>
        t.tc = s.tc ∧ (∀ i, i ≠ j → tcAt t i = tcAt s i) ∧ tcAt t j = s.tc + (if off = true ∨ tcAt s j ≠ s.tc then 1 else 0) ∧
        (tcAt s j ≤ s.tc + 1 → tcAt s j ≤ tcAt t j) ∧ t.obj = s.obj ∧ t.cl = s.cl) ∧
    ((∀ x, s.tm.asked = some x → x + 1000000 ≤ s.now) →
      Answers (exec .timeExchangeStart s) fun t =>
        t.tm.asked = some s.now ∧ t.tc = s.tc ∧ t.obj = s.obj ∧
        ∀ p : Fin 6, t.fab.port[p].ctl = s.fab.port[p].ctl ++
          (if (portUp s p && (isCandidate s p || tcParent s == p.val)) = true then [toLE 1 2 ++ zeros 31] else [])) ∧
    (∀ (p : Fin 6) (at' : Nat) (m : List Byte) (rest : List (Nat × List Byte)), s.fab.port[p].rxCtl = (at', m) :: rest →
      (ofLE (slice m 0 1) = 2 →
        Answers (exec (.timeReq p) s) fun t =>
          t.fab.port[p].rxCtl = rest ∧ t.tc = s.tc ∧ t.obj = s.obj ∧
          t.fab.port[p].ctl = s.fab.port[p].ctl ++
            [toLE 1 3 ++ toLE 1 (tcState s) ++ toLE 1 (tcHops s) ++ zeros 5 ++ slice m 8 8 ++ toLE 8 at' ++ zeros 8]) ∧
      (ofLE (slice m 0 1) = 3 → tcParent s = p.val → (ofLE (slice m 1 1) = 2 ∨ ofLE (slice m 1 1) = 4) →
        let th : Int := 500 * ((((ofLE (slice m 16 8) : Nat) : Int) - (ofLE (slice m 8 8) : Nat)) - ((at' : Int) - (ofLE (slice m 24 8) : Nat))) -
          sext 32 (pget s p 7)
        let all := s.tm.thetas ++ [th]
        Answers (exec (.timeResp p) s) fun t =>
          oget t 0x1106 0 = i2n 4 th ∧
          t.tm.delay = 500 * (((at' : Int) - (ofLE (slice m 8 8) : Nat)) - (((ofLE (slice m 24 8) : Nat) : Int) - (ofLE (slice m 16 8) : Nat))) ∧ t.fab.port[p].rxCtl = rest ∧
          (tcState s = 1 → s.unsync = true → s.tm.thetas.length < 3 → t.tc = s.tc ∧ t.tm.thetas = all ∧ t.unsync = true) ∧
          (tcState s = 1 → s.unsync = true → s.tm.thetas.length = 3 →
            t.tc = ((s.tc : Int) + all.foldl (fun a b => a + b) 0 / 4000).toNat ∧ t.unsync = false ∧ t.tm.thetas = [] ∧
            (lastEvent t).map (fun x => x.1) = some 0x0A01) ∧
          (s.unsync = false → t.tc = s.tc ∧ t.unsync = false ∧ (sext 32 (oget t 0x1107 0)).natAbs ≤ 200000000)))

/-- Holdover and a missing parent are logged; beacons carry and step the time; PTP locks the root. R318, R319, R321, R322, R441, R498. -/
def Obligations.TimeSourcesAndLoss : Prop :=
  ∀ s : State,
    (∀ h, s.tm.holdSince = some h → tcState s = 3 → s.tm.holdLogged = false → h + oget s 0x1108 0 * 1000000 < s.now → bestParent s = none →
      tcParent s = 0xFF →
      Answers (exec .tcHoldoverLimit s) fun t =>
        lastEvent t = some (0x0A04, payOf [(16, s.now - h)]) ∧ t.tm.holdLogged = true ∧ tcState t = 3 ∧ t.tc = s.tc) ∧
    (∀ b, s.tm.bareSince = some b → bare s = true →
      (match s.tm.bareLogged with
        | some t => t + 60000000000 ≤ s.now
        | none => b + 10000000000 ≤ s.now) →
      Answers (exec .tcNoParent s) fun t => (lastEvent t).map (fun x => x.1) = some 0x0A09 ∧ t.tm.bareLogged = some s.now ∧ t.tc = s.tc) ∧
    (isDirector s = true → (tcState s = 2 ∨ tcState s = 4) → dapUp s = true → (∀ x, s.dir.beaconAt = some x → x + 100000000 ≤ s.now) →
      Answers (exec .timeBeaconSend s) fun t =>
        (∃ r : EvRec, t.outs = s.outs ++ [Out.can 0x040 (recBytes r)] ∧ r.tc = stampTc s 0xC3 ∧ r.code = 0x0701 ∧ r.src = sourceOf s 0xC3 ∧
          r.pay = payOf [(16, s.dir.beaconTc), (24, s.dir.beaconSeq % 2 ^ 32)]) ∧
        t.dir.beaconTc = tcAt s 22 ∧ t.dir.beaconSeq = s.dir.beaconSeq + 1 ∧ t.tc = s.tc) ∧
    (∀ f : List Byte, dapUp s = true → isDirector s = false → f.length = 64 → ofLE (slice f 12 2) = 0x0701 →
      let seq := ofLE (slice f 24 4)
      (s.dir.rxBeacon = none → Answers (exec (.timeBeaconReceive f) s) fun t => t.dir.rxBeacon = some (seq, tcAt s 22) ∧ t.tc = s.tc ∧ t.unsync = s.unsync) ∧
      (∀ q w, s.dir.rxBeacon = some (q, w) → (q + 1) % 2 ^ 32 = seq → tcParent s = 0xFF → isTimeRoot s = false →
        Answers (exec (.timeBeaconReceive f) s) fun t =>
          tcState t = 5 ∧ t.unsync = false ∧ t.dir.heard = s.now ∧
          t.tc = (if s.unsync then ((s.tc : Int) + (((ofLE (slice f 16 8) : Nat) : Int) - w)).toNat else s.tc))) ∧
    (∀ (at' : Nat) (m : List Byte) (rest : List (Nat × List Byte)), s.dly.ptp.rx = (at', m) :: rest →
      (∀ e tx follow : Int, ptpType m ≠ 11 → ptpMine s m = false → Answers (exec (.ptpSync e tx follow) s) fun t => t = modPtp s fun x => { x with rx := rest }) ∧
      (∀ d l e tx follow : Int, ptpType m = 0 → ptpMine s m = true → bit (ofBE (slice m 6 1)) 1 = false → s.dly.ptp.path = some d → s.dly.ptp.lead = some l →
        let off : Int := (at' : Int) + e + l - (ptpStamp m + ptpCorr m) - d
        Answers (exec (.ptpSync e tx follow) s) fun t =>
          oget t 0x6043 0 = i2n 4 off ∧ t.dly.ptpAt = s.now ∧ t.dly.ptp.rx.length = rest.length ∧
          (oget s 0x6042 0 = 2 → t.tc = s.tc ∧ oget t 0x6042 0 = 2) ∧
          (oget s 0x6042 0 ≠ 2 → off.natAbs ≤ 100 → 15 ≤ s.dly.ptpGood →
            oget t 0x6042 0 = 2 ∧ tcState t = 4 ∧ tcParent t = 0xFF ∧ (s.unsync = true → t.tc = ((s.tc : Int) + (l - off)).toNat ∧ t.unsync = false) ∧
            (s.unsync = false → t.tc = s.tc)) ∧
          (oget s 0x6042 0 ≠ 2 → (100 < off.natAbs ∨ s.dly.ptpGood < 15) →
            oget t 0x6042 0 = oget s 0x6042 0 ∧ t.tc = s.tc ∧ (t.dly.ptpGood = if off.natAbs ≤ 100 then s.dly.ptpGood + 1 else 0) ∧
              t.dly.ptp.lead = some (l - follow)))) ∧
    (ptpOn s = true → (oget s 0x6042 0 = 1 ∨ oget s 0x6042 0 = 2) → s.dly.ptp.lead ≠ none → s.dly.ptpAt + 3000000000 ≤ s.now →
      Answers (exec .ptpLost s) fun t => oget t 0x6042 0 = 3 ∧ tcState t = tcState s ∧ t.tc = s.tc ∧ (lastEvent t).map (fun x => x.1) = some 0x0508)

/-- Training steps follow each other, a late one backs off, IDENT brings the port UP or MISWIRED, and a lost or commanded link falls and trains again. R31, R319, R358, R359, R366, R369, R384. -/
def Obligations.PortsTrainAndFall : Prop :=
  ∀ (s : State) (p : Fin 6),
    let x := s.fab.port[p]
    (∀ (eq : Nat) (lanes : List Nat) (inverted : Nat), portState s p = 2 → 1 ≤ x.step → x.step ≤ 3 → trainLate s p = false →
      (x.step = 3 → lanesJoined lanes = false → Answers (exec (.trainStepComplete p eq lanes inverted) s) fun t => t = s) ∧
      ((x.step = 3 → lanesJoined lanes = true) → Answers (exec (.trainStepComplete p eq lanes inverted) s) fun t =>
        t.fab.port[p].step = x.step + 1 ∧ t.fab.port[p].stepAt = s.now ∧ t.fab.port[p].eq = (if x.step = 1 then pget s p 5 else if x.step = 2 then eq % 256 ^ 64 else x.eq) ∧
        (x.step = 3 → (t.fab.port[p].laneRev = true ↔ lanes ≠ List.range 8) ∧ t.fab.port[p].laneInv = inverted % 256) ∧
        t.fab.port[p].ctl = (if x.step = 3 then List.replicate 16 (identMsg s p) else x.ctl) ∧
        (∀ q, q ≠ p → t.fab.port[q] = s.fab.port[q]) ∧ t.obj = s.obj ∧ t.evlog = s.evlog)) ∧
    (∀ lanes, portState s p = 2 → trainLate s p = true →
      Answers (exec (.trainStepTimeout p lanes) s) fun t =>
        portState t p = 5 ∧ t.fab.port[p].backoffAt = s.now ∧ lastEvent t = some (0x0304, payOf [(16, p.val), (17, x.step), (18, lanes % 256)]) ∧
        pget t p 15 = min (pget s p 15 + 1) (objMax (0x5010 + p.val) 15)) ∧
    (portState s p = 5 → x.backoffAt + 1000000000 ≤ s.now →
      Answers (exec (.backoffExpiry p) s) fun t =>
        (linksBarred s = false → portState t p = 2 ∧ t.fab.port[p].step = 1 ∧ t.fab.port[p].trainAt = s.now) ∧ (linksBarred s = true → portState t p = 1) ∧ t.evlog = s.evlog) ∧
    (∀ (wire at' : Nat) (m : List Byte) (rest : List (Nat × List Byte)), portState s p = 2 → x.step = 4 → trainLate s p = false →
      x.rxCtl = (at', m) :: rest → ofLE (slice m 0 1) = 1 →
      Answers (exec (.ident p wire) s) fun t =>
        (if identBad s p m = none then portState t p = 4 else portState t p = 3 ∧ (lastEvent t).map (fun y => y.1) = some 0x0303) ∧
        t.fab.port[p].step = 0 ∧ t.fab.port[p].expSeq = 0 ∧ t.fab.port[p].retry = [] ∧ pget t p 8 = wire % 2 ^ 32) ∧
    ((portState s p = 4 ∨ portState s p = 3) →
      Answers (exec (.laneLockLoss p) s) fun t =>
        portState t p = (if pget s p 1 = 0 then 0 else if (x.held || linksBarred s) = true then 1 else 2) ∧ t.fab.port[p].retry = [] ∧ t.fab.port[p].txq = [] ∧
        pget t p 14 = min (pget s p 14 + 1) (objMax (0x5010 + p.val) 14)) ∧
    (∀ via, canWrite s via (0x5010 + p.val) 4 = true →
      (Answers (exec (.fabPortRetrain via p) s) fun t => portState t p = (if pget s p 1 = 0 then 0 else if linksBarred s = true then 1 else 2) ∧ t.fab.port[p].held = false) ∧
      (Answers (exec (.fabPortHoldDown via p) s) fun t => portState t p = (if pget s p 1 = 0 then 0 else 1) ∧ t.fab.port[p].held = true))

/-- A good DATA flit in sequence delivers its packets, any other sets NAK; replays resend the retry buffer; a packet leaves in a DATA flit. R361, R363, R364, R365, R367, R369, R373, R383. -/
def Obligations.FlitsAndRetry : Prop :=
  ∀ (s : State) (p : Fin 6),
    let x := s.fab.port[p]
    let lim := oget s 0x5003 0
    let replayed (t : State) : Prop := t.fab.port[p].replay = x.retry.map (fun e => e.1) ∧ t.fab.port[p].retry = x.retry ∧
      t.fab.port[p].replays = x.replays + 1 ∧ pget t p 13 = min (pget s p 13 + 1) (objMax (0x5010 + p.val) 13) ∧ portUp t p = true
    portState s p = 4 →
      (∀ f : Flit, f.fecOk = false →
        Answers (exec (.flitReceive p f) s) fun t =>
          t.fab.port[p] = { x with nak := true } ∧ pget t p 11 = min (pget s p 11 + 1) (objMax (0x5010 + p.val) 11) ∧ t.fab.queue = s.fab.queue) ∧
      (∀ f : Flit, f.fecOk = true → f.corrSyms = 0 → fcrc (flitCtrl f) (flitBody f) ≠ ofLE (slice (flitBody f) 636 4) →
        Answers (exec (.flitReceive p f) s) fun t =>
          t.fab.port[p] = { x with nak := true } ∧ pget t p 12 = min (pget s p 12 + 1) (objMax (0x5010 + p.val) 12) ∧ t.fab.queue = s.fab.queue) ∧
      (∀ f : Flit, f.fecOk = true → f.corrSyms = 0 → fcrc (flitCtrl f) (flitBody f) = ofLE (slice (flitBody f) 636 4) → bits (flitCtrl f) 16 4 = 1 →
        let h := ofLE (slice (flitBody f) 608 28)
        let vc : Fin 4 := ⟨bits h 80 2 % 4, Nat.mod_lt _ (by decide)⟩
        let r := parsePackets 40 (x.rxPart[vc] ++ slice (flitBody f) 0 608) []
        (∀ i, x.identity = some i → i = (bits h 64 16, bits h 61 3)) → bit h 83 = false →
        (bits (flitCtrl f) 4 12 = x.expSeq → r.2.2 = false →
          Answers (exec (.flitReceive p f) s) fun t =>
            t.fab.queue = s.fab.queue ++ r.1.map (fun q => (p.val, q)) ∧ t.fab.port[p].expSeq = (x.expSeq + 1) % 4096 ∧ t.fab.port[p].nak = false ∧
            t.fab.port[p].retry = x.retry.filter (fun e => !ackCovers (bits h 84 12) e.1) ∧ t.fab.port[p].rxPart[vc] = r.2.1 ∧ t.mem = s.mem) ∧
        (bits (flitCtrl f) 4 12 ≠ x.expSeq →
          Answers (exec (.flitReceive p f) s) fun t =>
            t.fab.queue = s.fab.queue ∧ t.fab.port[p].expSeq = x.expSeq ∧ t.fab.port[p].nak = true ∧ t.fab.port[p].rxPart = x.rxPart ∧ t.obj = s.obj)) ∧
      (∀ a, x.replayAt = some a → x.nakSeen = true → x.retry ≠ [] → a + 2000 ≤ s.now → x.replays + 1 < lim →
        Answers (exec (.replayNakTimer p) s) replayed) ∧
      (∀ e l, x.retry = e :: l → e.2.2.2 + 4000 ≤ s.now → x.replays + 1 < lim → Answers (exec (.ackWaitTimer p) s) replayed) ∧
      (∀ m l, x.ctl = m :: l →
        Answers (exec (.flitTransmit p) s) fun t =>
          t.fab.port[p] = { x with ctl := l } ∧ ∃ b, b.length = 640 ∧ t.outs = s.outs ++ [Out.flit p.val (flitMessage 0x20000 b)] ∧ b.take 32 = slice (stampCtl s p m) 0 32) ∧
      (x.ctl = [] → x.replay = [] → (∀ v : Fin 4, x.txPart[v] = []) →
        (x.txq = [] → Answers (exec (.flitTransmit p) s) fun t => t.fab = s.fab ∧ t.obj = s.obj ∧ ∃ b, b.length = 640 ∧ t.outs = s.outs ++ [Out.flit p.val (flitMessage 0 b)]) ∧
        (∀ e, x.txq = [e] → e.1 < 7 → hasCredit x e.2.2 = true → x.retry.length < 256 → (packetBytes e.2.2).length ≤ 608 →
          Answers (exec (.flitTransmit p) s) fun t =>
            t.fab.port[p].txq = [] ∧ t.fab.port[p].txSeq = (x.txSeq + 1) % 4096 ∧
            t.fab.port[p].retry.map (fun e => e.1) = x.retry.map (fun e => e.1) ++ [x.txSeq] ∧
            ∃ b, b.length = 640 ∧ t.outs = s.outs ++ [Out.flit p.val (flitMessage (0x10000 + 16 * x.txSeq) b)] ∧ b.take (packetBytes e.2.2).length = packetBytes e.2.2)) ∧
      (∀ lane, Answers (exec (.fecRateCheck p lane) s) fun t =>
        t.fab.port[p].corr = 0 ∧ (x.corr ≤ oget s 0x5008 0 → t.evlog = s.evlog) ∧
        (oget s 0x5008 0 < x.corr → x.fecWarnAt = none →
          lastEvent t = some (0x0305, payOf [(16, p.val), (17, lane % 8), (20, x.corr % 2 ^ 32)])))

/-- Packets are forwarded by the route table, requests are performed and answered, answers end their requests, and route entries are written. R304, R370, R375, R376, R377, R378, R379, R380, R382. -/
def Obligations.RoutersAndRequests : Prop :=
  ∀ s : State,
    (∀ (n inp : Nat) (p : Packet), s.fab.queue[n]? = some (inp, p) → (s.fab.queue.take n).any (fun x => x.1 == inp && vcOf x.2 == vcOf p) = false →
      unnumbered s = false →
      let q := toPort (bits (routeOf s p.dest) 0 3)
      (bits (routeOf s p.dest) 0 3 = 6 → unavail s = false →
        Answers (exec (.packetForward n .none false 0) s) fun t =>
          t.fab.queue = dropAt s.fab.queue n ∧ t.fab.inbox = s.fab.inbox ++ [(inp, p)] ∧ t.mem = s.mem ∧ t.obj = s.obj) ∧
      (bits (routeOf s p.dest) 0 3 = 6 → unavail s = false →
        Answers (exec (.packetForward n .corrected false 0) s) fun t =>
          t.fab.queue = dropAt s.fab.queue n ∧ t.fab.inbox = s.fab.inbox ++ [(inp, p)] ∧ t.mem = s.mem ∧
          (∀ i : Fin 2, t.fab.eccCorr[i] = s.fab.eccCorr[i] + if i.val = (if routerUnit s inp p = 0xB4 then 0 else 1) then 1 else 0)) ∧
      (bits (routeOf s p.dest) 0 3 < 6 → validModule s p.dest = true → portUp s q = true → p.hops < oget s 0x5004 0 →
        Answers (exec (.packetForward n .none false 0) s) fun t =>
          t.fab.queue = dropAt s.fab.queue n ∧ t.fab.inbox = s.fab.inbox ∧ t.mem = s.mem ∧ t.obj = s.obj ∧
          ∃ y, t.fab.port[q].txq = s.fab.port[q].txq ++ [(inp, (poolOf p).val, y)] ∧ y.data = p.data ∧ y.dest = p.dest ∧ y.tag = p.tag ∧
            y.addr = p.addr ∧ y.hops = if inp < 6 then p.hops + 1 else p.hops)) ∧
    (∀ (inp : Nat) (p : Packet) (rest : List (Nat × Packet)), s.fab.inbox = (inp, p) :: rest →
      (p.type = 1 → unavail s = false → paired s = false → inCollInbox s p.addr = false → p.data.length = p.len →
        ((inMem p.addr p.len && protKey s p.job p.addr p.len 3) = true →
          Answers (exec (.fabWriteRequest 0) s) fun t =>
            Replied s t rest p 0 [] 0 ∧ (∀ i, i < p.len → some (rdByte t (p.addr + i)) = p.data[i]?) ∧
            (∀ a, (a < p.addr ∨ p.addr + p.len ≤ a) → rdByte t a = rdByte s a) ∧ t.cl = s.cl ∧ t.clapVal = s.clapVal) ∧
        ((inMem p.addr p.len && protKey s p.job p.addr p.len 3) = false →
          Answers (exec (.fabWriteRequest 0) s) fun t => Replied s t rest p 1 [] 0 ∧ t.mem = s.mem ∧ t.cl = s.cl)) ∧
      (p.type = 2 → unavail s = false → paired s = false → inMem p.addr p.len = true →
        (protKey s p.job p.addr p.len 2 = true →
          Answers (exec (.fabReadRequest 0 .none) s) fun t =>
            ∃ z, Replied s t rest p 0 (rdBytes s p.addr p.len) z ∧ (anyMesh s (entryUnit inp p) p.addr p.len = false → z = 0) ∧ t.mem = s.mem ∧ t.obj = s.obj) ∧
        (protKey s p.job p.addr p.len 2 = false → Answers (exec (.fabReadRequest 0 .none) s) fun t => Replied s t rest p 1 [] 0 ∧ t.mem = s.mem)) ∧
      (∀ k, p.type = 2 → unavail s = false → region p.addr = .clap k → protKey s p.job p.addr p.len 2 = true → p.addr % 64 + p.len ≤ 64 → clapBad s k = false →
        Answers (exec (.fabReadRequest 0 .none) s) fun t =>
          Replied s t rest p 0 ((List.range p.len).map fun i => ((toLE 8 (clapGet s k).toNat)[(p.addr + i) % 8]?).getD 0) 0 ∧
          t.clapVal = s.clapVal ∧ t.clapPz = s.clapPz ∧ t.mem = s.mem) ∧
      (p.type = 3 → unavail s = false →
        ((protKey s p.job (p.addr / 64 * 64) 64 3 && decide (p.opc ≤ 6)) = true →
          Answers (exec (.fabClapRequest 0) s) fun t =>
            clapsOut t = clapsOut s ++ [(p.opc, (p.addr - clapBase) / 64, BitVec.ofNat 64 (ofLE (slice p.data 0 8)))] ∧ t.fab.inbox = rest ∧
            t.clapVal = s.clapVal ∧ t.mem = s.mem) ∧
        ((protKey s p.job (p.addr / 64 * 64) 64 3 && decide (p.opc ≤ 6)) = false →
          Answers (exec (.fabClapRequest 0) s) fun t => Replied s t rest p 1 [] 0 ∧ t.clapOps = s.clapOps)) ∧
      (∀ r, isResp p = true → reqFor s p = some r →
        let left := s.reqs.filter (fun x => !(x.pkt.srcUnit == p.srcUnit && x.pkt.tag == p.tag))
        (∀ (c : Fin 8) (rd w : Nat) (sg : Bool) (a : Nat), r.why = .winLoad c → p.opc = 0 → s.cl[c].core.status = .winLoad rd w sg a true none →
          Answers (exec (.fabRespArrival 0) s) fun t =>
            t.reqs = left ∧ t.fab.inbox = rest ∧ t.cl = (modCore s c fun k => { k with status := .winLoad rd w sg a true (some (0, p.poison != 0, p.data)) }).cl) ∧
        (∀ (c : Fin 8) (id u : Nat) (f : FaultRep), r.why = .send c id u f → p.opc = 0 → p.srcUnit / 16 = c.val →
          (∀ x, (s.cl[c].mma.find? (fun r => r.id == id)).bind (fun r => r.units.find? (fun y => y.u == u)) = some x → x.stage ≠ 5) →
          Answers (exec (.sendWriteAck c 0) s) fun t =>
            t.reqs = left ∧ t.fab.inbox = rest ∧ t.cl = (modUnit s c id u fun y => { y with outst := y.outst - 1 }).cl ∧
            cget t c 0x4051 1 = min (cget s c 0x4051 1 + r.pkt.len) (objMax (cobj c 0x4051) 1))) ∧
      (isResp p = true → reqFor s p = none →
        Answers (exec (.fabRespArrival 0) s) fun t =>
          t.fab.inbox = rest ∧ t.reqs = s.reqs ∧ t.cl = s.cl ∧ oget t 0x5007 3 = min (oget s 0x5007 3 + 1) (objMax 0x5007 3))) ∧
    (∀ (unit tag : Nat) (r : Req) (c : Fin 8) (rd w : Nat) (sg : Bool) (a : Nat),
      s.reqs.find? (fun r => r.pkt.srcUnit == unit && r.pkt.tag == tag) = some r → r.due ≤ s.now → r.why = .winLoad c →
      s.cl[c].core.status = .winLoad rd w sg a true none →
      Answers (exec (.fabRespTimeout unit tag) s) fun t =>
        t.reqs = s.reqs.filter (fun x => !(x.pkt.srcUnit == unit && x.pkt.tag == tag)) ∧
        t.cl = (modCore s c fun k => { k with status := .winLoad rd w sg a true (some (12, false, [])) }).cl ∧ t.mem = s.mem) ∧
    (∀ (via : Iface) (first : Nat) (data : List Byte), canWrite s via 0x5005 0 = true → data ≠ [] → first + data.length ≤ 32768 → unnumbered s = false →
      data.zipIdx.all (fun x => routeOk s (first + x.2) x.1.toNat) = true →
      Answers (exec (.fabRouteWrite via first data) s) fun t =>
        (∀ i b, data[i]? = some b → routeOf t (first + i) = b.toNat) ∧ (∀ m, (m < first ∨ first + data.length ≤ m) → routeOf t m = routeOf s m) ∧
        lastEvent t = some (0x0307, payOf [(16, first), (20, data.length), (24, ifaceNo via)]) ∧ t.mem = s.mem) ∧
    (∀ via, canWrite s via 0x5006 0 = true → Answers (exec (.fabRouteDefault via) s) fun t =>
      (∀ m, routeOf t m = defaultRoute s m) ∧ t.obj = s.obj ∧ t.fab.port = s.fab.port)

/-- A group's collective is launched, takes a context, completes its entries and its sheet, or times out and is released. R389, R390, R391, R392, R393, R394, R395, R400, R404, R406, R410. -/
def Obligations.CollectivesLaunchAndEnd : Prop :=
  ∀ (s : State) (g : Nat),
    let signal (c i : Nat) : List (Nat × Nat × Word) := if i = 0 then [] else [(2, clapNo c, BitVec.ofNat 64 i)]
    let freed (t : State) : Prop := (groupOf t g).run = none ∧ gget t g 11 = if (groupOf t g).waiting = [] then 0 else 1
    (s.freed.contains (.launch g) = true → gget s g 1 = 1 → drained s = false → mayStart s = true →
      Answers (exec (.grpLaunch g) s) fun t =>
        (groupOf t g).waiting = (groupOf s g).waiting ++ [(gget s g 9, s.now)] ∧ (groupOf t g).run = (groupOf s g).run ∧
        gget t g 9 = (gget s g 9 + 1) % 2 ^ 32 ∧ gget t g 11 = (if gget s g 11 = 0 then 1 else gget s g 11) ∧ t.freed.contains (.launch g) = false ∧
        (∀ h, h ≠ g → groupOf t h = groupOf s h) ∧ t.mem = s.mem ∧ t.cl = s.cl) ∧
    (∀ (e : Fin 2) (seq at' : Nat), oldestLaunch s = some (g, seq, at') → contextsUsed s < 64 → dirEngine s g 0 0 = e.val →
      let a := gget s g 7 + 64 * (seq % gget s g 8)
      let b := rdBytes s (outerAddr s a) 64
      let es := (List.range (eF b 16 2)).map fun i => rdBytes s (outerAddr s (eF b 8 8 + 64 * i)) 64
      (slotCheck s g e.val a b = none → (∀ k x, es[k]? = some x → entryCheck s g e.val (eF b 8 8 + 64 * k) x (es.any isRing) = none) →
        (∀ x, es[0]? = some x → eFlag x 0 = true) →
        Answers (exec (.contextTake e) s) fun t =>
          (∃ r, (groupOf t g).run = some r ∧ r.seq = seq ∧ r.entries.map (fun x => x.bytes) = es ∧
            r.entries.map (fun x => x.stage) = 1 :: List.replicate (es.length - 1) 0) ∧
          gget t g 11 = 2 ∧ (groupOf t g).waiting = (groupOf s g).waiting.drop 1 ∧ t.mem = s.mem) ∧
      (∀ code check side addr, slotCheck s g e.val a b = some (code, check, side, addr) →
        Answers (exec (.contextTake e) s) fun t => freed t ∧ reports t = reports s ++ [(code, 9, 0, addr, det check side 0xFF g)] ∧ t.mem = s.mem)) ∧
    (∀ (seq : Nat) (x : Nat × Nat), (groupOf s g).waiting.find? (fun y => y.1 == seq) = some x → x.2 + oget s 0x5021 0 * 1000000 ≤ s.now →
      Answers (exec (.collStarve g seq) s) fun t =>
        (groupOf t g).waiting = (groupOf s g).waiting.filter (fun y => y.1 != seq) ∧
        reports t = reports s ++ [(0x0B, 9, 0, 0, det 10 3 0xFF g)] ∧ t.mem = s.mem) ∧
    (∀ r : CollRun, (groupOf s g).run = some r →
      (∀ (k : Nat) (x : CollEntry), r.entries[k]? = some x → gget s g 11 = 2 → x.stage = 2 → entryQuiet s g r k x = true →
        (isRing x.bytes = true → x.joined = false →
          Answers (exec (.entryDone g r.seq k) s) fun t =>
            clapsOut t = clapsOut s ++ [(2, clapNo (gget s g 6 + 1), 1)] ∧ t.mem = s.mem ∧
            (groupOf t g).run = some { r with entries := r.entries.zipIdx.map fun y => if y.2 = k then { y.1 with joined := true } else y.1 }) ∧
        (isRing x.bytes = false →
          ((∀ j y, r.entries[j]? = some y → j ≠ k → y.stage = 3) →
            Answers (exec (.entryDone g r.seq k) s) fun t =>
              freed t ∧ clapsOut t = clapsOut s ++ signal (eF x.bytes 16 2) (eF x.bytes 18 2) ++ signal r.sigClap r.sigInc ∧
              oget t 0x5026 1 = min (oget s 0x5026 1 + 1) (objMax 0x5026 1) ∧ t.mem = s.mem) ∧
          ((∃ j y, r.entries[j]? = some y ∧ j ≠ k ∧ y.stage ≠ 3) → (∀ y, r.entries[k + 1]? = some y → eFlag y.bytes 1 = false) →
            Answers (exec (.entryDone g r.seq k) s) fun t =>
              clapsOut t = clapsOut s ++ signal (eF x.bytes 16 2) (eF x.bytes 18 2) ∧ t.mem = s.mem ∧
              (groupOf t g).run = some { r with entries := r.entries.zipIdx.map fun y => if y.2 = k then { y.1 with stage := 3 } else y.1 }))) ∧
      (∀ l : SendLane, gget s g 11 = 2 →
        r.send.find? (fun l => decide (l.acked < (lanePieces s g r l).length) && decide (l.at_ + oget s 0x5022 0 * 1000000 ≤ s.now)) = some l →
        Answers (exec (.collProgressTimeout g r.seq) s) fun t =>
          gget t g 11 = 3 ∧ reports t = reports s ++ [(12, 9, 0, 0, det 8 4 l.k g)] ∧ t.mem = s.mem) ∧
      (gget s g 11 = 3 → s.reqs.any (ofColl g r.seq) = false →
        Answers (exec (.collInstanceRelease g r.seq) s) fun t => freed t ∧ t.reqs = s.reqs ∧ t.faults = s.faults ∧ t.mem = s.mem) ∧
      (∀ (l at' : Nat) (x : RecvLane), r.recv[l]? = some x → x.since = some at' → gget s g 11 = 2 → x.told < x.count → at' + 2000 ≤ s.now →
        Answers (exec (.collAckTimer g r.seq l) s) fun t =>
          (∃ q, t.reqs = s.reqs ++ [q] ∧ q.pkt.data = collMsg s 4 g x.lane r.seq x.k x.count 0 0 0 0 0 0 ∧ q.why = .collMsg g r.seq x.k) ∧
          (groupOf t g).run = some { r with recv := mapIf (fun y => y.k == x.k && y.lane == x.lane) (fun y => { y with told := y.count, since := none }) r.recv } ∧
          t.mem = s.mem))

/-- RTS, CTS, ACK, REREQ and CHUNK messages move the lanes they name; a stray is counted; a chunk leaves in packets and is verified, re-requested or failed. R397, R398, R399, R400, R401, R402, R403, R413. -/
def Obligations.CollectiveMessages : Prop :=
  ∀ (s : State),
    (∀ (eng src : Nat) (b : List Byte) (rest : List (Nat × Nat × List Byte)), s.coll.msgs = (eng, src, b) :: rest →
      let g := eF b 9 1
      (∀ (i : Instr) (w : Nat), (i, eF b 8 1) ∈ [(Instr.chunk 0, 1), (.rts 0, 2), (.cts 0, 3), (.ack 0, 4), (.rereq 0, 5)] → strayWhy s b = some w →
        Answers (exec i s) fun t =>
          t.coll.msgs = rest ∧ oget t 0x5026 8 = min (oget s 0x5026 8 + 1) (objMax 0x5026 8) ∧ t.coll.groups = s.coll.groups ∧ t.mem = s.mem) ∧
      (strayWhy s b = none →
        (eF b 8 1 = 2 → (groupOf s g).run = none →
          Answers (exec (.rts 0) s) fun t =>
            t.coll.msgs = rest ∧ t.mem = s.mem ∧
            (groupOf t g).heldRts = (groupOf s g).heldRts.filter (fun h => h.1 != eF b 10 1) ++ [(eF b 10 1, b)]) ∧
        (∀ (r : CollRun) (x : CollEntry), eF b 8 1 = 2 → msgRun s b = some r → r.entries[eF b 13 1]? = some x → 2 ≤ x.stage → eF b 56 4 = grpHash s g →
          ((isRing x.bytes = false ∧ eF b 10 1 < 4) ∨
            (isRing x.bytes = true ∧ ((eF b 10 1 = 0 ∧ (eF b 34 2 + 1) % grpSize s g = grpRank s g) ∨ (eF b 10 1 = 1 ∧ (grpRank s g + 1) % grpSize s g = eF b 34 2)))) →
          (laneBusy s g r (eF b 10 1) = true → Answers (exec (.rts 0) s) fun t =>
            t.coll.msgs = rest ∧ t.reqs = s.reqs ∧ (groupOf t g).run = (groupOf s g).run ∧ (eF b 10 1, b) ∈ (groupOf t g).heldRts ∧ t.mem = s.mem) ∧
          (laneBusy s g r (eF b 10 1) = false → Answers (exec (.rts 0) s) fun t =>
            t.coll.msgs = rest ∧ t.reqs.length = s.reqs.length + 1 ∧ t.mem = s.mem ∧
            ∃ r', (groupOf t g).run = some r' ∧ r'.send = r.send ∧ r'.entries = r.entries ∧
              r'.recv.map (fun l => (l.k, l.lane, l.peer, l.count)) =
                (r.recv.filter (fun l => !(l.k == eF b 13 1 && l.lane == eF b 10 1))).map (fun l => (l.k, l.lane, l.peer, l.count)) ++
                  [(eF b 13 1, eF b 10 1, eF b 34 2, 0)])) ∧
        (∀ (r : CollRun) (l : SendLane), msgRun s b = some r →
          let moved (f : SendLane → SendLane) (t : State) : Prop :=
            t.coll.msgs = rest ∧ t.mem = s.mem ∧ t.reqs = s.reqs ∧ (groupOf t g).run = some { r with send := mapIf (isLane b) f r.send }
          (eF b 8 1 = 3 → r.send.find? (fun l => isLane b l && !l.isOpen) = some l →
            (eF b 56 4 = grpHash s g → Answers (exec (.cts 0) s) (moved fun l => { l with isOpen := true, dst := eF b 48 8, at_ := s.now })) ∧
            (eF b 56 4 ≠ grpHash s g → Answers (exec (.cts 0) s) fun t => gget t g 11 = 3 ∧ reports t = reports s ++ [(3, 9, 0, 0, det 6 4 l.k g)])) ∧
          (eF b 8 1 = 4 → r.send.find? (fun l => isLane b l && l.isOpen) = some l →
            Answers (exec (.ack 0) s) (moved fun l => { l with acked := max l.acked (min (eF b 40 4) l.next), at_ := s.now })) ∧
          (eF b 8 1 = 5 →
            r.send.find? (fun l => isLane b l && l.isOpen && decide (eF b 40 4 < l.next) && decide (l.acked ≤ eF b 40 4) && !l.resend.contains (eF b 40 4)) = some l →
            Answers (exec (.rereq 0) s) (moved fun l => { l with resend := l.resend ++ [eF b 40 4], at_ := s.now }))) ∧
        (∀ (r : CollRun) (l : RecvLane), eF b 8 1 = 1 → msgRun s b = some r → r.recv.find? (isRLane b) = some l → l.count = eF b 40 4 → l.beyond = [] →
          let data := engRead s eng (eF b 48 8) (min (eF b 44 4) 65536)
          let good := crc32c (data.map (fun x => x.1)) = eF b 56 4
          (good → firstPoison (eF b 48 8) data = none → l.dir = 2 → (groupOf s g).heldRts = [] →
            Answers (exec (.chunk 0) s) fun t =>
              t.coll.msgs = rest ∧ t.mem = s.mem ∧
              ∃ r', (groupOf t g).run = some r' ∧ r'.recv.map (fun y => (y.k, y.lane, y.count)) =
                r.recv.map fun y => (y.k, y.lane, if y.k = l.k ∧ y.lane = l.lane then l.count + 1 else y.count)) ∧
          (¬ good → eF b 12 1 % 2 = 0 →
            Answers (exec (.chunk 0) s) fun t =>
              t.coll.msgs = rest ∧ t.mem = s.mem ∧ (lastEvent t).map (fun x => x.1) = some 0x0402 ∧ t.reqs.length = s.reqs.length + 1 ∧
              ∃ r', (groupOf t g).run = some r' ∧ r'.recv.map (fun y => (y.count, y.asked)) =
                r.recv.map fun y => (y.count, if isRLane b y then y.asked ++ [eF b 40 4] else y.asked)) ∧
          (¬ good → eF b 12 1 % 2 = 1 →
            Answers (exec (.chunk 0) s) fun t =>
              gget t g 11 = 3 ∧ reports t = reports s ++ [(0x0A, 9, 0, eF b 48 8, det 7 1 l.k g)])))) ∧
    (∀ (e : Fin 2) (g m att : Nat) (l : SendLane) (p : Piece) (r : CollRun) (x : CollEntry), nextGroup s e = some (g, l, m, p, att) →
      (groupOf s g).run = some r → r.entries[l.k]? = some x →
      let d := (pieceData s g r e.val x.bytes p).1
      d.any (fun y => y.2) = false →
      Answers (exec (.chunkSend e) s) fun t =>
        (t.reqs.take s.reqs.length) = s.reqs ∧ (t.reqs.drop s.reqs.length).flatMap (fun q => q.pkt.data) = d.map (fun y => y.1) ∧
        t.coll.last[e] = g ∧ t.mem = s.mem ∧ t.faults = s.faults ∧
        ∃ r', (groupOf t g).run = some r' ∧ r'.entries = r.entries ∧ r'.recv = r.recv ∧
          r'.send.map (fun y => (y.k, y.lane, y.peer, y.next, y.acked)) =
            r.send.map fun y => (y.k, y.lane, y.peer,
              if y.k = l.k ∧ y.lane = l.lane ∧ y.peer = l.peer ∧ att = 0 then y.next + 1 else y.next, y.acked))

/-- Queue pairs are armed, failed and reset; a posted order enters its reel; a claimed order is queued or faults; Ethernet ports come up and go down. R142, R420, R424, R425, R426, R427, R428, R433, R439, R444. -/
def Obligations.OrdersAndQueuePairs : Prop :=
  ∀ s : State,
    (∀ (via : Iface) (q : Nat), q < 1024 → canWrite s via (0x6100 + q) 2 = true →
      (qget s q 1 = 0 → drained s = false → qget s q 5 ≠ 0 → qget s q 6 ≠ 0 →
        Answers (exec (.qpArm via q) s) fun t =>
          qget t q 1 = 1 ∧ qget t q 0x0F = qget s q 0x0A ∧ qget t q 0x0E = 800000 ∧ (qpOf t q).msgs = [] ∧ (qpOf t q).unacked = [] ∧
          (qpOf t q).una = qget s q 0x0A ∧ (∀ r, r ≠ q → qpOf t r = qpOf s r) ∧ t.mem = s.mem) ∧
      (qget s q 1 = 1 →
        Answers (exec (.qpErrorCmd via q) s) fun t =>
          qget t q 1 = 2 ∧ (qpOf t q).msgs = [] ∧ (qpOf t q).unacked = [] ∧ t.dly.trackers = s.dly.trackers.filter (fun k => k.qp != q) ∧
          qget t q 17 = min (qget s q 17 + (qpOf s q).msgs.length) (objMax (0x6100 + q) 17) ∧ (∀ r, r ≠ q → qpOf t r = qpOf s r) ∧ t.mem = s.mem) ∧
      (qget s q 1 = 2 → Answers (exec (.qpResetCmd via q) s) fun t =>
        t = blockApply (qset s q 1 0) (blockOf (0x6100 + q) 1) ∧ (s.dict.held = [] → t = qset s q 1 0))) ∧
    (∀ (via : Iface) (b : Nat) (data : List Byte), b < 32 → paired s = false →
      let c := bindCluster s b
      let r := bindReel s b
      canWrite s via 0x6012 (b + 1) = true → data.length = 64 → drained s = false → rlConsumer s c r = 4 → reelFree s c r = true →
      (reelOf s c r).resv = [] →
      Answers (exec (.dlyPost via b data) s) fun t =>
        (∀ i, i < 64 → some (rdByte t (slotAddr s c r (rlGet s c r 6) + i)) = data[i]?) ∧
        (∀ a, (a < slotAddr s c r (rlGet s c r 6) ∨ slotAddr s c r (rlGet s c r 6) + 64 ≤ a) → rdByte t a = rdByte s a) ∧
        rlGet t c r 6 = (rlGet s c r 6 + 1) % rlSlots s c r ∧ rlGet t c r 7 = rlGet s c r 7 + 1 ∧ rlGet t c r 8 = rlGet s c r 8 + 1 ∧
        t.dly = s.dly ∧ t.faults = s.faults) ∧
    (∀ (e : Fin 2) (b : Nat), paired s = false → dailiesServe s = true → mayStart s = true → b < 32 → heldOf s b = none →
      ((List.range 32).map (fun i => (s.dly.lastBinding[e] + 1 + i) % 32)).find? (bindReady s e.val) = some b →
      let c := bindCluster s b
      let r := bindReel s b
      let slot := reelNext s c r
      let o := rdBytes s (slotAddr s c r slot) 64
      (∀ x, orderBad (reelClaim s c r) b slot o = some x →
        Answers (exec (.dlyOrderClaim e) s) fun t =>
          reports t = reports s ++ [(x.1, 10, 0, slotAddr s c r slot, det x.2.1 0 x.2.2 b)] ∧ t.dly.qps = s.dly.qps ∧ t.mem = s.mem) ∧
      (orderBad (reelClaim s c r) b slot o = none → isPage o = true → qget s (oQp o) 1 = 1 → qpRoom s (oQp o) = true →
        ((openTracker s (oQp o) (oSeq o)).isSome = true ∨ trackersFree s (qpEngine (oQp o)) ≠ 0) →
        Answers (exec (.dlyOrderClaim e) s) fun t =>
          (qpOf t (oQp o)).msgs.map (fun m => (m.order, m.binding)) = (qpOf s (oQp o)).msgs.map (fun m => (m.order, m.binding)) ++ [(o, b)] ∧
          rlGet t c r 8 = rlGet s c r 8 - 1 ∧ t.faults = s.faults ∧ t.mem = s.mem)) ∧
    (∀ p : Fin 2,
      ((oget s 0x6006 (p.val + 1) = 1 ∨ oget s 0x6006 (p.val + 1) = 2) → oget s 0x6001 (p.val + 1) ≠ 0 → dailiesServe s = true →
        Answers (exec (.ethLinkUp p) s) fun t => oget t 0x6006 (p.val + 1) = 3 ∧ lastEvent t = some (0x0505, payOf [(16, p.val)]) ∧ t.dly = s.dly) ∧
      (oget s 0x6006 (p.val + 1) = 3 →
        Answers (exec (.ethLinkDown p) s) fun t =>
          oget t 0x6006 (p.val + 1) = 1 ∧ lastEvent t = some (0x0506, payOf [(16, p.val), (17, 0)]) ∧ t.dly = s.dly))

/-- A queue pair sends its next packet and takes acknowledgements, NAKs, congestion notices and timeouts; frames that are not for it are counted. R418, R420, R421, R422, R423, R432, R437, R438. -/
def Obligations.RoceTraffic : Prop :=
  ∀ (s : State),
    (∀ (e : Fin 2) (q i : Nat) (m : DlyMsg) (again : Bool), ethUp s e.val = true → nextQp s e = some q → nextPacket s q = some (m, i, again) →
      Answers (exec (.rocePacketTransmit e) s) fun t =>
        (∃ f, t.outs.getLast? = some (Out.eth (qpEngine q) f)) ∧ t.dly.lastQp[e] = q ∧ t.mem = s.mem ∧ (∀ r, r ≠ q → qpOf t r = qpOf s r) ∧
        (if again = true then qget t q 0x0F = qget s q 0x0F ∧ qget t q 18 = min (qget s q 18 + 1) (objMax (0x6100 + q) 18)
         else qget t q 0x0F = (qget s q 0x0F + 1) % 2 ^ 24 ∧ (qpOf t q).unacked = (qpOf s q).unacked ++ [(qget s q 0x0F, s.now)])) ∧
    (∀ q : Nat, q < 1024 → qget s q 1 = 1 →
      let x := qpOf s q
      let only (t : State) : Prop := (∀ r, r ≠ q → qpOf t r = qpOf s r) ∧ t.mem = s.mem ∧ t.cl = s.cl ∧ t.hf = s.hf
      let dead (t : State) : Prop := qget t q 1 = 2 ∧ (qpOf t q).msgs = [] ∧ (qpOf t q).unacked = [] ∧ only t
      (∀ psn, psn < 2 ^ 24 → psnOut x psn = true →
        (Answers (exec (.roceAck q psn) s) fun t =>
          (qpOf t q).una = (psn + 1) % 2 ^ 24 ∧ (qpOf t q).unacked = x.unacked.drop (psnDist x.una psn + 1) ∧ (qpOf t q).tries = 0 ∧
          (qpOf t q).msgs = (ackedMsgs ((psn + 1) % 2 ^ 24) x.msgs).2 ∧ only t) ∧
        (Answers (exec (.roceNakSequence q psn) s) fun t => qpOf t q = { x with again := some psn, rnr := none } ∧ only t ∧ t.obj = s.obj) ∧
        (∀ timer, (qget s q 0x0D = 7 ∨ x.rnrTries < qget s q 0x0D) →
          Answers (exec (.roceRnrNak q psn timer) s) fun t =>
            qpOf t q = { x with rnrTries := x.rnrTries + 1, rnr := some (s.now + rnrWait timer, psn) } ∧ only t) ∧
        (∀ timer, qget s q 0x0D ≠ 7 → qget s q 0x0D ≤ x.rnrTries → Answers (exec (.roceRnrNak q psn timer) s) dead) ∧
        (∀ kind, Answers (exec (.roceNakFatal q psn kind) s) dead)) ∧
      (∀ w p, x.rnr = some (w, p) → w ≤ s.now → Answers (exec (.rnrTimerExpiry q) s) fun t => qpOf t q = { x with rnr := none, again := some p } ∧ only t) ∧
      (let due := oget s 0x6021 0 * 1000 ≤ (tcAt s 20 + 2 ^ 64 - x.lastCut) % 2 ^ 64
       Answers (exec (.cnpReceive q) s) fun t =>
        (qpOf t q).cnpSeen = true ∧ qget t q 19 = min (qget s q 19 + 1) (objMax (0x6100 + q) 19) ∧ only t ∧
        (due → qget t q 0x0E = max (oget s 0x6024 0) (qget s q 0x0E - qget s q 0x0E * oget s 0x6020 0 / 256) ∧ (qpOf t q).lastCut = tcAt s 20) ∧
        (¬ due → qget t q 0x0E = qget s q 0x0E)) ∧
      (∀ p w l, x.unacked = (p, w) :: l → x.rnr = none → w + 4096 * 2 ^ qget s q 0x0B ≤ s.now →
        Answers (exec (.qpAckTimeout q) s) fun t =>
          if qget s q 0x0C ≤ x.tries then dead t
          else (qpOf t q).again = some p ∧ (qpOf t q).tries = x.tries + 1 ∧ qget t q 0x0E = max (oget s 0x6024 0) (qget s q 0x0E / 2) ∧ only t)) ∧
    (s.now < s.dly.ccAt + oget s 0x6022 0 * 1000 → Answers (exec .ccPeriod s) fun t => t = s) ∧
    ((s.dly.qps.map (fun x => x.1)).Nodup → s.dly.ccAt + oget s 0x6022 0 * 1000 ≤ s.now →
      Answers (exec .ccPeriod s) fun t =>
        (∀ q ∈ s.dly.qps.map (fun x => x.1), qget s q 1 = 1 →
          (qpOf t q).cnpSeen = false ∧ (qpOf t q).unacked = (qpOf s q).unacked ∧
          qget t q 0x0E = if (qpOf s q).cnpSeen then qget s q 0x0E else min 800000 (qget s q 0x0E + oget s 0x6023 0)) ∧ t.mem = s.mem) ∧
    (∀ (p : Fin 2) (f : List Byte), ethUp s p.val = true → oget s 0x6005 (p.val + 1) = 0 →
      let ty := ofBE (slice f 12 2)
      let b := (f.drop 12).drop 2
      (ty = 0x0806 → slice b 0 8 = toBE 2 1 ++ toBE 2 0x0800 ++ toBE 1 6 ++ toBE 1 4 ++ toBE 2 1 → slice b 24 4 = ethIp4 s p.val →
        oget s 0x6003 (p.val + 1) ≠ 0 →
        Answers (exec (.ethFrameReceive p f) s) fun t =>
          (∃ g, t.outs = s.outs ++ [Out.eth p.val g] ∧ g.take 12 = slice b 8 6 ++ ethMac s p.val) ∧ t.obj = s.obj ∧ t.dly = s.dly) ∧
      (ty ∉ [0x0806, 0x0800, 0x86DD, 0x8100, 0x88F7] →
        Answers (exec (.ethFrameReceive p f) s) fun t =>
          t = obump s 0x6007 (p.val + 1) 1 ∧ oget t 0x6007 (p.val + 1) = min (oget s 0x6007 (p.val + 1) + 1) (objMax 0x6007 (p.val + 1))))

/-- SEAL_SEND composes the seal of a sequence whose pages are all acknowledged and whose count agrees, and drops one that disagrees. R432, R433, R434, R435. -/
def Obligations.SealsFollowTheirPages : Prop :=
  ∀ (s : State) (q : Nat) (m : DlyMsg), q < 1024 → qget s q 1 = 1 → nextMsg (qpOf s q) = some m → isPage m.order = false → m.total = 0 →
    let k := (trkOf s m.trk).getD (Tracker.fresh 0 q (oSeq m.order) false)
    (k.acked ≠ k.count → Answers (exec (.sealSend q) s) fun t => t = s) ∧
    (k.acked = k.count → k.count ≠ oFirst m.order →
      Answers (exec (.sealSend q) s) fun t => (qpOf t q).msgs = (qpOf s q).msgs.erase m ∧ trkOf t m.trk = none ∧ t.mem = s.mem ∧ qget t q 1 = 1) ∧
    (k.acked = k.count → k.count = oFirst m.order → ethUp s (qpEngine q) = false →
      Answers (exec (.sealSend q) s) fun t =>
        (qpOf t q).msgs.length = (qpOf s q).msgs.length ∧ t.outs = s.outs ∧ t.mem = s.mem ∧ t.obj = s.obj ∧
        (∃ m' ∈ (qpOf t q).msgs, m'.order = m.order ∧ m'.trk = m.trk ∧ m'.total = 1 ∧
          m'.head = composeSeal s m.order (dlyUnit (qpEngine q)) (stampTc s (dlyUnit (qpEngine q))) k ∧ m'.head.length = 64))

/-- A mailbox OP queues its access; the engine performs the access at the head and posts the outcome; a held value applies when its block is idle. R473, R475, R476, R478, R479, R480, R500, R501. -/
def Obligations.MailboxAccesses : Prop :=
  ∀ s : State,
    (∀ (m : Nat) (w : Bool), mboxServed s m = true →
      let x := mboxGet s m
      let i : Instr := if w = true then .mailboxWrite m else .mailboxRead m
      (x.status = 1 → Answers (exec i s) fun t => t = obump s 0x1210 0 1) ∧
      (x.status ≠ 1 → Answers (exec i s) fun t =>
        mboxGet t m = { x with status := 1 } ∧ (∀ k, k ≠ m → mboxGet t k = mboxGet s k) ∧ t.obj = s.obj ∧ t.mem = s.mem ∧
        t.dict.queue = s.dict.queue ++ [{ src := .mailbox m, write := w, ix := x.index, sub := x.sub, flags := x.flags, node := x.node,
                                          data := if w = true then (List.range (min x.length 65537)).map (fun i => mget 0 x.data i) else [] }])) ∧
    (∀ (q : DictReq) (rest : List DictReq) (m : Nat) (flash : Bool), s.dict.queue = q :: rest → engineOn s = true → q.node = 0 →
      flagsBad q.flags = false → q.src = .mailbox m →
      let s1 : State := { s with dict := { s.dict with queue := rest } }
      (q.write = false →
        Answers (exec (.dictAccessComplete flash) s) fun t =>
          t.dict.queue = rest ∧ t.obj = s.obj ∧ t.mem = s.mem ∧
          MailboxEnds s t m (objRead s1 (srcIface q.src) q.ix q.sub q.flags).1 (objRead s1 (srcIface q.src) q.ix q.sub q.flags).2) ∧
      (∀ r : ObjRow, q.write = true → objAt q.ix q.sub = .row r → r.acc = .st → canWrite s (srcIface q.src) q.ix q.sub = true → bootState s ≠ 11 →
        objAction s1 (srcIface q.src) q.ix q.sub (bit q.flags 2) q.data flash = none → aloneCheck s1 r q.ix q.sub q.data = 0 →
        Answers (exec (.dictAccessComplete flash) s) fun t =>
          t.dict.queue = rest ∧ MailboxEnds s t m 0 [] ∧ staged t q.ix q.sub = ofLE q.data ∧ t.obj = s.obj ∧ t.dict.held = s.dict.held ∧
          t.flash = s.flash)) ∧
    (∀ h : Held, s.dict.held = [h] → 0x9100 ≤ h.ix → h.ix < 0x9108 → appliesIdle h.ix h.sub = true →
      (blockIdle s h.ix h.sub (ofLE h.val) = true →
        Answers (exec (.heldValueApply 0) s) fun t => oget t h.ix h.sub = ofLE h.val ∧ t.dict.held = [] ∧ t.mem = s.mem ∧ t.hf = s.hf) ∧
      (blockIdle s h.ix h.sub (ofLE h.val) = false → Answers (exec (.heldValueApply 0) s) fun t => t = s))

/-- DAP requests, segments and acknowledgements move their transaction, and every response names its command, client, transaction and STATUS. R491, R492, R493, R494, R495, R502. -/
def Obligations.DapTransfers : Prop :=
  ∀ (s : State),
    (∀ (n : Nat) (f : List Byte), dapHears s n = true →
      let c := eF f 1 1
      let k := eF f 2 1
      let x := txOfFrame s f
      let others := s.dict.txs.filter (fun t => !(t.client == c && t.tid == k))
      let waiting := s.dict.queue.filter (fun q => q.src != .dap c k)
      let heard (t : State) : Prop := t.mem = s.mem ∧ t.flash = s.flash
      (reqBad f = false → validClient c = true → (others.filter (fun t => t.client == c)).length < 4 →
        let queued (w : Bool) (data : List Byte) (t : State) : Prop :=
          t.dict.txs = others ++ [x] ∧ t.outs = s.outs ∧ heard t ∧
          t.dict.queue = waiting ++ [{ src := .dap c k, write := w, ix := x.ix, sub := x.sub, flags := x.flags, node := x.node, data := data }]
        (eF f 0 1 = 1 → Answers (exec (.dapRead n f) s) (queued false [])) ∧
        (eF f 0 1 = 2 → x.size ≤ 52 → Answers (exec (.dapWrite n f) s) (queued true (slice f 12 x.size))) ∧
        (eF f 0 1 = 3 → Answers (exec (.segRead n f) s) (queued false [])) ∧
        (eF f 0 1 = 4 → x.size ≤ 65536 → Answers (exec (.segWrite n f) s) fun t =>
          Responds s t 4 c k 0 ∧ t.dict.txs = others ++ [{ x with phase := 1 }] ∧ t.dict.queue = waiting ∧ heard t)) ∧
      (∀ y : DapTx, txOf s c k = some y →
        let off := (eF f 3 1 + 256 - y.block % 256) % 256
        let gone (t : State) : Prop := t.dict.txs = others ∧ t.dict.queue = waiting ∧ heard t
        (eF f 0 1 = 5 → y.phase = 1 → y.block + off = y.next → y.next < segCount y.size → off ≠ 15 → y.next + 1 ≠ segCount y.size →
          Answers (exec (.segment n f) s) fun t =>
            txOf t c k = some { y with at_ := s.now, next := y.next + 1, data := y.data ++ slice f 4 (min 60 (y.size - 60 * y.next)) } ∧
            t.outs = s.outs ∧ t.dict.queue = s.dict.queue ∧ heard t) ∧
        (eF f 0 1 = 6 → y.phase = 2 → off ≤ 16 → y.block + off = segCount y.size → ackSame y (y.block + off) ≤ 2 → y.client = c → y.tid = k →
          Answers (exec (.blockAck n f) s) fun t =>
            gone t ∧ ∃ d, t.outs = s.outs ++ [Out.can (0x200 + myNode s) d] ∧
              d = toLE 1 7 ++ toLE 1 c ++ toLE 1 k ++ toLE 1 0 ++ toLE 4 (crc32c y.data)) ∧
        (eF f 0 1 = 7 → 8 ≤ f.length → y.phase = 1 → y.client = c → y.tid = k →
          (y.data.length = y.size ∧ eF f 4 4 = crc32c y.data →
            Answers (exec (.segEnd n f) s) fun t => t.outs = s.outs ∧ heard t ∧
              t.dict.queue = s.dict.queue ++ [{ src := .dap c k, write := true, ix := y.ix, sub := y.sub, flags := y.flags, node := y.node, data := y.data }]) ∧
          (y.data.length ≠ y.size ∨ eF f 4 4 ≠ crc32c y.data → Answers (exec (.segEnd n f) s) fun t => gone t ∧ Responds s t 7 c k 1)) ∧
        (eF f 0 1 = 0x7F → 12 ≤ f.length → Answers (exec (.dapAbort n f) s) fun t => gone t ∧ t.outs = s.outs)) ∧
      (eF f 0 1 ∉ [1, 2, 3, 4, 5, 6, 7, 0x7F] → 3 ≤ f.length → validClient c = true →
        Answers (exec (.dapUnknownCommand n f) s) fun t => Responds s t (eF f 0 1) c k 1 ∧ t.dict = s.dict ∧ heard t)) ∧
    (∀ (n : Nat) (y : DapTx), s.dict.txs[n]? = some y → dapUp s = true →
      (y.phase = 0 → y.since + 20000000 ≤ s.now →
        Answers (exec (.dapPendingResponse n) s) fun t => Responds s t y.cmd y.client y.tid 2 ∧ t.dict.queue = s.dict.queue ∧ t.mem = s.mem) ∧
      (y.phase ≠ 0 → y.at_ + oget s 0x1204 0 * 1000000 ≤ s.now →
        Answers (exec (.dapTransactionTimeout n) s) fun t => Responds s t y.cmd y.client y.tid 1 ∧ txOf t y.client y.tid = none ∧ t.mem = s.mem)) ∧
    (∀ (n : Nat) (x : Proxy), s.dict.proxies[n]? = some x → isDirector s = true →
      (x.sent = false → proxyFree s x.req.node = true → dapUp s = true → ∀ resp,
        Answers (exec (.proxyAccess n resp) s) fun t =>
          t.dict.proxies[n]? = some { x with sent := true, at_ := s.now } ∧ t.dict.proxies.length = s.dict.proxies.length ∧
          (∃ d, t.outs = s.outs ++ [Out.can (0x300 + x.req.node) d]) ∧ t.mem = s.mem) ∧
      (∀ (m code : Nat) (data : List Byte), x.sent = true → x.req.src = .mailbox m →
        Answers (exec (.proxyAccess n (some (code, data))) s) fun t =>
          t.dict.proxies = dropAt s.dict.proxies n ∧ MailboxEnds s t m code (if code = 0 ∧ x.req.write = false then data else []) ∧ t.mem = s.mem))

/-- COMMIT, ROLLBACK, CONFIRM, DISCARD and the end of a trial move the cuts as stated, and a refused one changes no cut. R479, R481, R482, R483, R484, R485, R486, R487. -/
def Obligations.CutCommands : Prop :=
  ∀ (s : State) (via : Iface), canWrite s via 0x1303 0 = true →
    let st := ((curCut s).map (fun c => c.state)).getD 0
    (∀ flash, (st = 1 ∨ st = 3) → Answers (exec (.cutCommit via flash) s) fun t => t = s) ∧
    (∀ flash, stagedChanges s = [] → Answers (exec (.cutCommit via flash) s) fun t => t = s) ∧
    (st ≠ 1 → st ≠ 3 → stagedChanges s ≠ [] →
      (∀ k flash, cutRefusal s s.dict.staged = some k → Answers (exec (.cutCommit via flash) s) fun t => t = oset s 0x1309 0 k) ∧
      (cutRefusal s s.dict.staged = none → (heldAfter s s.dict.staged via).length ≤ 64 →
        (Answers (exec (.cutCommit via true) s) fun t => t = s) ∧
        (Answers (exec (.cutCommit via false) s) fun t =>
          t.flash.cur = some (otherSlot s) ∧ curCut t = some { num := oget s 0x1306 0 + 1, state := 1, booted := false, vals := s.dict.staged } ∧
          (∀ i, i ≠ otherSlot s → t.flash.slots[i] = s.flash.slots[i]) ∧ t.dict.staged = s.dict.staged ∧ t.mem = s.mem))) ∧
    (∀ (i j : Fin 2) (c : Cut), s.flash.cur = some i → prevCut s = some (j, c) → (heldAfter s c.vals via).length ≤ 64 →
      Answers (exec (.cutRollback via) s) fun t =>
        t.flash.cur = some j ∧ curCut t = some c ∧ t.flash.slots[i].map (fun x => x.state) = s.flash.slots[i].map (fun _ => 4) ∧
        t.dict.staged = c.vals ∧ t.dict.trialEnd = none ∧ t.mem = s.mem) ∧
    (prevCut s = none → Answers (exec (.cutRollback via) s) fun t => t = s) ∧
    (∀ c, curCut s = some c → c.state = 1 →
      Answers (exec (.cutConfirm via) s) fun t =>
        curCut t = some { c with state := 2 } ∧ t.dict.trialEnd = none ∧ lastEvent t = some (0x0704, payOf [(16, c.num)]) ∧ t.flash.cur = s.flash.cur ∧
        t.mem = s.mem ∧ t.cl = s.cl) ∧
    (Answers (exec (.cutDiscard via) s) fun t =>
      t.dict.staged = ((curCut s).map (fun c => c.vals)).getD [] ∧ (∀ ix sub, staged t ix sub = committed s ix sub) ∧ t.flash = s.flash ∧ t.obj = s.obj) ∧
    (∀ (e : Nat) (c : Cut), s.dict.trialEnd = some e → e ≤ s.now → curCut s = some c →
      Answers (exec .cutTrialExpired s) fun t =>
        curCut t = some { c with state := 3 } ∧ t.dict.trialEnd = none ∧ lastEvent t = some (0x0705, payOf [(16, c.num)]) ∧ t.mem = s.mem ∧ t.cl = s.cl)

/-- A write of 4 to CUT_COMMAND returns every staged value to its committed value and changes no cut; a value beyond 4, or 0, is refused with RANGE. R486. -/
def Obligations.DiscardAndUnknownCutCommands : Prop :=
  ∀ (s : State) (via : Iface) (flash : Bool), canWrite s via 0x1303 0 = true →
    (islandOn s (objIsland 0x1303) = true → bootState s ≠ 11 →
      let a := objWrite s via 0x1303 0 0 (toLE 1 4) flash
      a.1 = 0 ∧ (∀ ix sub, staged a.2 ix sub = committed s ix sub) ∧ a.2.flash = s.flash ∧ a.2.obj = s.obj ∧ a.2.mem = s.mem) ∧
    (∀ v, v < 256 → v ∉ [1, 2, 3, 4] → objWrite s via 0x1303 0 0 (toLE 1 v) flash = (0x0302, s))

/-- Heartbeats are sent and recorded, silence and crew events are kept, and the director role is claimed, released and lost. R497, R499, R503, R504, R532, R533, R534. -/
def Obligations.CrewAndDirector : Prop :=
  ∀ s : State,
    (dapUp s = true → (∀ x, s.dir.hbAt = some x → x + oget s 0x1201 0 * 1000000 ≤ s.now) →
      Answers (exec .heartbeatSend s) fun t => t.outs = s.outs ++ [Out.can (0x700 + myNode s) (heartbeat s)] ∧ t.dir.hbAt = some s.now ∧ t.mem = s.mem) ∧
    (∀ (n : Nat) (f : List Byte), dapUp s = true → n < 32 →
      (n ≠ 0 → 20 ≤ f.length → isDirector s = true →
        Answers (exec (.heartbeatReceive n f) s) fun t =>
          oget t 0xA001 n = ofLE (f.take 20) ∧ bit (oget t 0xA000 0) n = true ∧ mfind t.dir.crewAt n = some s.now ∧ isDirector t = true) ∧
      (20 ≤ f.length → isDirector s = false →
        Answers (exec (.heartbeatReceive 0 f) s) fun t => t.dir.heard = s.now ∧ t.dir.module = ofLE (slice f 16 4) ∧ isDirector t = false) ∧
      (20 ≤ f.length → isDirector s = true → ofLE (slice f 16 4) < modNum s →
        Answers (exec (.heartbeatReceive 0 f) s) fun t =>
          isDirector t = false ∧ t.dict.proxies = [] ∧ t.dir.heard = s.now ∧ (lastEvent t).map (fun x => x.1) = some 0x0806) ∧
      (n ≠ 0 → f.length = 64 → isDirector s = true →
        Answers (exec (.eventFrameReceive n f) s) fun t =>
          t.dir.crewLog.getLast? = some (f ++ toLE 1 n ++ zeros 7 ++ toLE 8 (tcAt s 22)) ∧
          oget t 0xA010 0 = min (oget s 0xA010 0 + 1) (objMax 0xA010 0) ∧ t.evlog = s.evlog) ∧
      (∀ at', mfind s.dir.crewAt n = some at' → isDirector s = true → bit (oget s 0xA000 0) n = true →
        at' + oget s 0xA002 0 * (ofLE (slice (toLE 20 (oget s 0xA001 n)) 3 1) * 10000000) ≤ s.now →
        Answers (exec (.crewSilent n) s) fun t =>
          bit (oget t 0xA000 0) n = false ∧ (lastEvent t).map (fun x => x.1) = some 0x0708 ∧ t.dir = s.dir)) ∧
    (∀ ms, claimDelay s = some ms → isDirector s = false → dapUp s = true → s.dir.heard + ms * 1000000 ≤ s.now →
      Answers (exec .directorClaim s) fun t =>
        isDirector t = true ∧ myNode t = 0 ∧ oget t 0xA020 0 = (if oget s 0x1012 2 = 1 then 1 else 2) ∧ (∃ d, t.outs.getLast? = some (Out.can 0x700 d)) ∧
        t.dict.proxies = [] ∧ (lastEvent t).map (fun x => x.1) = some 0x0806) ∧
    (∀ via, canWrite s via 0xA023 0 = true → isDirector s = true →
      Answers (exec (.directorRelease via) s) fun t =>
        isDirector t = false ∧ t.dict.proxies = [] ∧ t.dir.crewLog = [] ∧ (lastEvent t).map (fun x => x.1) = some 0x0806) ∧
    (∀ errs, oget s 0x1206 0 ≠ 0 →
      Answers (exec (.dapBusOff errs) s) fun t =>
        oget t 0x1206 0 = 1 ∧ oget t 0x1205 4 = min (oget s 0x1205 4 + 1) (objMax 0x1205 4) ∧ lastEvent t = some (0x0707, payOf [(16, errs % 2 ^ 32)]))

/-- Host reads return and host writes store the bytes of a permitted place, others are refused, and the JTAG port selects, reads and writes. R448, R500, R501, R510, R511, R520, R579, R580. -/
def Obligations.HostMemoryAndJtag : Prop :=
  ∀ s : State,
    (∀ (p : Fin 8) (bar off n : Nat), pcieUp s = true → hostServed s = true →
      (∀ a err, hostPlace p bar off n = .mem a → hostMemBad s p a n 4 = none →
        Answers (exec (.pcieMemRead p bar off n err) s) fun t =>
          t.outs = s.outs ++ [Out.cpl p.val (rdBytes s (outerAddr s a) n) (anyMesh s 0xC0 (outerAddr s a) n)] ∧ t.mem = s.mem ∧ t.pz = s.pz ∧
          t.cl = s.cl ∧ t.hf = s.hf ∧ t.clapVal = s.clapVal) ∧
      (∀ err, Answers (exec (.pcieMemRead p 0 0x20 4 err) s) fun t => t = { s with outs := s.outs ++ [Out.cpl p.val (toLE 4 (hostStatus s p)) false] }) ∧
      (∀ k o, hostPlace p bar off 8 = .clap k o → o % 8 = 0 → barOpen s = true → protKey s (jobKey s p) (clapAddr k) 64 4 = true → clapBad s k = false →
        Answers (exec (.pcieMemRead p bar off 8 .none) s) fun t =>
          t = { obump s (cobj (homeOf s k) 0x4070) 1 1 with outs := s.outs ++ [Out.cpl p.val (toLE 8 (clapGet s k).toNat) false] }) ∧
      (∀ err, hostPlace p bar off n = .none →
        Answers (exec (.pcieMemRead p bar off n err) s) fun t =>
          oget t 0x9003 1 = min (oget s 0x9003 1 + 1) (objMax 0x9003 1) ∧ t.mem = s.mem ∧ t.cl = s.cl ∧ t.clapVal = s.clapVal ∧
          ∃ l, t.outs = s.outs ++ Out.unsupported p.val :: l)) ∧
    (∀ (p : Fin 8) (bar off : Nat) (l : List Byte) (ep : Bool) (err : MemErr), pcieUp s = true → hostServed s = true →
      (∀ a, hostPlace p bar off l.length = .mem a → hostMemBad s p a l.length 5 = none → inMem a l.length = true →
        let dst : List Nat := match region a with
          | .sp d => if paired s then [spBase d + (a - spBase d), spBase (mirrorOf d) + (a - spBase d)] else [a]
          | _ => [a]
        Answers (exec (.pcieMemWrite p bar off l ep err) s) fun t =>
          (∀ b ∈ dst, ∀ i, i < l.length → some (rdByte t (b + i)) = l[i]?) ∧
          (∀ x, (∀ b ∈ dst, x < b ∨ b + l.length ≤ x) → rdByte t x = rdByte s x) ∧
          (ep = true → ∀ b ∈ dst, ∀ i, i < l.length → granBad t ((b + i) / 64) = true) ∧
          (ep = false → t.obj = s.obj) ∧ t.cl = s.cl ∧ t.hf = s.hf ∧ t.clapVal = s.clapVal ∧ t.outs = s.outs) ∧
      (hostPlace p bar off l.length = .none →
        Answers (exec (.pcieMemWrite p bar off l ep err) s) fun t =>
          oget t 0x9003 7 = min (oget s 0x9003 7 + 1) (objMax 0x9003 7) ∧ t.mem = s.mem ∧ t.pz = s.pz ∧ t.cl = s.cl ∧ t.clapVal = s.clapVal)) ∧
    (∀ code, Answers (exec (.jtagIrUpdate code) s) fun t =>
      let i := t.sec.ir
      (i = code % 256 ∨ i = 0xFF) ∧ (i = 0xFF ↔ ¬ (code % 256 ∈ [1, 2, 0x10] ∨ (code % 256 ∈ [0, 3, 4] ∧ extestOn s = true) ∨
        (code % 256 = 0x11 ∧ debugLevel s = 3))) ∧
      t.mem = s.mem ∧ t.obj = s.obj ∧ t.dict = s.dict ∧ t.outs = s.outs) ∧
    (Answers (exec .jtagTestLogicReset s) fun t =>
      t.sec = { s.sec with ir := 1, dr := Config.jtagIdcode % 2 ^ 32 } ∧ t.mem = s.mem ∧ t.obj = s.obj ∧ t.dict = s.dict ∧ t.outs = s.outs) ∧
    (∀ (off : Nat) (data : Word), dbgPortOk s off = true →
      (Answers (exec (.dbgPortRead off) s) fun t =>
        t.outs = s.outs ++ [Out.tdo (mboxRead s 64 off 8)] ∧ t.dict = s.dict ∧ t.obj = s.obj ∧ t.mem = s.mem) ∧
      ((mboxGet s 64).status = 1 → Answers (exec (.dbgPortWrite off data) s) fun t =>
        t.dict = s.dict ∧ oget t 0x1210 0 = min (oget s 0x1210 0 + 1) (objMax 0x1210 0) ∧ t.mem = s.mem) ∧
      ((mboxGet s 64).status ≠ 1 → 0 < off → Answers (exec (.dbgPortWrite off data) s) fun t =>
        (0x1000 ≤ off → ∀ k, mget 0 (mboxGet t 64).data k =
          if off ≤ k + 0x1000 ∧ k + 0x1000 < off + 8 then BitVec.ofNat 8 (data.toNat / 256 ^ (k + 0x1000 - off)) else mget 0 (mboxGet s 64).data k) ∧
        (off < 0x1000 → mboxGet t 64 = headerPut (mboxGet s 64) off (toLE 8 data.toNat)) ∧
        (∀ m, m ≠ 64 → mboxGet t m = mboxGet s m) ∧ t.dict.queue = s.dict.queue ∧ t.obj = s.obj ∧ t.mem = s.mem))

/-- The straps are latched by a power-on reset alone; a module reset and a warm reset keep them. R593. -/
def Obligations.StrapsAreSampled : Prop :=
  ∀ s : State,
    let latched (t : State) : Nat × Nat × Bool := (oget t 0x1012 1, oget t 0x1012 2, t.boot.canTerm)
    let sampled (straps : Nat) : Nat × Nat × Bool :=
      ((if bit straps 0 then 1 else 0) + 2 * (if bit straps 1 then 1 else 0) + 4 * (if bit straps 2 then 1 else 0),
        if bit straps 3 = false then 1 else 0, !bit straps 4)
    (∀ straps, Answers (exec (.powerOnReset straps) s) fun t => oget t 0x9010 0 = 0 ∧ latched t = sampled straps) ∧
    (∀ straps, s.boot.kind = 5 → Answers (exec (.vinThreshold 2 straps) s) fun t => oget t 0x9010 0 = 0 ∧ latched t = sampled straps) ∧
    (∀ cause, Answers (exec (.moduleReset cause) s) fun t => latched t = latched s) ∧
    (Answers (exec .modResetNAssert s) fun t => latched t = latched s) ∧
    (Answers (exec .modResetNRelease s) fun t => latched t = latched s) ∧
    (Answers (exec .resetDelayExpiry s) fun t => latched t = latched s) ∧
    (Answers (exec .protectRecovery s) fun t => latched t = latched s)

/-- Module, warm and power-on resets begin start-up with their cause and keep what they must; PCIe resets reset their functions. R528, R529, R530, R531, R535, R538, R553, R554, R560, R594. -/
def Obligations.Resets : Prop :=
  ∀ s : State,
    let anew (kind cause : Nat) (t : State) : Prop :=
      oget t 0x9010 0 = kind ∧ oget t 0x9012 0 = cause ∧ oget t 0x9013 0 = min (oget s 0x9013 0 + 1) (objMax 0x9013 0) ∧
      t.cl = State.reset.cl ∧ t.hf = State.reset.hf ∧ t.clapVal = [] ∧ t.evlog = [] ∧ t.flash = s.flash ∧ t.boot.due = none ∧ t.pow.prot = none ∧
      oget t 0x7006 0 = oget s 0x7006 0 ∧ oget t 0x8001 0 = oget s 0x8001 0 ∧ oget t 0x8010 0 = 0 ∧
      (kind = 2 → oget t 0x9001 0 = oget s 0x9001 0 ∧ ∀ a, a < hbmSize → rdByte t a = rdByte s a)
    let fnNew (t : State) (p : Fin 8) : Prop := t.hf[p] = { HostFn.reset with lastTake := s.hf[p].lastTake }
    let empty (t : State) (p : Fin 8) : Prop := ∀ sub, sub < 256 → oget t (0x9100 + p.val) sub = objDefault (0x9100 + p.val) sub
    (∀ straps, Answers (exec (.powerOnReset straps) s) (anew 0 0)) ∧
    (∀ straps, (s.boot.kind = 5 → Answers (exec (.vinThreshold 2 straps) s) (anew 0 0)) ∧
      (s.boot.kind = 4 → Answers (exec (.vinThreshold 0 straps) s) fun t => t = { s with boot := { s.boot with kind := 5 } }) ∧
      Answers (exec (.vinThreshold 1 straps) s) fun t =>
        t.boot.kind = 4 ∧ t.flash = s.flash ∧ (∀ i, i < 24 → islandOn t i = false) ∧ oget t 0x9013 0 = oget s 0x9013 0) ∧
    (s.boot.kind < 4 →
      (∀ cause, Answers (exec (.moduleReset cause) s) (anew 1 (cause % 256))) ∧
      (Answers (exec .modResetNAssert s) fun t => anew 1 1 t ∧ t.boot.held = true) ∧
      (s.boot.held = true → Answers (exec .modResetNRelease s) fun t => t = { s with boot := { s.boot with held := false, startAt := s.now } }) ∧
      (∀ c, s.pow.prot = some c → s.pow.protAt.length < 3 → Answers (exec .protectRecovery s) (anew 1 4)) ∧
      (∀ c l a m b, s.pow.prot = some c → s.pow.protAt = l ++ [b, m, a] →
        Answers (exec .protectRecovery s) fun t => if a ≤ b + 3600 then t = modPow s (fun w => { w with refused := true }) else anew 1 4 t)) ∧
    (∀ via, canWrite s via 0x9014 0 = true →
      (Answers (exec (.resetCmdModule via) s) fun t => t = { s with boot := { s.boot with due := some (1, s.now + 10000000) } }) ∧
      (Answers (exec (.resetCmdWarm via) s) fun t => t = { s with boot := { s.boot with due := some (2, s.now + 10000000) } })) ∧
    (∀ k at', s.boot.due = some (k, at') →
      (s.now < at' → Answers (exec .resetDelayExpiry s) fun t => t = s) ∧
      (at' ≤ s.now → k = 1 → Answers (exec .resetDelayExpiry s) (anew 1 2)) ∧
      (at' ≤ s.now → k = 2 → Answers (exec .resetDelayExpiry s) (anew 2 3))) ∧
    (s.boot.perst = false → Answers (exec (.perstN true) s) fun t => t = s) ∧
    (islandOn s 21 = false → (∀ i ∈ [Instr.hotReset, .linkDisable], Answers (exec i s) fun t => t = pcieDown s) ∧ ∀ p, Answers (exec (.flr p) s) fun t => t = s) ∧
    (islandOn s 21 = true → (∀ p : Fin 8, s.hf[p].run = none) →
      (∀ i ∈ [Instr.hotReset, .linkDisable], Answers (exec i s) fun t =>
        oget t 0x9001 0 = 0 ∧ (∀ p, fnNew t p ∧ empty t p) ∧ t.cl = s.cl ∧ t.mem = s.mem ∧ t.clapVal = s.clapVal) ∧
      (s.boot.perst = false → Answers (exec (.perstN false) s) fun t =>
        t.boot.perst = true ∧ oget t 0x9001 0 = 0 ∧ (∀ p, fnNew t p ∧ empty t p) ∧ t.cl = s.cl ∧ t.mem = s.mem ∧ t.clapVal = s.clapVal)) ∧
    (∀ p : Fin 8, islandOn s 21 = true →
      (s.hf[p].run = none → Answers (exec (.flr p) s) fun t =>
        fnNew t p ∧ empty t p ∧ (∀ q, q ≠ p → t.hf[q] = s.hf[q]) ∧ oget t 0x9001 0 = oget s 0x9001 0 ∧ t.cl = s.cl ∧ t.mem = s.mem) ∧
      (∀ r, s.hf[p].run = some r → r.stop = none → (∀ g ∈ groupsOf s p, (groupOf s g).run = none ∧ (groupOf s g).waiting = []) →
        Answers (exec (.flr p) s) fun t =>
          t.hf[p].run = some { r with stop := some (.reset, s.tc), ended := [] } ∧ t.hf[p].compl = [] ∧ (∀ q, q ≠ p → t.hf[q] = s.hf[q]) ∧
          (∀ c ∈ clustersOf s p, t.cl[c] = { stopCluster s.cl[c] with clm := [], clmDraw := t.cl[c].clmDraw }) ∧ (∀ c, c ∉ clustersOf s p → t.cl[c] = s.cl[c]) ∧ t.mem = s.mem)) ∧
    (∀ speed width, s.boot.perst = false → s.boot.held = false → islandOn s 21 = true → 1 ≤ speed → speed ≤ 6 →
      Answers (exec (.pcieLinkUp speed width) s) fun t =>
        oget t 0x9001 0 = speed ∧ oget t 0x9002 0 = width % 256 ∧ lastEvent t = some (0x0804, payOf [(16, 1), (17, speed), (18, width % 256)]) ∧
        t.mem = s.mem ∧ t.cl = s.cl ∧ t.hf = s.hf) ∧
    (Answers (exec .pcieLinkDown s) fun t =>
      oget t 0x9001 0 = 0 ∧ (pcieUp s = true → lastEvent t = some (0x0804, 0)) ∧ (pcieUp s = false → t = s) ∧ t.mem = s.mem ∧ t.cl = s.cl ∧ t.hf = s.hf)

/-- Each boot step ends in the step that follows it, S1 and S2 choose the image and the cut, and a failed die, stack or unit drains the module. R31, R457, R458, R474, R484, R487, R524, R525, R526, R567. -/
def Obligations.StartUpAndUnits : Prop :=
  ∀ s : State,
    (s.boot.held = false → s.boot.kind < 4 → ∀ bad fail,
      let stepTo (n : Nat) : Prop := Answers (exec (.bootStepEnd bad fail) s) fun t => oget t 0x9010 0 = n ∧ t.mem = s.mem ∧ t.cl = s.cl ∧ t.hf = s.hf
      (bootState s = 0 → stepTo 1) ∧
      (bootState s = 1 →
        let ok (n : Fin 2) : Prop := imageReason s n (bit bad n.val) = 0
        Answers (exec (.bootStepEnd bad fail) s) fun t =>
          (ok 0 → oget t 0x9010 0 = 2 ∧ oget t 0x9017 0 = 0) ∧ (¬ ok 0 → ok 1 → oget t 0x9010 0 = 2 ∧ oget t 0x9017 0 = 1) ∧
          (¬ ok 0 → ¬ ok 1 → oget t 0x9010 0 = 11 ∧ oget t 0x9017 0 = 0xFF) ∧ (lastEvent t).map (fun x => x.1) = some 0x0901 ∧ t.flash = s.flash) ∧
      (bootState s = 2 →
        (s.flash.cur = none → Answers (exec (.bootStepEnd bad fail) s) fun t =>
          oget t 0x9010 0 = 3 ∧ t.flash.cur = none ∧ t.dict.staged = [] ∧ (oget s 0x7006 0 = 1 → drained t = true)) ∧
        (∀ (i : Fin 2) (c : Cut), s.flash.cur = some i → s.flash.slots[i] = some c → bit bad i.val = false →
          (c.state = 2 → Answers (exec (.bootStepEnd bad fail) s) fun t => oget t 0x9010 0 = 3 ∧ curCut t = some c ∧ t.dict.staged = c.vals) ∧
          (c.state = 1 → c.booted = false → Answers (exec (.bootStepEnd bad fail) s) fun t =>
            oget t 0x9010 0 = 3 ∧ curCut t = some { c with booted := true } ∧ t.dict.staged = c.vals) ∧
          (c.state = 1 → c.booted = true → prevCut s = none → Answers (exec (.bootStepEnd bad fail) s) fun t =>
            oget t 0x9010 0 = 3 ∧ curCut t = none ∧ t.dict.staged = [] ∧ t.flash.slots[i] = some { c with state := 4 } ∧
            lastEvent t = some (0x0706, payOf [(16, c.num), (20, 0), (24, 0)])))) ∧
      (bootState s = 3 → stepTo (if s.boot.kind ≤ 1 then 4 else 5)) ∧
      (bootState s = 4 →
        ((∀ k, k < 12 → oget s 0x3010 (k + 1) ≠ 3) →
          Answers (exec (.bootStepEnd bad fail) s) fun t => oget t 0x9010 0 = 5 ∧ (∀ k, k < 12 → oget t 0x3010 (k + 1) = 1) ∧ t.mem = s.mem ∧ t.cl = s.cl) ∧
        (∀ k, k < 12 → oget s 0x3010 (k + 1) = 3 → Answers (exec (.bootStepEnd bad fail) s) fun t => oget t 0x9010 0 = 5 ∧ drained t = true)) ∧
      (bootState s = 5 →
        (fail = none → stepTo (if s.boot.s6 ∨ portsAllUp s = true then 7 else 6)) ∧
        (∀ u, fail = some u → Answers (exec (.bootStepEnd bad fail) s) fun t =>
          (oget t 0x9010 0 = 6 ∨ oget t 0x9010 0 = 7) ∧ t.boot.failed = some u ∧ drained t = true)) ∧
      (bootState s = 6 → stepTo (if portsAllUp s = true then 7 else 6)) ∧
      (bootState s = 7 → stepTo (if timeKnown s = true then 8 else 7)) ∧
      (bootState s = 8 → Answers (exec (.bootStepEnd bad fail) s) fun t =>
        oget t 0x9010 0 = (if drained s then 10 else 9) ∧ (∀ c, cget t c 0x4002 0 = if drained s then 6 else 0) ∧ oget t 0x2001 0 ≤ 1 ∧
        t.mem = s.mem ∧ t.cl = s.cl)) ∧
    (s.boot.s6 = false → 4 ≤ bootState s → bootState s ≤ 6 →
      (s.boot.s3At + oget s 0x9015 0 * 1000000 ≤ s.now → Answers (exec .fabricBootWait s) fun t =>
        t.boot.s6 = true ∧ oget t 0x9010 0 = (if bootState s = 6 then 7 else bootState s) ∧ t.mem = s.mem ∧ t.cl = s.cl) ∧
      (s.now < s.boot.s3At + oget s 0x9015 0 * 1000000 → Answers (exec .fabricBootWait s) fun t => t = s)) ∧
    (bootState s = 7 →
      let began := max (mget 0 s.boot.times 5) (mget 0 s.boot.times 6)
      (began + oget s 0x9016 0 ≤ bootMs s → Answers (exec .tcBootWait s) fun t => oget t 0x9010 0 = 8 ∧ t.mem = s.mem ∧ t.cl = s.cl) ∧
      (bootMs s < began + oget s 0x9016 0 → Answers (exec .tcBootWait s) fun t => t = s)) ∧
    (∀ d, d < 6 → islandOn s 22 = true → Answers (exec (.dieUnreachable d) s) fun t => oget t 0x1020 (d + 1) = 2 ∧ drained t = true) ∧
    (∀ k : Fin 12,
      (bootState s = 4 → Answers (exec (.stackFailed k) s) fun t => t = oset s 0x3010 (k.val + 1) 3) ∧
      (5 ≤ bootState s → bootState s ≤ 10 → oget s 0x2001 0 ≤ 1 → oget s 0x3010 (k.val + 1) ≠ 3 →
        Answers (exec (.stackFailed k) s) fun t => oget t 0x3010 (k.val + 1) = 3 ∧ drained t = true))

/-- Power requests are held, performed or refused; PARK and STANDBY are entered quiescent and left; an input fault shuts the module down. R476, R546, R547, R548, R549, R550, R551, R552, R554, R559, R594. -/
def Obligations.PowerStates : Prop :=
  ∀ s : State,
    (∀ (via : Iface) (i : Instr) (v : Nat), canWrite s via 0x2002 0 = true →
      (i, v) ∈ [(Instr.powerRequestIdle via, 1), (.powerRequestPark via, 2), (.powerRequestStandby via, 3)] →
      let w := oget s 0x2001 0
      (s.pow.prot.isSome = true ∨ s.pow.want.isSome = true ∨ debugLevel s = 3 ∨ (v = 2 ∧ w = 3) → Answers (exec i s) fun t => t = s) ∧
      (s.pow.prot = none → s.pow.want = none → debugLevel s ≠ 3 →
        let others := s.dict.held.filter (fun h => !(h.ix == 0x2002 && h.sub == 0))
        (w = 0 → others.length < 64 → Answers (exec i s) fun t =>
          t.dict.held = others ++ [{ ix := 0x2002, sub := 0, val := toLE 1 v, via := via, st := false }] ∧ oget t 0x2003 0 = 1 ∧ oget t 0x2001 0 = 0 ∧
          t.pow = s.pow ∧ t.boot = s.boot) ∧
        (w = v → Answers (exec i s) fun t => t = oset s 0x2003 0 2) ∧
        (w ≠ 0 → w ≠ v → w ≠ 3 → Answers (exec i s) fun t =>
          t = modPow (oset s 0x2003 0 1) (fun p => { p with want := some (v, requestCause via, s.now) })) ∧
        (w = 3 → v = 1 → Answers (exec i s) fun t =>
          oget t 0x9010 0 = 3 ∧ t.boot.kind = 3 ∧ t.pow.want = some (1, requestCause via, s.now) ∧ oget t 0x2003 0 = 1 ∧ t.mem = s.mem))) ∧
    (∀ v cause at', s.pow.want = some (v, cause, at') → (v = 2 ∨ v = 3) →
      (openHandshakes s v = true → Answers (exec .quiesceComplete s) fun t => t = s) ∧
      (openHandshakes s v = false → (bootState s = 9 ∨ bootState s = 10) →
        Answers (exec .quiesceComplete s) fun t =>
          oget t 0x2001 0 = v ∧ oget t 0x2003 0 = 2 ∧ (∀ c, cget t c 0x4002 0 = 5) ∧ (lastEvent t).map (fun x => x.1) = some 0x0101 ∧
          (∀ i ∈ (if v = 2 then parkIslands else standbyIslands), islandOn t i = false) ∧ (∀ a, a < hbmSize → rdByte t a = rdByte s a) ∧
          t.pow.want = (if v = 2 ∧ oget s 0x2005 0 = 1 ∧ ((fins 8).any fun p => !(fetchedTakes s p).isEmpty) = true then some (1, 3, s.now) else none) ∧
          (v = 2 → t.mem = s.mem ∧ (s.dly.held = [] → ∀ c : Fin 8, t.cl[c] = parkCluster s.cl[c]) ∧ t.clapVal = s.clapVal ∧ oget t 0x9001 0 = oget s 0x9001 0) ∧
          (v = 3 → t.cl = State.reset.cl ∧ oget t 0x9001 0 = 0)) ∧
      (∀ islands,
        (at' + oget s 0x2004 0 * 1000 ≤ s.now → Answers (exec (.quiesceTimeout islands) s) fun t =>
          oget t 0x2003 0 = 3 ∧ t.pow.want = none ∧ oget t 0x2001 0 = oget s 0x2001 0 ∧
          lastEvent t = some (0x0102, payOf [(16, v), (20, islands % 2 ^ 24)]) ∧ t.mem = s.mem ∧ t.cl = s.cl ∧ t.hf = s.hf) ∧
        (s.now < at' + oget s 0x2004 0 * 1000 → Answers (exec (.quiesceTimeout islands) s) fun t => t = s))) ∧
    (∀ cause at', s.pow.want = some (1, cause, at') → oget s 0x2001 0 = 2 → (bootState s = 9 ∨ bootState s = 10) → s.boot.kind < 4 → s.pow.prot = none →
      Answers (exec .parkWakeComplete s) fun t =>
        oget t 0x2001 0 ≤ 1 ∧ oget t 0x2003 0 = 2 ∧ t.pow.want = none ∧ (∀ c, cget t c 0x4002 0 = if drained s then 6 else 0) ∧
        (∀ i ∈ parkIslands, islandOn t i = true) ∧ t.mem = s.mem ∧ t.cl = s.cl ∧ t.hf = s.hf) ∧
    (s.pow.prot = none → s.pow.want = none →
      Answers (exec .wakeN s) fun t =>
        (oget s 0x2001 0 = 3 → oget t 0x9010 0 = 3 ∧ t.boot.kind = 3 ∧ t.pow.want = some (1, 4, s.now) ∧ t.mem = s.mem) ∧
        (oget s 0x2001 0 ≠ 3 → t = s)) ∧
    (∀ cause value, 2 ≤ cause → cause ≤ 4 → s.boot.kind < 4 →
      (s.pow.prot.isSome = true → Answers (exec (.inputFault cause value) s) fun t => t = s) ∧
      (s.pow.prot = none → Answers (exec (.inputFault cause value) s) fun t =>
        t.pow.prot = some cause ∧ oget t 0x2001 0 = 3 ∧ t.pow.want = none ∧ t.pow.protAt = s.pow.protAt ++ [oget s 0x7007 0] ∧ t.flash.shutdowns ≠ [] ∧
        (∀ p : Fin 8, t.hf[p].run = none ∧ t.hf[p].gate = none ∧ t.hf[p].compl = s.hf[p].compl) ∧ t.cl = State.reset.cl ∧
        (∀ i ∈ standbyIslands, islandOn t i = false) ∧ t.flash.slots = s.flash.slots))

/-- The limiter and the thermal targets move the cluster clocks by their rules, samples are kept, and clock sources and PLLs switch as stated. R540, R541, R542, R543, R545, R556, R557, R558, R559, R561, R562. -/
def Obligations.LimitsTelemetryAndClocks : Prop :=
  ∀ s : State,
    (∀ watts,
      let p100 := watts % 65536
      let lim := oget s 0x2020 0
      let old := s.pow.target
      Answers (exec (.powerLimiterSample watts) s) fun t =>
        oget t 0x2032 1 = p100 ∧ oget t 0x2033 0 = max p100 (oget s 0x2033 0) ∧
        (oget s 0x2021 0 < p100 → (lim < p100 → s.now + 100000 < s.pow.above.getD s.now + 8000000) → lim < p100 + 200 → t.pow.target = max 600 (old - 200)) ∧
        (p100 ≤ oget s 0x2021 0 → lim < p100 → ∀ a, s.pow.above = some a → a + 8000000 ≤ s.now + 100000 → t.pow.target = max 600 (old - 100)) ∧
        (p100 ≤ oget s 0x2021 0 → p100 + 200 ≤ lim → ∀ b, s.pow.below = some b → b + 1000000 ≤ s.now + 100000 → s.pow.raised + 1000000 ≤ s.now → old < 1800 →
          t.pow.target = old + 25) ∧
        (p100 ≤ oget s 0x2021 0 → p100 ≤ lim → lim < p100 + 200 → t.pow.target = old) ∧
        (∀ c : Fin 8, oget t 0x2023 (c.val + 1) = min (oget s 0x2022 0) (min t.pow.target s.pow.thermal[toDie4 (c.val / 2)])) ∧ t.mem = s.mem ∧ t.cl = s.cl) ∧
    (∀ (d : Fin 6) (tj : Int),
      let hot : Int := 16 * (oget s 0x2044 0 : Int)
      let lim : Int := 16 * (oget s 0x2043 0 : Int)
      let k := toDie4 d.val
      (tj < hot → Answers (exec (.thermalSample d tj false) s) fun t =>
        oget t 0x2040 (d.val + 1) = i2n 2 tj ∧ t.pow.hot[d] = 0 ∧ t.pow.prot = s.pow.prot ∧ t.mem = s.mem ∧ t.cl = s.cl ∧
        (4 ≤ d.val → t.pow.thermal = s.pow.thermal) ∧
        (d.val < 4 →
          (lim ≤ tj → 600 < s.pow.thermal[k] → s.pow.thermalAt[k] + 100000 ≤ s.now → t.pow.thermal[k] = s.pow.thermal[k] - 25) ∧
          (tj ≤ lim - 48 → s.pow.thermal[k] < 1800 → s.pow.thermalAt[k] + 1000000 ≤ s.now → t.pow.thermal[k] = s.pow.thermal[k] + 25) ∧
          (lim - 48 < tj → tj < lim → t.pow.thermal = s.pow.thermal))) ∧
      (hot ≤ tj → s.pow.hot[d] = 2 → s.pow.prot = none → Answers (exec (.thermalSample d tj false) s) fun t => t.pow.prot = some 0 ∧ oget t 0x2001 0 = 3)) ∧
    (∀ (i : Nat) (v : Int),
      (Answers (exec (.telemetrySample 0 i v) s) fun t => t = oset s 0x2030 0 (i2n 4 v)) ∧
      (Answers (exec (.telemetrySample 1 i v) s) fun t => t = oset s 0x2031 0 (i2n 4 v)) ∧
      (i < 24 → islandOn s i = true →
        (Answers (exec (.telemetrySample 2 i v) s) fun t => t = oset s 0x2035 (i + 1) (i2n 2 v)) ∧
        (Answers (exec (.telemetrySample 3 i v) s) fun t => t = oset s 0x2036 (i + 1) (i2n 4 v)) ∧
        (inputGood s = true → Answers (exec (.telemetrySample 6 i v) s) fun t => drained t = true)) ∧
      (i < 12 → islandOn s (12 + i / 3) = true → s.pow.prot = none →
        (v < 1680 → Answers (exec (.telemetrySample 4 i v) s) fun t => oget t 0x2041 (i + 1) = i2n 2 v ∧ t.pow.prot = none ∧ t.mem = s.mem ∧ t.cl = s.cl) ∧
        (1680 ≤ v → Answers (exec (.telemetrySample 4 i v) s) fun t => t.pow.prot = some 1 ∧ oget t 0x2001 0 = 3)) ∧
      (Answers (exec (.telemetrySample 5 i v) s) fun t => oget t 0x2042 0 = i2n 2 v ∧ t.mem = s.mem ∧ t.cl = s.cl) ∧
      (inputGood s = true → Answers (exec (.telemetrySample 7 i v) s) fun t => drained t = true)) ∧
    (∀ (via : Iface) (i : Fin 24) (v : Nat), canWrite s via 0x2011 (i.val + 1) = true →
      let accepted : Prop := (i.val < 18 ∧ v ≤ 1) ∨ (18 ≤ i.val ∧ i.val < 21 ∧ v = 0) ∨ (i.val = 21 ∧ v = 2)
      (¬ accepted ∨ srcReady s v = false ∨ clkSrc s i.val = v → Answers (exec (.clkSrcWrite via i v) s) fun t => t = s) ∧
      (accepted → srcReady s v = true → clkSrc s i.val ≠ v → Answers (exec (.clkSrcWrite via i v) s) fun t =>
        clkSrc t i.val = v ∧ t.pow.pll[i] = some (clkSrc s i.val, s.now) ∧ bit (oget t 0x2010 0) (8 + i.val) = false ∧
        (∀ j : Fin 24, j ≠ i → clkSrc t j.val = clkSrc s j.val ∧ t.pow.pll[j] = s.pow.pll[j]) ∧ t.cl = s.cl ∧ t.mem = s.mem)) ∧
    (∀ (i : Fin 24) (prev at' : Nat), s.pow.pll[i] = some (prev, at') →
      (Answers (exec (.pllRelock i) s) fun t =>
        t.pow.pll[i] = none ∧ bit (oget t 0x2010 0) (8 + i.val) = true ∧ t.pow.pllFails[i] = 0 ∧
        (prev = clkSrc s i.val → lastEvent t = some (0x0106, payOf [(16, i.val), (17, prev), (18, 0)])) ∧ t.mem = s.mem ∧ t.cl = s.cl) ∧
      (at' + 200000 ≤ s.now →
        (s.pow.pllFails[i] = 0 → Answers (exec (.pllRelockTimeout i) s) fun t =>
          (srcReady s prev = true → clkSrc t i.val = prev ∧ t.pow.pll[i] = some (prev, s.now) ∧ lastEvent t = some (0x0106, payOf [(16, i.val), (17, prev), (18, 1)])) ∧
          (srcReady s prev = false → clkSrc t i.val = clkSrc s i.val ∧ t.pow.pll[i] = none ∧
            lastEvent t = some (0x0106, payOf [(16, i.val), (17, clkSrc s i.val), (18, 2)])) ∧ t.mem = s.mem ∧ t.cl = s.cl) ∧
        (s.pow.pllFails[i] = 1 → srcReady s (clkSrc s i.val) = true → Answers (exec (.pllRelockTimeout i) s) fun t => drained t = true)) ∧
      (s.now < at' + 200000 → Answers (exec (.pllRelockTimeout i) s) fun t => t = s)) ∧
    (∀ i : Fin 24, i.val < 22 → bit (oget s 0x2010 0) (8 + i.val) = true →
      Answers (exec (.pllLockLoss i) s) fun t =>
        bit (oget t 0x2010 0) (8 + i.val) = false ∧ (srcReady s (clkSrc s i.val) = true → t.pow.pll[i] = some (clkSrc s i.val, s.now)) ∧
        (srcReady s (clkSrc s i.val) = false → lastEvent t = some (0x0106, payOf [(16, i.val), (17, clkSrc s i.val), (18, 2)])) ∧ t.mem = s.mem ∧ t.cl = s.cl) ∧
    (∀ b, (b = 2 ∨ b = 3) →
      (bit (oget s 0x2010 0) b = true → Answers (exec (.clkRefLost b) s) fun t =>
        bit (oget t 0x2010 0) b = false ∧ t.mem = s.mem ∧ t.cl = s.cl ∧
        (b = 2 → (∀ p : Fin 6, pget s p 1 ≠ 0 → portUp t p = false) ∧ ethUp t 0 = false ∧ ethUp t 1 = false ∧
          (oget s 0x2012 0 = 1 → ∀ i ∈ runsFrom s 0, i < 18 → clkSrc t i = 1)) ∧
        (b = 3 → oget t 0x9001 0 = 0)) ∧
      (bit (oget s 0x2010 0) b = false → Answers (exec (.clkRefRestored b) s) fun t =>
        bit (oget t 0x2010 0) b = true ∧ (∀ i, i < 24 → clkSrc t i = clkSrc s i) ∧ t.mem = s.mem ∧ t.cl = s.cl ∧
        (∀ i : Fin 24, i.val ∈ runsFrom s (if b = 2 then 0 else 2) → bit (oget s 0x2010 0) (8 + i.val) = false →
          t.pow.pll[i] = some (if b = 2 then 0 else 2, s.now))))

/-- Tokens are judged and used up, the lifecycle moves along its transitions, and image slots are opened, loaded, verified and given up. R565, R566, R567, R568, R569, R570, R571, R572, R581, R582. -/
def Obligations.TokensImagesAndLifecycle : Prop :=
  ∀ (s : State) (via : Iface),
    (canWrite s via 0x8006 0 = true → ∀ (b : List Byte) (i : Instr) (k : Nat),
      (i, k) ∈ [(Instr.secTokenDebug via b, 1), (.secTokenLifecycle via b, 2), (.secTokenRevoke via b, 3)] → eF b 5 1 = k →
      let arg := eF b 6 1
      let r := tokenReason s b
      let same (t : State) : Prop := t.mem = s.mem ∧ t.hf = s.hf ∧ t.clapVal = s.clapVal
      (b.length ≠ 256 → Answers (exec i s) fun t => t = s) ∧
      (b.length = 256 →
        (r ≠ 0 → Answers (exec i s) fun t =>
          t.sec = s.sec.drawn ∧ lastEvent t = some (0x0903, payOf [(16, k), (17, r)]) ∧ lifecycle t = lifecycle s ∧
          debugLevel t = debugLevel s ∧ oget t 0x8025 0 = oget s 0x8025 0 ∧ t.cl = s.cl ∧ same t) ∧
        (r = 0 → k = 1 → debugLevel s = 0 → s.sec.held = none → Answers (exec i s) fun t =>
          t.sec.challengeVal = s.sec.drawn.challengeVal ∧ t.cl = s.cl ∧ same t ∧
          if debugReady s arg = true then
            debugLevel t = arg ∧ oget t 0x8013 0 = eF b 48 1 ∧ t.sec.ends = some (s.now + eF b 52 4 * 1000000000) ∧ (lastEvent t).map (fun x => x.1) = some 0x0905
          else t.sec.held = some (arg, eF b 48 1, eF b 52 4, true, via) ∧ debugLevel t = 0) ∧
        (r = 0 → k = 2 → Answers (exec i s) fun t =>
          lifecycle t = arg ∧ t.boot.due = some (3, s.now + 10000000) ∧ debugLevel t = 0 ∧ t.sec.held = none ∧ t.sec.challengeVal = s.sec.drawn.challengeVal ∧
          (lastEvent t).map (fun x => x.1) = some 0x0904 ∧ (arg = 3 → t.flash.cur = none) ∧
          (lifecycle s = 3 → oget t 0x7006 0 = 0 ∧ oget t 0x8003 0 = oget s 0x8003 0 + 1) ∧ same t) ∧
        (r = 0 → k = 3 → Answers (exec i s) fun t =>
          keyRevoked t arg = true ∧ (∀ j, j ≠ arg → keyRevoked t j = keyRevoked s j) ∧ t.sec.challengeVal = s.sec.drawn.challengeVal ∧
          lastEvent t = some (0x0908, payOf [(16, arg)]) ∧ lifecycle t = lifecycle s ∧ t.cl = s.cl ∧ same t))) ∧
    (canWrite s via 0x8002 0 = true → ∀ v,
      (via ≠ .jtag → v = 2 → lifecycle s = 1 → Answers (exec (.lifecycleCmd via v) s) fun t =>
        lifecycle t = 2 ∧ t.boot.due = some (3, s.now + 10000000) ∧ debugLevel t = 0 ∧ t.mem = s.mem ∧ t.hf = s.hf) ∧
      (via = .jtag ∨ v ≠ 2 ∨ lifecycle s ≠ 1 → Answers (exec (.lifecycleCmd via v) s) fun t => t = s)) ∧
    (canWrite s via 0x8022 0 = true → ∀ n : Fin 2,
      (¬ (oget s 0x9017 0 = n.val ∧ imageState s (1 - n.val) ≠ 1) → Answers (exec (.imageOpen via n) s) fun t =>
        imageState t n.val = 2 ∧ t.flash.image[n] = some [] ∧ (∀ m, m ≠ n → t.flash.image[m] = s.flash.image[m] ∧ imageState t m.val = imageState s m.val) ∧
        t.mem = s.mem ∧ t.cl = s.cl) ∧
      (oget s 0x9017 0 = n.val → imageState s (1 - n.val) ≠ 1 → Answers (exec (.imageOpen via n) s) fun t => t = s) ∧
      (∀ err, imageState s n.val = 2 → Answers (exec (.imageFinish via n err) s) fun t =>
        let r := imageReason s n err
        imageState t n.val = (if r = 0 then 1 else 3) ∧ lastEvent t = some (0x0902, payOf [(16, n.val), (17, r), (18, oget t 0x8021 (n.val + 1))]) ∧
        (r = 0 → bootState s = 11 → t.boot.due = some (3, s.now + 10000000)) ∧ (r ≠ 0 ∨ bootState s ≠ 11 → t.boot = s.boot) ∧ t.flash = s.flash) ∧
      (imageState s n.val = 2 → Answers (exec (.imageAbandon via n) s) fun t => t = oset s 0x8020 (n.val + 1) 3) ∧
      (imageState s n.val ≠ 2 →
        (∀ err, Answers (exec (.imageFinish via n err) s) fun t => t = s) ∧ (Answers (exec (.imageAbandon via n) s) fun t => t = s)) ∧
      (oget s 0x9017 0 = n.val →
        let v := s.boot.svn
        let barred : Prop := v < oget s 0x8024 0 ∨ (imageState s (1 - n.val) = 1 ∧ oget s 0x8021 (2 - n.val) < v)
        (barred → Answers (exec (.raiseSvn via) s) fun t => t = s) ∧
        (¬ barred → Answers (exec (.raiseSvn via) s) fun t =>
          oget t 0x8024 0 = v ∧ lastEvent t = some (0x0909, payOf [(16, v)]) ∧ t.flash = s.flash ∧ t.mem = s.mem))) ∧
    (canWrite s via 0x8023 0 = true → ∀ (b : List Byte) (n : Fin 2), imageState s n.val = 2 → (n = 1 → imageState s 0 ≠ 2) →
      let off := eF b 0 8
      (8 ≤ b.length → b.length ≤ 65536 → off % 64 = 0 → off + (b.length - 8) ≤ 16777216 →
        Answers (exec (.imageLoad via b) s) fun t =>
          (∀ x, (imgBytes ((t.flash.image[n]).getD []) x 1) =
            if off ≤ x ∧ x < off + (b.length - 8) then [(b[8 + (x - off)]?).getD 0] else imgBytes ((s.flash.image[n]).getD []) x 1) ∧
          (∀ m, m ≠ n → t.flash.image[m] = s.flash.image[m]) ∧ t.obj = s.obj ∧ t.mem = s.mem) ∧
      (b.length < 8 ∨ 65536 < b.length ∨ off % 64 ≠ 0 ∨ 16777216 < off + (b.length - 8) → Answers (exec (.imageLoad via b) s) fun t => t = s))

/-- A debug session opens, is held, ends and expires as its level and lifecycle allow, and at level 2 halts, steps, resumes and reads its partition. R573, R574, R575, R577, R581, R582. -/
def Obligations.DebugSessions : Prop :=
  ∀ (s : State) (via : Iface),
    let ended (cause : Nat) (t : State) : Prop :=
      debugLevel t = 0 ∧ oget t 0x8013 0 = 0xFF ∧ t.sec.ends = none ∧ lastEvent t = some (0x0906, payOf [(16, debugLevel s), (17, cause)]) ∧
      (∀ c : Fin 8, t.cl[c].core.halted = false ∧ t.cl[c].core.pc = s.cl[c].core.pc ∧ t.cl[c].core.x = s.cl[c].core.x) ∧ t.mem = s.mem ∧ t.hf = s.hf
    let a := oget s 0x8054 0
    let keyed : Prop := ∀ i, i < 64 → keyedTo s (jobKey s (toFin8 (oget s 0x8013 0))) (a + 64 * i) = true
    (canWrite s via 0x8011 0 = true → ∀ lv part, 1 ≤ lv → lv ≤ 3 → part < 256 → (if lv = 2 then part < 8 else part = 255) →
      let i := Instr.debugRequest via (lv + 256 * part)
      (debugNeeds lv (lifecycle s) ≠ 0 ∨ debugLevel s ≠ 0 ∨ s.sec.held.isSome = true → Answers (exec i s) fun t => t = s) ∧
      (debugNeeds lv (lifecycle s) = 0 → debugLevel s = 0 → s.sec.held = none → Answers (exec i s) fun t =>
        if debugReady s lv = true then
          debugLevel t = lv ∧ oget t 0x8013 0 = part ∧ t.sec.ends = none ∧ t.sec.held = none ∧
          lastEvent t = some (0x0905, payOf [(16, lv), (17, part), (18, ifaceNo via), (19, 0), (20, 0)]) ∧ t.cl = s.cl ∧ t.mem = s.mem ∧ t.hf = s.hf
        else t = { s with sec := { s.sec with held := some (lv, part, 0, false, via) } })) ∧
    (∀ lv part dur token by', s.sec.held = some (lv, part, dur, token, by') →
      (oget s 0x2001 0 = 1 → (bootState s = 9 ∨ bootState s = 10) → Answers (exec .heldDebugOpen s) fun t =>
        debugLevel t = lv ∧ oget t 0x8013 0 = part ∧ t.sec.held = none ∧ t.sec.ends = (if dur = 0 then none else some (s.now + dur * 1000000000)) ∧
        t.cl = s.cl ∧ t.mem = s.mem) ∧
      (oget s 0x2001 0 ≠ 1 → Answers (exec .heldDebugOpen s) fun t => t = s)) ∧
    ((canWrite s via 0x8012 0 = true →
        (debugLevel s = 3 → Answers (exec (.debugEnd via 1) s) fun t => t = s) ∧
        (debugLevel s ≠ 3 → debugLevel s ≠ 0 → Answers (exec (.debugEnd via 1) s) fun t => ended 0 t ∧ t.sec.held = none) ∧
        (debugLevel s = 0 → Answers (exec (.debugEnd via 1) s) fun t => t = { s with sec := { s.sec with held := none } })) ∧
      (∀ at', s.sec.ends = some at' → debugLevel s ≠ 0 → debugLevel s ≠ 3 →
        (at' ≤ s.now → Answers (exec .debugSessionExpiry s) (ended 1)) ∧
        (s.now < at' → Answers (exec .debugSessionExpiry s) fun t => t = s))) ∧
    (∀ c : Fin 8, canWrite s via 0x8050 (c.val + 1) = true →
      let others (t : State) : Prop := (∀ e, e ∉ dbgCores s c → t.cl[e] = s.cl[e]) ∧ t.mem = s.mem ∧ t.hf = s.hf ∧ t.clapVal = s.clapVal
      (debugOn s c = false → ∀ i ∈ [Instr.dbgCoreHalt via c, .dbgCoreStep via c, .dbgCoreResume via c], Answers (exec i s) fun t => t = s) ∧
      (debugOn s c = true →
        (Answers (exec (.dbgCoreHalt via c) s) fun t => others t ∧ ∀ e ∈ dbgCores s c, t.cl[e] = { s.cl[e] with core := { s.cl[e].core with halted := true } }) ∧
        (s.cl[c].core.halted = true → Answers (exec (.dbgCoreStep via c) s) fun t =>
          others t ∧ t.obj = s.obj ∧ ∀ e ∈ dbgCores s c, t.cl[e] = { s.cl[e] with core := { s.cl[e].core with step := true } }) ∧
        (s.cl[c].core.halted = false → Answers (exec (.dbgCoreStep via c) s) fun t => t = s) ∧
        (Answers (exec (.dbgCoreResume via c) s) fun t =>
          others t ∧ t.obj = s.obj ∧ ∀ e ∈ dbgCores s c, t.cl[e].core.halted = false ∧ t.cl[e].core.step = false ∧ t.cl[e].core.pc = s.cl[e].core.pc ∧
            t.cl[e].core.x = s.cl[e].core.x))) ∧
    (canRead s via 0x8055 0 = true →
      (debugLevel s = 2 → keyed →
        ((debugBytes s a 4096).2 = false → Answers (exec (.dbgMemData via) s) fun t => t = { s with outs := s.outs ++ [Out.reply via 0 (debugBytes s a 4096).1] }) ∧
        ((debugBytes s a 4096).2 = true → Answers (exec (.dbgMemData via) s) fun t => t = { s with outs := s.outs ++ [Out.reply via aPoison []] })) ∧
      (debugLevel s ≠ 2 ∨ ¬ keyed → Answers (exec (.dbgMemData via) s) fun t => t = { s with outs := s.outs ++ [Out.reply via 0x0104 []] }))

/-- A step performs the command at the front of the queue; on an empty queue a nanosecond passes (the model's choice, log entry 3). R311. -/
def Obligations.StepRunsTheFrontCommand : Prop :=
  (∀ (s : State) (c : Instr) (rest : List Instr), step { s with pending := c :: rest } = exec c { s with pending := rest }) ∧
  (∀ s : State, s.pending = [] →
    Answers (step s) fun t =>
      t.now = s.now + 1 ∧ t.pending = [] ∧ t.mem = s.mem ∧ t.pz = s.pz ∧ t.clapVal = s.clapVal ∧ t.hf = s.hf ∧ t.evlog = s.evlog ∧ t.outs = s.outs ∧
      (∀ c : Fin 8, t.cl[c].core.pc = s.cl[c].core.pc ∧ t.cl[c].core.x = s.cl[c].core.x))

/-- At reset the module is at the start of a power-on reset with nothing queued, nothing running and the default limits, and its stores are canonical. R527, R528, R535, R556. -/
def Obligations.ResetState : Prop :=
  State.reset.pending = [] ∧ State.reset.mem = [] ∧ State.memWf State.reset = true ∧ State.clapWf State.reset = true ∧ State.reset.evlog = [] ∧
  (∀ p : Fin 8, State.reset.hf[p].run = none ∧ State.reset.hf[p].compl = []) ∧
  (∀ c : Fin 8, State.reset.cl[c].core.status = .stopped ∧ State.reset.cl[c].mq = [] ∧ State.reset.cl[c].flights = []) ∧
  bootState State.reset = 0 ∧ drained State.reset = false ∧ oget State.reset 0x2022 0 = 1800 ∧ oget State.reset 0x2020 0 = 4400 ∧ State.reset.pow.target = 1800 ∧
  (∀ n, clapGet State.reset n = 0 ∧ clapBad State.reset n = false)

/-- Every step keeps memory, its poison, the clappers and their poison in canonical form. R123, R126, R294, R308. -/
def Obligations.StepsKeepStoresCanonical : Prop :=
  ∀ s t : State, State.memWf s = true → State.clapWf s = true → step s = .next t → State.memWf t = true ∧ State.clapWf t = true
end

