-- ==== Sys2Proof/Laws/Map.lean ====
section
/-! SUPPORT. Laws/Map.lean: the canonical sparse map: what a write reads back as, and that writing keeps the canonical form. -/

namespace Sys2Proof.Machine

variable {V : Type}

/-- Every key of m lies above k. -/
def above (k : Nat) (m : List (Nat × V)) : Prop := ∀ p ∈ m, k < p.1

theorem mrising_cons (a : Nat) (v : V) (m : List (Nat × V)) :
    mrising ((a, v) :: m) = true ↔ above a m ∧ mrising m = true := by
  induction m generalizing a v with
  | nil => simp [mrising, above]
  | cons p t ih =>
    obtain ⟨b, w⟩ := p
    have h1 := ih b w
    simp only [mrising, Bool.and_eq_true, decide_eq_true_eq]
    constructor
    · rintro ⟨hab, hr⟩
      refine ⟨?_, hr⟩
      intro p hp
      rcases List.mem_cons.1 hp with rfl | hp
      · exact hab
      · exact Nat.lt_trans hab ((h1.1 hr).1 p hp)
    · rintro ⟨hab, hr⟩
      exact ⟨hab (b, w) (by simp), hr⟩

theorem mfind_above {k : Nat} {m : List (Nat × V)} (h : above k m) : mfind m k = none := by
  induction m with
  | nil => rfl
  | cons p t ih =>
    obtain ⟨b, w⟩ := p
    have hb : k < b := h (b, w) (by simp)
    have ht : above k t := fun p hp => h p (by simp [hp])
    simp [mfind, Nat.ne_of_lt hb, ih ht]

theorem mfind_mput_same (m : List (Nat × V)) (k : Nat) (v : V) : mfind (mput m k v) k = some v := by
  induction m with
  | nil => simp [mput, mfind]
  | cons p t ih =>
    obtain ⟨b, w⟩ := p
    unfold mput
    split
    · simp [mfind]
    · split
      · simp [mfind]
      · simp only [mfind]
        rw [if_neg (by assumption)]
        exact ih

theorem mfind_mput_ne (m : List (Nat × V)) (k j : Nat) (v : V) (h : j ≠ k) : mfind (mput m k v) j = mfind m j := by
  induction m with
  | nil => simp [mput, mfind, h]
  | cons p t ih =>
    obtain ⟨b, w⟩ := p
    unfold mput
    split
    · simp [mfind, h]
    · split
      · next hk => subst hk; simp [mfind, h]
      · simp [mfind, ih]

theorem mfind_merase_ne (m : List (Nat × V)) (k j : Nat) (h : j ≠ k) : mfind (merase m k) j = mfind m j := by
  induction m with
  | nil => rfl
  | cons p t ih =>
    obtain ⟨b, w⟩ := p
    unfold merase at *
    rw [List.filter_cons]
    by_cases hb : b = k
    · subst hb
      simpa [mfind, h] using ih
    · simp [hb, mfind, ih]

theorem mfind_merase_same (m : List (Nat × V)) (k : Nat) : mfind (merase m k) k = none := by
  induction m with
  | nil => rfl
  | cons p t ih =>
    obtain ⟨b, w⟩ := p
    unfold merase at *
    rw [List.filter_cons]
    by_cases hb : b = k
    · subst hb
      simpa using ih
    · simp [hb, mfind, Ne.symm hb, ih]

/-- A map reads back what was written. -/
@[simp] theorem mget_mset_same [DecidableEq V] (d : V) (m : List (Nat × V)) (k : Nat) (v : V) : mget d (mset d m k v) k = v := by
  unfold mset mget
  split
  · next h => rw [mfind_merase_same]; simp [h]
  · rw [mfind_mput_same]; rfl

/-- Another key is left alone. -/
theorem mget_mset_ne [DecidableEq V] (d : V) (m : List (Nat × V)) (k j : Nat) (v : V) (h : j ≠ k) : mget d (mset d m k v) j = mget d m j := by
  unfold mset mget
  split
  · rw [mfind_merase_ne m k j h]
  · rw [mfind_mput_ne m k j v h]

/-- Every read of a map after a write. -/
theorem mget_mset [DecidableEq V] (d : V) (m : List (Nat × V)) (k j : Nat) (v : V) : mget d (mset d m k v) j = if j = k then v else mget d m j := by
  split
  · next h => subst h; simp
  · next h => exact mget_mset_ne d m k j v h

theorem above_mput {a k : Nat} {m : List (Nat × V)} {v : V} (h : above a m) (hk : a < k) : above a (mput m k v) := by
  induction m with
  | nil => intro p hp; simp only [mput, List.mem_singleton] at hp; subst hp; exact hk
  | cons p t ih =>
    obtain ⟨b, w⟩ := p
    have hb : a < b := h (b, w) (by simp)
    have ht : above a t := fun p hp => h p (by simp [hp])
    unfold mput
    split
    · intro p hp
      rcases List.mem_cons.1 hp with rfl | hp
      · exact hk
      · exact h p hp
    · split
      · intro p hp
        rcases List.mem_cons.1 hp with rfl | hp
        · exact hk
        · exact ht p hp
      · intro p hp
        rcases List.mem_cons.1 hp with rfl | hp
        · exact hb
        · exact ih ht p hp

theorem mrising_mput {m : List (Nat × V)} (k : Nat) (v : V) (h : mrising m = true) : mrising (mput m k v) = true := by
  induction m with
  | nil => rfl
  | cons p t ih =>
    obtain ⟨b, w⟩ := p
    obtain ⟨hb, ht⟩ := (mrising_cons b w t).1 h
    unfold mput
    split
    · next hk =>
      refine (mrising_cons _ _ _).2 ⟨?_, h⟩
      intro p hp
      rcases List.mem_cons.1 hp with rfl | hp
      · exact hk
      · exact Nat.lt_trans hk (hb p hp)
    · split
      · next hk => subst hk; exact (mrising_cons _ _ _).2 ⟨hb, ht⟩
      · next h1 h2 => exact (mrising_cons _ _ _).2 ⟨above_mput hb (by omega), ih ht⟩

theorem mrising_filter {m : List (Nat × V)} (q : Nat × V → Bool) (h : mrising m = true) : mrising (m.filter q) = true := by
  induction m with
  | nil => rfl
  | cons p t ih =>
    obtain ⟨b, w⟩ := p
    obtain ⟨hb, ht⟩ := (mrising_cons b w t).1 h
    simp only [List.filter]
    split
    · exact (mrising_cons _ _ _).2 ⟨fun p hp => hb p (List.mem_filter.1 hp).1, ih ht⟩
    · exact ih ht

theorem all_mput (q : Nat × V → Bool) {m : List (Nat × V)} {k : Nat} {v : V} (h : m.all q = true) (hv : q (k, v) = true) :
    (mput m k v).all q = true := by
  induction m with
  | nil => simp [mput, hv]
  | cons p t ih =>
    obtain ⟨b, w⟩ := p
    simp only [List.all_cons, Bool.and_eq_true] at h
    unfold mput
    split
    · simp [hv, h]
    · split
      · simpa [hv] using h.2
      · simpa [h.1] using ih h.2

theorem mwf_filter [DecidableEq V] (d : V) {m : List (Nat × V)} (q : Nat × V → Bool) (h : mwf d m = true) : mwf d (m.filter q) = true := by
  simp only [mwf, Bool.and_eq_true] at *
  refine ⟨mrising_filter q h.1, ?_⟩
  rw [List.all_eq_true] at *
  intro x hx
  exact h.2 x (List.mem_filter.1 hx).1

/-- Writing keeps the canonical form. -/
theorem mwf_mset [DecidableEq V] (d : V) {m : List (Nat × V)} (k : Nat) (v : V) (h : mwf d m = true) : mwf d (mset d m k v) = true := by
  unfold mset
  split
  · exact mwf_filter d _ h
  · next hv =>
    simp only [mwf, Bool.and_eq_true] at *
    exact ⟨mrising_mput k v h.1, all_mput _ h.2 (by simpa using hv)⟩

/-- Memory keeps its canonical form when bytes are written. -/
theorem memPut_wf (m : List Host.Cell) (a : Nat) (l : List Byte) (h : Memory.wf m = true) : Memory.wf (memPut m a l) = true := by
  induction l generalizing m a with
  | nil => exact h
  | cons b t ih => exact ih _ _ (mwf_mset 0 a b h)

/-- Poison keeps its canonical form over a fold of writes. -/
theorem mwf_foldl [DecidableEq V] (d : V) (l : List Nat) (f : Nat → V) (m : List (Nat × V)) (h : mwf d m = true) :
    mwf d (l.foldl (fun m g => mset d m g (f g)) m) = true := by
  induction l generalizing m with
  | nil => exact h
  | cons g t ih => exact ih _ (mwf_mset d g _ h)

/-- A write of marked bytes keeps memory and poison in canonical form. -/
theorem wrMarked_memWf (s : State) (a : Nat) (l : List (Byte × Bool)) (h : s.memWf = true) : (wrMarked s a l).memWf = true := by
  simp only [State.memWf, Bool.and_eq_true] at *
  unfold wrMarked
  simp only
  split
  · exact h
  · exact ⟨memPut_wf _ _ _ h.1, mwf_foldl false _ _ _ h.2⟩

/-- Losing memory with power keeps the canonical form of what stays. -/
theorem keepMem_memWf (s : State) (hbm sp : Bool) (h : s.memWf = true) : (keepMem s hbm sp).memWf = true := by
  simp only [State.memWf, Bool.and_eq_true] at *
  exact ⟨mwf_filter 0 _ h.1, mwf_filter false _ h.2⟩

end Sys2Proof.Machine
end

