-- ==== Sys2Proof/Laws/State.lean ====
section
/-! SUPPORT. Laws/State.lean: what each named update of the state leaves alone, one lemma per field, all true by definition. -/

namespace Sys2Proof.Machine

/-! `oset` changes obj only. -/
@[simp] theorem oset_pending (s : State) (ix sub v : Nat) : (oset s ix sub v).pending = s.pending := rfl
@[simp] theorem oset_now (s : State) (ix sub v : Nat) : (oset s ix sub v).now = s.now := rfl
@[simp] theorem oset_fresh (s : State) (ix sub v : Nat) : (oset s ix sub v).fresh = s.fresh := rfl
@[simp] theorem oset_outs (s : State) (ix sub v : Nat) : (oset s ix sub v).outs = s.outs := rfl
@[simp] theorem oset_tc (s : State) (ix sub v : Nat) : (oset s ix sub v).tc = s.tc := rfl
@[simp] theorem oset_mem (s : State) (ix sub v : Nat) : (oset s ix sub v).mem = s.mem := rfl
@[simp] theorem oset_pz (s : State) (ix sub v : Nat) : (oset s ix sub v).pz = s.pz := rfl
@[simp] theorem oset_cl (s : State) (ix sub v : Nat) : (oset s ix sub v).cl = s.cl := rfl
@[simp] theorem oset_clapVal (s : State) (ix sub v : Nat) : (oset s ix sub v).clapVal = s.clapVal := rfl
@[simp] theorem oset_clapPz (s : State) (ix sub v : Nat) : (oset s ix sub v).clapPz = s.clapPz := rfl
@[simp] theorem oset_waiters (s : State) (ix sub v : Nat) : (oset s ix sub v).waiters = s.waiters := rfl
@[simp] theorem oset_freed (s : State) (ix sub v : Nat) : (oset s ix sub v).freed = s.freed := rfl
@[simp] theorem oset_clapOps (s : State) (ix sub v : Nat) : (oset s ix sub v).clapOps = s.clapOps := rfl
@[simp] theorem oset_clapRes (s : State) (ix sub v : Nat) : (oset s ix sub v).clapRes = s.clapRes := rfl
@[simp] theorem oset_hf (s : State) (ix sub v : Nat) : (oset s ix sub v).hf = s.hf := rfl
@[simp] theorem oset_faults (s : State) (ix sub v : Nat) : (oset s ix sub v).faults = s.faults := rfl
@[simp] theorem oset_evlog (s : State) (ix sub v : Nat) : (oset s ix sub v).evlog = s.evlog := rfl
@[simp] theorem oset_logs (s : State) (ix sub v : Nat) : (oset s ix sub v).logs = s.logs := rfl
@[simp] theorem oset_unsync (s : State) (ix sub v : Nat) : (oset s ix sub v).unsync = s.unsync := rfl
@[simp] theorem oset_reqs (s : State) (ix sub v : Nat) : (oset s ix sub v).reqs = s.reqs := rfl
@[simp] theorem oset_tm (s : State) (ix sub v : Nat) : (oset s ix sub v).tm = s.tm := rfl
@[simp] theorem oset_fab (s : State) (ix sub v : Nat) : (oset s ix sub v).fab = s.fab := rfl
@[simp] theorem oset_coll (s : State) (ix sub v : Nat) : (oset s ix sub v).coll = s.coll := rfl
@[simp] theorem oset_reg (s : State) (ix sub v : Nat) : (oset s ix sub v).reg = s.reg := rfl
@[simp] theorem oset_dly (s : State) (ix sub v : Nat) : (oset s ix sub v).dly = s.dly := rfl
@[simp] theorem oset_dict (s : State) (ix sub v : Nat) : (oset s ix sub v).dict = s.dict := rfl
@[simp] theorem oset_dir (s : State) (ix sub v : Nat) : (oset s ix sub v).dir = s.dir := rfl
@[simp] theorem oset_flash (s : State) (ix sub v : Nat) : (oset s ix sub v).flash = s.flash := rfl
@[simp] theorem oset_boot (s : State) (ix sub v : Nat) : (oset s ix sub v).boot = s.boot := rfl
@[simp] theorem oset_pow (s : State) (ix sub v : Nat) : (oset s ix sub v).pow = s.pow := rfl
@[simp] theorem oset_sec (s : State) (ix sub v : Nat) : (oset s ix sub v).sec = s.sec := rfl
@[simp] theorem oset_fuses (s : State) (ix sub v : Nat) : (oset s ix sub v).fuses = s.fuses := rfl
@[simp] theorem oset_meshHits (s : State) (ix sub v : Nat) : (oset s ix sub v).meshHits = s.meshHits := rfl

/-! `obump` changes obj only. -/
@[simp] theorem obump_pending (s : State) (ix sub d : Nat) : (obump s ix sub d).pending = s.pending := rfl
@[simp] theorem obump_now (s : State) (ix sub d : Nat) : (obump s ix sub d).now = s.now := rfl
@[simp] theorem obump_fresh (s : State) (ix sub d : Nat) : (obump s ix sub d).fresh = s.fresh := rfl
@[simp] theorem obump_outs (s : State) (ix sub d : Nat) : (obump s ix sub d).outs = s.outs := rfl
@[simp] theorem obump_tc (s : State) (ix sub d : Nat) : (obump s ix sub d).tc = s.tc := rfl
@[simp] theorem obump_mem (s : State) (ix sub d : Nat) : (obump s ix sub d).mem = s.mem := rfl
@[simp] theorem obump_pz (s : State) (ix sub d : Nat) : (obump s ix sub d).pz = s.pz := rfl
@[simp] theorem obump_cl (s : State) (ix sub d : Nat) : (obump s ix sub d).cl = s.cl := rfl
@[simp] theorem obump_clapVal (s : State) (ix sub d : Nat) : (obump s ix sub d).clapVal = s.clapVal := rfl
@[simp] theorem obump_clapPz (s : State) (ix sub d : Nat) : (obump s ix sub d).clapPz = s.clapPz := rfl
@[simp] theorem obump_waiters (s : State) (ix sub d : Nat) : (obump s ix sub d).waiters = s.waiters := rfl
@[simp] theorem obump_freed (s : State) (ix sub d : Nat) : (obump s ix sub d).freed = s.freed := rfl
@[simp] theorem obump_clapOps (s : State) (ix sub d : Nat) : (obump s ix sub d).clapOps = s.clapOps := rfl
@[simp] theorem obump_clapRes (s : State) (ix sub d : Nat) : (obump s ix sub d).clapRes = s.clapRes := rfl
@[simp] theorem obump_hf (s : State) (ix sub d : Nat) : (obump s ix sub d).hf = s.hf := rfl
@[simp] theorem obump_faults (s : State) (ix sub d : Nat) : (obump s ix sub d).faults = s.faults := rfl
@[simp] theorem obump_evlog (s : State) (ix sub d : Nat) : (obump s ix sub d).evlog = s.evlog := rfl
@[simp] theorem obump_logs (s : State) (ix sub d : Nat) : (obump s ix sub d).logs = s.logs := rfl
@[simp] theorem obump_unsync (s : State) (ix sub d : Nat) : (obump s ix sub d).unsync = s.unsync := rfl
@[simp] theorem obump_reqs (s : State) (ix sub d : Nat) : (obump s ix sub d).reqs = s.reqs := rfl
@[simp] theorem obump_tm (s : State) (ix sub d : Nat) : (obump s ix sub d).tm = s.tm := rfl
@[simp] theorem obump_fab (s : State) (ix sub d : Nat) : (obump s ix sub d).fab = s.fab := rfl
@[simp] theorem obump_coll (s : State) (ix sub d : Nat) : (obump s ix sub d).coll = s.coll := rfl
@[simp] theorem obump_reg (s : State) (ix sub d : Nat) : (obump s ix sub d).reg = s.reg := rfl
@[simp] theorem obump_dly (s : State) (ix sub d : Nat) : (obump s ix sub d).dly = s.dly := rfl
@[simp] theorem obump_dict (s : State) (ix sub d : Nat) : (obump s ix sub d).dict = s.dict := rfl
@[simp] theorem obump_dir (s : State) (ix sub d : Nat) : (obump s ix sub d).dir = s.dir := rfl
@[simp] theorem obump_flash (s : State) (ix sub d : Nat) : (obump s ix sub d).flash = s.flash := rfl
@[simp] theorem obump_boot (s : State) (ix sub d : Nat) : (obump s ix sub d).boot = s.boot := rfl
@[simp] theorem obump_pow (s : State) (ix sub d : Nat) : (obump s ix sub d).pow = s.pow := rfl
@[simp] theorem obump_sec (s : State) (ix sub d : Nat) : (obump s ix sub d).sec = s.sec := rfl
@[simp] theorem obump_fuses (s : State) (ix sub d : Nat) : (obump s ix sub d).fuses = s.fuses := rfl
@[simp] theorem obump_meshHits (s : State) (ix sub d : Nat) : (obump s ix sub d).meshHits = s.meshHits := rfl

/-! `cset` changes obj only. -/
@[simp] theorem cset_pending (s : State) (c : Fin 8) (ix sub v : Nat) : (cset s c ix sub v).pending = s.pending := rfl
@[simp] theorem cset_now (s : State) (c : Fin 8) (ix sub v : Nat) : (cset s c ix sub v).now = s.now := rfl
@[simp] theorem cset_fresh (s : State) (c : Fin 8) (ix sub v : Nat) : (cset s c ix sub v).fresh = s.fresh := rfl
@[simp] theorem cset_outs (s : State) (c : Fin 8) (ix sub v : Nat) : (cset s c ix sub v).outs = s.outs := rfl
@[simp] theorem cset_tc (s : State) (c : Fin 8) (ix sub v : Nat) : (cset s c ix sub v).tc = s.tc := rfl
@[simp] theorem cset_mem (s : State) (c : Fin 8) (ix sub v : Nat) : (cset s c ix sub v).mem = s.mem := rfl
@[simp] theorem cset_pz (s : State) (c : Fin 8) (ix sub v : Nat) : (cset s c ix sub v).pz = s.pz := rfl
@[simp] theorem cset_cl (s : State) (c : Fin 8) (ix sub v : Nat) : (cset s c ix sub v).cl = s.cl := rfl
@[simp] theorem cset_clapVal (s : State) (c : Fin 8) (ix sub v : Nat) : (cset s c ix sub v).clapVal = s.clapVal := rfl
@[simp] theorem cset_clapPz (s : State) (c : Fin 8) (ix sub v : Nat) : (cset s c ix sub v).clapPz = s.clapPz := rfl
@[simp] theorem cset_waiters (s : State) (c : Fin 8) (ix sub v : Nat) : (cset s c ix sub v).waiters = s.waiters := rfl
@[simp] theorem cset_freed (s : State) (c : Fin 8) (ix sub v : Nat) : (cset s c ix sub v).freed = s.freed := rfl
@[simp] theorem cset_clapOps (s : State) (c : Fin 8) (ix sub v : Nat) : (cset s c ix sub v).clapOps = s.clapOps := rfl
@[simp] theorem cset_clapRes (s : State) (c : Fin 8) (ix sub v : Nat) : (cset s c ix sub v).clapRes = s.clapRes := rfl
@[simp] theorem cset_hf (s : State) (c : Fin 8) (ix sub v : Nat) : (cset s c ix sub v).hf = s.hf := rfl
@[simp] theorem cset_faults (s : State) (c : Fin 8) (ix sub v : Nat) : (cset s c ix sub v).faults = s.faults := rfl
@[simp] theorem cset_evlog (s : State) (c : Fin 8) (ix sub v : Nat) : (cset s c ix sub v).evlog = s.evlog := rfl
@[simp] theorem cset_logs (s : State) (c : Fin 8) (ix sub v : Nat) : (cset s c ix sub v).logs = s.logs := rfl
@[simp] theorem cset_unsync (s : State) (c : Fin 8) (ix sub v : Nat) : (cset s c ix sub v).unsync = s.unsync := rfl
@[simp] theorem cset_reqs (s : State) (c : Fin 8) (ix sub v : Nat) : (cset s c ix sub v).reqs = s.reqs := rfl
@[simp] theorem cset_tm (s : State) (c : Fin 8) (ix sub v : Nat) : (cset s c ix sub v).tm = s.tm := rfl
@[simp] theorem cset_fab (s : State) (c : Fin 8) (ix sub v : Nat) : (cset s c ix sub v).fab = s.fab := rfl
@[simp] theorem cset_coll (s : State) (c : Fin 8) (ix sub v : Nat) : (cset s c ix sub v).coll = s.coll := rfl
@[simp] theorem cset_reg (s : State) (c : Fin 8) (ix sub v : Nat) : (cset s c ix sub v).reg = s.reg := rfl
@[simp] theorem cset_dly (s : State) (c : Fin 8) (ix sub v : Nat) : (cset s c ix sub v).dly = s.dly := rfl
@[simp] theorem cset_dict (s : State) (c : Fin 8) (ix sub v : Nat) : (cset s c ix sub v).dict = s.dict := rfl
@[simp] theorem cset_dir (s : State) (c : Fin 8) (ix sub v : Nat) : (cset s c ix sub v).dir = s.dir := rfl
@[simp] theorem cset_flash (s : State) (c : Fin 8) (ix sub v : Nat) : (cset s c ix sub v).flash = s.flash := rfl
@[simp] theorem cset_boot (s : State) (c : Fin 8) (ix sub v : Nat) : (cset s c ix sub v).boot = s.boot := rfl
@[simp] theorem cset_pow (s : State) (c : Fin 8) (ix sub v : Nat) : (cset s c ix sub v).pow = s.pow := rfl
@[simp] theorem cset_sec (s : State) (c : Fin 8) (ix sub v : Nat) : (cset s c ix sub v).sec = s.sec := rfl
@[simp] theorem cset_fuses (s : State) (c : Fin 8) (ix sub v : Nat) : (cset s c ix sub v).fuses = s.fuses := rfl
@[simp] theorem cset_meshHits (s : State) (c : Fin 8) (ix sub v : Nat) : (cset s c ix sub v).meshHits = s.meshHits := rfl

/-! `cbump` changes obj only. -/
@[simp] theorem cbump_pending (s : State) (c : Fin 8) (ix sub d : Nat) : (cbump s c ix sub d).pending = s.pending := rfl
@[simp] theorem cbump_now (s : State) (c : Fin 8) (ix sub d : Nat) : (cbump s c ix sub d).now = s.now := rfl
@[simp] theorem cbump_fresh (s : State) (c : Fin 8) (ix sub d : Nat) : (cbump s c ix sub d).fresh = s.fresh := rfl
@[simp] theorem cbump_outs (s : State) (c : Fin 8) (ix sub d : Nat) : (cbump s c ix sub d).outs = s.outs := rfl
@[simp] theorem cbump_tc (s : State) (c : Fin 8) (ix sub d : Nat) : (cbump s c ix sub d).tc = s.tc := rfl
@[simp] theorem cbump_mem (s : State) (c : Fin 8) (ix sub d : Nat) : (cbump s c ix sub d).mem = s.mem := rfl
@[simp] theorem cbump_pz (s : State) (c : Fin 8) (ix sub d : Nat) : (cbump s c ix sub d).pz = s.pz := rfl
@[simp] theorem cbump_cl (s : State) (c : Fin 8) (ix sub d : Nat) : (cbump s c ix sub d).cl = s.cl := rfl
@[simp] theorem cbump_clapVal (s : State) (c : Fin 8) (ix sub d : Nat) : (cbump s c ix sub d).clapVal = s.clapVal := rfl
@[simp] theorem cbump_clapPz (s : State) (c : Fin 8) (ix sub d : Nat) : (cbump s c ix sub d).clapPz = s.clapPz := rfl
@[simp] theorem cbump_waiters (s : State) (c : Fin 8) (ix sub d : Nat) : (cbump s c ix sub d).waiters = s.waiters := rfl
@[simp] theorem cbump_freed (s : State) (c : Fin 8) (ix sub d : Nat) : (cbump s c ix sub d).freed = s.freed := rfl
@[simp] theorem cbump_clapOps (s : State) (c : Fin 8) (ix sub d : Nat) : (cbump s c ix sub d).clapOps = s.clapOps := rfl
@[simp] theorem cbump_clapRes (s : State) (c : Fin 8) (ix sub d : Nat) : (cbump s c ix sub d).clapRes = s.clapRes := rfl
@[simp] theorem cbump_hf (s : State) (c : Fin 8) (ix sub d : Nat) : (cbump s c ix sub d).hf = s.hf := rfl
@[simp] theorem cbump_faults (s : State) (c : Fin 8) (ix sub d : Nat) : (cbump s c ix sub d).faults = s.faults := rfl
@[simp] theorem cbump_evlog (s : State) (c : Fin 8) (ix sub d : Nat) : (cbump s c ix sub d).evlog = s.evlog := rfl
@[simp] theorem cbump_logs (s : State) (c : Fin 8) (ix sub d : Nat) : (cbump s c ix sub d).logs = s.logs := rfl
@[simp] theorem cbump_unsync (s : State) (c : Fin 8) (ix sub d : Nat) : (cbump s c ix sub d).unsync = s.unsync := rfl
@[simp] theorem cbump_reqs (s : State) (c : Fin 8) (ix sub d : Nat) : (cbump s c ix sub d).reqs = s.reqs := rfl
@[simp] theorem cbump_tm (s : State) (c : Fin 8) (ix sub d : Nat) : (cbump s c ix sub d).tm = s.tm := rfl
@[simp] theorem cbump_fab (s : State) (c : Fin 8) (ix sub d : Nat) : (cbump s c ix sub d).fab = s.fab := rfl
@[simp] theorem cbump_coll (s : State) (c : Fin 8) (ix sub d : Nat) : (cbump s c ix sub d).coll = s.coll := rfl
@[simp] theorem cbump_reg (s : State) (c : Fin 8) (ix sub d : Nat) : (cbump s c ix sub d).reg = s.reg := rfl
@[simp] theorem cbump_dly (s : State) (c : Fin 8) (ix sub d : Nat) : (cbump s c ix sub d).dly = s.dly := rfl
@[simp] theorem cbump_dict (s : State) (c : Fin 8) (ix sub d : Nat) : (cbump s c ix sub d).dict = s.dict := rfl
@[simp] theorem cbump_dir (s : State) (c : Fin 8) (ix sub d : Nat) : (cbump s c ix sub d).dir = s.dir := rfl
@[simp] theorem cbump_flash (s : State) (c : Fin 8) (ix sub d : Nat) : (cbump s c ix sub d).flash = s.flash := rfl
@[simp] theorem cbump_boot (s : State) (c : Fin 8) (ix sub d : Nat) : (cbump s c ix sub d).boot = s.boot := rfl
@[simp] theorem cbump_pow (s : State) (c : Fin 8) (ix sub d : Nat) : (cbump s c ix sub d).pow = s.pow := rfl
@[simp] theorem cbump_sec (s : State) (c : Fin 8) (ix sub d : Nat) : (cbump s c ix sub d).sec = s.sec := rfl
@[simp] theorem cbump_fuses (s : State) (c : Fin 8) (ix sub d : Nat) : (cbump s c ix sub d).fuses = s.fuses := rfl
@[simp] theorem cbump_meshHits (s : State) (c : Fin 8) (ix sub d : Nat) : (cbump s c ix sub d).meshHits = s.meshHits := rfl

/-! `modC` changes cl only. -/
@[simp] theorem modC_pending (s : State) (c : Fin 8) (f : Cluster → Cluster) : (modC s c f).pending = s.pending := rfl
@[simp] theorem modC_now (s : State) (c : Fin 8) (f : Cluster → Cluster) : (modC s c f).now = s.now := rfl
@[simp] theorem modC_fresh (s : State) (c : Fin 8) (f : Cluster → Cluster) : (modC s c f).fresh = s.fresh := rfl
@[simp] theorem modC_outs (s : State) (c : Fin 8) (f : Cluster → Cluster) : (modC s c f).outs = s.outs := rfl
@[simp] theorem modC_tc (s : State) (c : Fin 8) (f : Cluster → Cluster) : (modC s c f).tc = s.tc := rfl
@[simp] theorem modC_obj (s : State) (c : Fin 8) (f : Cluster → Cluster) : (modC s c f).obj = s.obj := rfl
@[simp] theorem modC_mem (s : State) (c : Fin 8) (f : Cluster → Cluster) : (modC s c f).mem = s.mem := rfl
@[simp] theorem modC_pz (s : State) (c : Fin 8) (f : Cluster → Cluster) : (modC s c f).pz = s.pz := rfl
@[simp] theorem modC_clapVal (s : State) (c : Fin 8) (f : Cluster → Cluster) : (modC s c f).clapVal = s.clapVal := rfl
@[simp] theorem modC_clapPz (s : State) (c : Fin 8) (f : Cluster → Cluster) : (modC s c f).clapPz = s.clapPz := rfl
@[simp] theorem modC_waiters (s : State) (c : Fin 8) (f : Cluster → Cluster) : (modC s c f).waiters = s.waiters := rfl
@[simp] theorem modC_freed (s : State) (c : Fin 8) (f : Cluster → Cluster) : (modC s c f).freed = s.freed := rfl
@[simp] theorem modC_clapOps (s : State) (c : Fin 8) (f : Cluster → Cluster) : (modC s c f).clapOps = s.clapOps := rfl
@[simp] theorem modC_clapRes (s : State) (c : Fin 8) (f : Cluster → Cluster) : (modC s c f).clapRes = s.clapRes := rfl
@[simp] theorem modC_hf (s : State) (c : Fin 8) (f : Cluster → Cluster) : (modC s c f).hf = s.hf := rfl
@[simp] theorem modC_faults (s : State) (c : Fin 8) (f : Cluster → Cluster) : (modC s c f).faults = s.faults := rfl
@[simp] theorem modC_evlog (s : State) (c : Fin 8) (f : Cluster → Cluster) : (modC s c f).evlog = s.evlog := rfl
@[simp] theorem modC_logs (s : State) (c : Fin 8) (f : Cluster → Cluster) : (modC s c f).logs = s.logs := rfl
@[simp] theorem modC_unsync (s : State) (c : Fin 8) (f : Cluster → Cluster) : (modC s c f).unsync = s.unsync := rfl
@[simp] theorem modC_reqs (s : State) (c : Fin 8) (f : Cluster → Cluster) : (modC s c f).reqs = s.reqs := rfl
@[simp] theorem modC_tm (s : State) (c : Fin 8) (f : Cluster → Cluster) : (modC s c f).tm = s.tm := rfl
@[simp] theorem modC_fab (s : State) (c : Fin 8) (f : Cluster → Cluster) : (modC s c f).fab = s.fab := rfl
@[simp] theorem modC_coll (s : State) (c : Fin 8) (f : Cluster → Cluster) : (modC s c f).coll = s.coll := rfl
@[simp] theorem modC_reg (s : State) (c : Fin 8) (f : Cluster → Cluster) : (modC s c f).reg = s.reg := rfl
@[simp] theorem modC_dly (s : State) (c : Fin 8) (f : Cluster → Cluster) : (modC s c f).dly = s.dly := rfl
@[simp] theorem modC_dict (s : State) (c : Fin 8) (f : Cluster → Cluster) : (modC s c f).dict = s.dict := rfl
@[simp] theorem modC_dir (s : State) (c : Fin 8) (f : Cluster → Cluster) : (modC s c f).dir = s.dir := rfl
@[simp] theorem modC_flash (s : State) (c : Fin 8) (f : Cluster → Cluster) : (modC s c f).flash = s.flash := rfl
@[simp] theorem modC_boot (s : State) (c : Fin 8) (f : Cluster → Cluster) : (modC s c f).boot = s.boot := rfl
@[simp] theorem modC_pow (s : State) (c : Fin 8) (f : Cluster → Cluster) : (modC s c f).pow = s.pow := rfl
@[simp] theorem modC_sec (s : State) (c : Fin 8) (f : Cluster → Cluster) : (modC s c f).sec = s.sec := rfl
@[simp] theorem modC_fuses (s : State) (c : Fin 8) (f : Cluster → Cluster) : (modC s c f).fuses = s.fuses := rfl
@[simp] theorem modC_meshHits (s : State) (c : Fin 8) (f : Cluster → Cluster) : (modC s c f).meshHits = s.meshHits := rfl

/-! `modCore` changes cl only. -/
@[simp] theorem modCore_pending (s : State) (c : Fin 8) (f : Core → Core) : (modCore s c f).pending = s.pending := rfl
@[simp] theorem modCore_now (s : State) (c : Fin 8) (f : Core → Core) : (modCore s c f).now = s.now := rfl
@[simp] theorem modCore_fresh (s : State) (c : Fin 8) (f : Core → Core) : (modCore s c f).fresh = s.fresh := rfl
@[simp] theorem modCore_outs (s : State) (c : Fin 8) (f : Core → Core) : (modCore s c f).outs = s.outs := rfl
@[simp] theorem modCore_tc (s : State) (c : Fin 8) (f : Core → Core) : (modCore s c f).tc = s.tc := rfl
@[simp] theorem modCore_obj (s : State) (c : Fin 8) (f : Core → Core) : (modCore s c f).obj = s.obj := rfl
@[simp] theorem modCore_mem (s : State) (c : Fin 8) (f : Core → Core) : (modCore s c f).mem = s.mem := rfl
@[simp] theorem modCore_pz (s : State) (c : Fin 8) (f : Core → Core) : (modCore s c f).pz = s.pz := rfl
@[simp] theorem modCore_clapVal (s : State) (c : Fin 8) (f : Core → Core) : (modCore s c f).clapVal = s.clapVal := rfl
@[simp] theorem modCore_clapPz (s : State) (c : Fin 8) (f : Core → Core) : (modCore s c f).clapPz = s.clapPz := rfl
@[simp] theorem modCore_waiters (s : State) (c : Fin 8) (f : Core → Core) : (modCore s c f).waiters = s.waiters := rfl
@[simp] theorem modCore_freed (s : State) (c : Fin 8) (f : Core → Core) : (modCore s c f).freed = s.freed := rfl
@[simp] theorem modCore_clapOps (s : State) (c : Fin 8) (f : Core → Core) : (modCore s c f).clapOps = s.clapOps := rfl
@[simp] theorem modCore_clapRes (s : State) (c : Fin 8) (f : Core → Core) : (modCore s c f).clapRes = s.clapRes := rfl
@[simp] theorem modCore_hf (s : State) (c : Fin 8) (f : Core → Core) : (modCore s c f).hf = s.hf := rfl
@[simp] theorem modCore_faults (s : State) (c : Fin 8) (f : Core → Core) : (modCore s c f).faults = s.faults := rfl
@[simp] theorem modCore_evlog (s : State) (c : Fin 8) (f : Core → Core) : (modCore s c f).evlog = s.evlog := rfl
@[simp] theorem modCore_logs (s : State) (c : Fin 8) (f : Core → Core) : (modCore s c f).logs = s.logs := rfl
@[simp] theorem modCore_unsync (s : State) (c : Fin 8) (f : Core → Core) : (modCore s c f).unsync = s.unsync := rfl
@[simp] theorem modCore_reqs (s : State) (c : Fin 8) (f : Core → Core) : (modCore s c f).reqs = s.reqs := rfl
@[simp] theorem modCore_tm (s : State) (c : Fin 8) (f : Core → Core) : (modCore s c f).tm = s.tm := rfl
@[simp] theorem modCore_fab (s : State) (c : Fin 8) (f : Core → Core) : (modCore s c f).fab = s.fab := rfl
@[simp] theorem modCore_coll (s : State) (c : Fin 8) (f : Core → Core) : (modCore s c f).coll = s.coll := rfl
@[simp] theorem modCore_reg (s : State) (c : Fin 8) (f : Core → Core) : (modCore s c f).reg = s.reg := rfl
@[simp] theorem modCore_dly (s : State) (c : Fin 8) (f : Core → Core) : (modCore s c f).dly = s.dly := rfl
@[simp] theorem modCore_dict (s : State) (c : Fin 8) (f : Core → Core) : (modCore s c f).dict = s.dict := rfl
@[simp] theorem modCore_dir (s : State) (c : Fin 8) (f : Core → Core) : (modCore s c f).dir = s.dir := rfl
@[simp] theorem modCore_flash (s : State) (c : Fin 8) (f : Core → Core) : (modCore s c f).flash = s.flash := rfl
@[simp] theorem modCore_boot (s : State) (c : Fin 8) (f : Core → Core) : (modCore s c f).boot = s.boot := rfl
@[simp] theorem modCore_pow (s : State) (c : Fin 8) (f : Core → Core) : (modCore s c f).pow = s.pow := rfl
@[simp] theorem modCore_sec (s : State) (c : Fin 8) (f : Core → Core) : (modCore s c f).sec = s.sec := rfl
@[simp] theorem modCore_fuses (s : State) (c : Fin 8) (f : Core → Core) : (modCore s c f).fuses = s.fuses := rfl
@[simp] theorem modCore_meshHits (s : State) (c : Fin 8) (f : Core → Core) : (modCore s c f).meshHits = s.meshHits := rfl

/-! `modF` changes hf only. -/
@[simp] theorem modF_pending (s : State) (p : Fin 8) (f : HostFn → HostFn) : (modF s p f).pending = s.pending := rfl
@[simp] theorem modF_now (s : State) (p : Fin 8) (f : HostFn → HostFn) : (modF s p f).now = s.now := rfl
@[simp] theorem modF_fresh (s : State) (p : Fin 8) (f : HostFn → HostFn) : (modF s p f).fresh = s.fresh := rfl
@[simp] theorem modF_outs (s : State) (p : Fin 8) (f : HostFn → HostFn) : (modF s p f).outs = s.outs := rfl
@[simp] theorem modF_tc (s : State) (p : Fin 8) (f : HostFn → HostFn) : (modF s p f).tc = s.tc := rfl
@[simp] theorem modF_obj (s : State) (p : Fin 8) (f : HostFn → HostFn) : (modF s p f).obj = s.obj := rfl
@[simp] theorem modF_mem (s : State) (p : Fin 8) (f : HostFn → HostFn) : (modF s p f).mem = s.mem := rfl
@[simp] theorem modF_pz (s : State) (p : Fin 8) (f : HostFn → HostFn) : (modF s p f).pz = s.pz := rfl
@[simp] theorem modF_cl (s : State) (p : Fin 8) (f : HostFn → HostFn) : (modF s p f).cl = s.cl := rfl
@[simp] theorem modF_clapVal (s : State) (p : Fin 8) (f : HostFn → HostFn) : (modF s p f).clapVal = s.clapVal := rfl
@[simp] theorem modF_clapPz (s : State) (p : Fin 8) (f : HostFn → HostFn) : (modF s p f).clapPz = s.clapPz := rfl
@[simp] theorem modF_waiters (s : State) (p : Fin 8) (f : HostFn → HostFn) : (modF s p f).waiters = s.waiters := rfl
@[simp] theorem modF_freed (s : State) (p : Fin 8) (f : HostFn → HostFn) : (modF s p f).freed = s.freed := rfl
@[simp] theorem modF_clapOps (s : State) (p : Fin 8) (f : HostFn → HostFn) : (modF s p f).clapOps = s.clapOps := rfl
@[simp] theorem modF_clapRes (s : State) (p : Fin 8) (f : HostFn → HostFn) : (modF s p f).clapRes = s.clapRes := rfl
@[simp] theorem modF_faults (s : State) (p : Fin 8) (f : HostFn → HostFn) : (modF s p f).faults = s.faults := rfl
@[simp] theorem modF_evlog (s : State) (p : Fin 8) (f : HostFn → HostFn) : (modF s p f).evlog = s.evlog := rfl
@[simp] theorem modF_logs (s : State) (p : Fin 8) (f : HostFn → HostFn) : (modF s p f).logs = s.logs := rfl
@[simp] theorem modF_unsync (s : State) (p : Fin 8) (f : HostFn → HostFn) : (modF s p f).unsync = s.unsync := rfl
@[simp] theorem modF_reqs (s : State) (p : Fin 8) (f : HostFn → HostFn) : (modF s p f).reqs = s.reqs := rfl
@[simp] theorem modF_tm (s : State) (p : Fin 8) (f : HostFn → HostFn) : (modF s p f).tm = s.tm := rfl
@[simp] theorem modF_fab (s : State) (p : Fin 8) (f : HostFn → HostFn) : (modF s p f).fab = s.fab := rfl
@[simp] theorem modF_coll (s : State) (p : Fin 8) (f : HostFn → HostFn) : (modF s p f).coll = s.coll := rfl
@[simp] theorem modF_reg (s : State) (p : Fin 8) (f : HostFn → HostFn) : (modF s p f).reg = s.reg := rfl
@[simp] theorem modF_dly (s : State) (p : Fin 8) (f : HostFn → HostFn) : (modF s p f).dly = s.dly := rfl
@[simp] theorem modF_dict (s : State) (p : Fin 8) (f : HostFn → HostFn) : (modF s p f).dict = s.dict := rfl
@[simp] theorem modF_dir (s : State) (p : Fin 8) (f : HostFn → HostFn) : (modF s p f).dir = s.dir := rfl
@[simp] theorem modF_flash (s : State) (p : Fin 8) (f : HostFn → HostFn) : (modF s p f).flash = s.flash := rfl
@[simp] theorem modF_boot (s : State) (p : Fin 8) (f : HostFn → HostFn) : (modF s p f).boot = s.boot := rfl
@[simp] theorem modF_pow (s : State) (p : Fin 8) (f : HostFn → HostFn) : (modF s p f).pow = s.pow := rfl
@[simp] theorem modF_sec (s : State) (p : Fin 8) (f : HostFn → HostFn) : (modF s p f).sec = s.sec := rfl
@[simp] theorem modF_fuses (s : State) (p : Fin 8) (f : HostFn → HostFn) : (modF s p f).fuses = s.fuses := rfl
@[simp] theorem modF_meshHits (s : State) (p : Fin 8) (f : HostFn → HostFn) : (modF s p f).meshHits = s.meshHits := rfl

/-! `stamped` changes logs only. -/
@[simp] theorem stamped_pending (s : State) (u t : Nat) : (stamped s u t).pending = s.pending := rfl
@[simp] theorem stamped_now (s : State) (u t : Nat) : (stamped s u t).now = s.now := rfl
@[simp] theorem stamped_fresh (s : State) (u t : Nat) : (stamped s u t).fresh = s.fresh := rfl
@[simp] theorem stamped_outs (s : State) (u t : Nat) : (stamped s u t).outs = s.outs := rfl
@[simp] theorem stamped_tc (s : State) (u t : Nat) : (stamped s u t).tc = s.tc := rfl
@[simp] theorem stamped_obj (s : State) (u t : Nat) : (stamped s u t).obj = s.obj := rfl
@[simp] theorem stamped_mem (s : State) (u t : Nat) : (stamped s u t).mem = s.mem := rfl
@[simp] theorem stamped_pz (s : State) (u t : Nat) : (stamped s u t).pz = s.pz := rfl
@[simp] theorem stamped_cl (s : State) (u t : Nat) : (stamped s u t).cl = s.cl := rfl
@[simp] theorem stamped_clapVal (s : State) (u t : Nat) : (stamped s u t).clapVal = s.clapVal := rfl
@[simp] theorem stamped_clapPz (s : State) (u t : Nat) : (stamped s u t).clapPz = s.clapPz := rfl
@[simp] theorem stamped_waiters (s : State) (u t : Nat) : (stamped s u t).waiters = s.waiters := rfl
@[simp] theorem stamped_freed (s : State) (u t : Nat) : (stamped s u t).freed = s.freed := rfl
@[simp] theorem stamped_clapOps (s : State) (u t : Nat) : (stamped s u t).clapOps = s.clapOps := rfl
@[simp] theorem stamped_clapRes (s : State) (u t : Nat) : (stamped s u t).clapRes = s.clapRes := rfl
@[simp] theorem stamped_hf (s : State) (u t : Nat) : (stamped s u t).hf = s.hf := rfl
@[simp] theorem stamped_faults (s : State) (u t : Nat) : (stamped s u t).faults = s.faults := rfl
@[simp] theorem stamped_evlog (s : State) (u t : Nat) : (stamped s u t).evlog = s.evlog := rfl
@[simp] theorem stamped_unsync (s : State) (u t : Nat) : (stamped s u t).unsync = s.unsync := rfl
@[simp] theorem stamped_reqs (s : State) (u t : Nat) : (stamped s u t).reqs = s.reqs := rfl
@[simp] theorem stamped_tm (s : State) (u t : Nat) : (stamped s u t).tm = s.tm := rfl
@[simp] theorem stamped_fab (s : State) (u t : Nat) : (stamped s u t).fab = s.fab := rfl
@[simp] theorem stamped_coll (s : State) (u t : Nat) : (stamped s u t).coll = s.coll := rfl
@[simp] theorem stamped_reg (s : State) (u t : Nat) : (stamped s u t).reg = s.reg := rfl
@[simp] theorem stamped_dly (s : State) (u t : Nat) : (stamped s u t).dly = s.dly := rfl
@[simp] theorem stamped_dict (s : State) (u t : Nat) : (stamped s u t).dict = s.dict := rfl
@[simp] theorem stamped_dir (s : State) (u t : Nat) : (stamped s u t).dir = s.dir := rfl
@[simp] theorem stamped_flash (s : State) (u t : Nat) : (stamped s u t).flash = s.flash := rfl
@[simp] theorem stamped_boot (s : State) (u t : Nat) : (stamped s u t).boot = s.boot := rfl
@[simp] theorem stamped_pow (s : State) (u t : Nat) : (stamped s u t).pow = s.pow := rfl
@[simp] theorem stamped_sec (s : State) (u t : Nat) : (stamped s u t).sec = s.sec := rfl
@[simp] theorem stamped_fuses (s : State) (u t : Nat) : (stamped s u t).fuses = s.fuses := rfl
@[simp] theorem stamped_meshHits (s : State) (u t : Nat) : (stamped s u t).meshHits = s.meshHits := rfl

/-! `raiseF` changes logs and faults only. -/
@[simp] theorem raiseF_pending (s : State) (f : FaultRep) : (raiseF s f).pending = s.pending := rfl
@[simp] theorem raiseF_now (s : State) (f : FaultRep) : (raiseF s f).now = s.now := rfl
@[simp] theorem raiseF_fresh (s : State) (f : FaultRep) : (raiseF s f).fresh = s.fresh := rfl
@[simp] theorem raiseF_outs (s : State) (f : FaultRep) : (raiseF s f).outs = s.outs := rfl
@[simp] theorem raiseF_tc (s : State) (f : FaultRep) : (raiseF s f).tc = s.tc := rfl
@[simp] theorem raiseF_obj (s : State) (f : FaultRep) : (raiseF s f).obj = s.obj := rfl
@[simp] theorem raiseF_mem (s : State) (f : FaultRep) : (raiseF s f).mem = s.mem := rfl
@[simp] theorem raiseF_pz (s : State) (f : FaultRep) : (raiseF s f).pz = s.pz := rfl
@[simp] theorem raiseF_cl (s : State) (f : FaultRep) : (raiseF s f).cl = s.cl := rfl
@[simp] theorem raiseF_clapVal (s : State) (f : FaultRep) : (raiseF s f).clapVal = s.clapVal := rfl
@[simp] theorem raiseF_clapPz (s : State) (f : FaultRep) : (raiseF s f).clapPz = s.clapPz := rfl
@[simp] theorem raiseF_waiters (s : State) (f : FaultRep) : (raiseF s f).waiters = s.waiters := rfl
@[simp] theorem raiseF_freed (s : State) (f : FaultRep) : (raiseF s f).freed = s.freed := rfl
@[simp] theorem raiseF_clapOps (s : State) (f : FaultRep) : (raiseF s f).clapOps = s.clapOps := rfl
@[simp] theorem raiseF_clapRes (s : State) (f : FaultRep) : (raiseF s f).clapRes = s.clapRes := rfl
@[simp] theorem raiseF_hf (s : State) (f : FaultRep) : (raiseF s f).hf = s.hf := rfl
@[simp] theorem raiseF_evlog (s : State) (f : FaultRep) : (raiseF s f).evlog = s.evlog := rfl
@[simp] theorem raiseF_unsync (s : State) (f : FaultRep) : (raiseF s f).unsync = s.unsync := rfl
@[simp] theorem raiseF_reqs (s : State) (f : FaultRep) : (raiseF s f).reqs = s.reqs := rfl
@[simp] theorem raiseF_tm (s : State) (f : FaultRep) : (raiseF s f).tm = s.tm := rfl
@[simp] theorem raiseF_fab (s : State) (f : FaultRep) : (raiseF s f).fab = s.fab := rfl
@[simp] theorem raiseF_coll (s : State) (f : FaultRep) : (raiseF s f).coll = s.coll := rfl
@[simp] theorem raiseF_reg (s : State) (f : FaultRep) : (raiseF s f).reg = s.reg := rfl
@[simp] theorem raiseF_dly (s : State) (f : FaultRep) : (raiseF s f).dly = s.dly := rfl
@[simp] theorem raiseF_dict (s : State) (f : FaultRep) : (raiseF s f).dict = s.dict := rfl
@[simp] theorem raiseF_dir (s : State) (f : FaultRep) : (raiseF s f).dir = s.dir := rfl
@[simp] theorem raiseF_flash (s : State) (f : FaultRep) : (raiseF s f).flash = s.flash := rfl
@[simp] theorem raiseF_boot (s : State) (f : FaultRep) : (raiseF s f).boot = s.boot := rfl
@[simp] theorem raiseF_pow (s : State) (f : FaultRep) : (raiseF s f).pow = s.pow := rfl
@[simp] theorem raiseF_sec (s : State) (f : FaultRep) : (raiseF s f).sec = s.sec := rfl
@[simp] theorem raiseF_fuses (s : State) (f : FaultRep) : (raiseF s f).fuses = s.fuses := rfl
@[simp] theorem raiseF_meshHits (s : State) (f : FaultRep) : (raiseF s f).meshHits = s.meshHits := rfl

/-! `msix` changes outs only. -/
@[simp] theorem msix_pending (s : State) (p : Fin 8) (v : Nat) : (msix s p v).pending = s.pending := rfl
@[simp] theorem msix_now (s : State) (p : Fin 8) (v : Nat) : (msix s p v).now = s.now := rfl
@[simp] theorem msix_fresh (s : State) (p : Fin 8) (v : Nat) : (msix s p v).fresh = s.fresh := rfl
@[simp] theorem msix_tc (s : State) (p : Fin 8) (v : Nat) : (msix s p v).tc = s.tc := rfl
@[simp] theorem msix_obj (s : State) (p : Fin 8) (v : Nat) : (msix s p v).obj = s.obj := rfl
@[simp] theorem msix_mem (s : State) (p : Fin 8) (v : Nat) : (msix s p v).mem = s.mem := rfl
@[simp] theorem msix_pz (s : State) (p : Fin 8) (v : Nat) : (msix s p v).pz = s.pz := rfl
@[simp] theorem msix_cl (s : State) (p : Fin 8) (v : Nat) : (msix s p v).cl = s.cl := rfl
@[simp] theorem msix_clapVal (s : State) (p : Fin 8) (v : Nat) : (msix s p v).clapVal = s.clapVal := rfl
@[simp] theorem msix_clapPz (s : State) (p : Fin 8) (v : Nat) : (msix s p v).clapPz = s.clapPz := rfl
@[simp] theorem msix_waiters (s : State) (p : Fin 8) (v : Nat) : (msix s p v).waiters = s.waiters := rfl
@[simp] theorem msix_freed (s : State) (p : Fin 8) (v : Nat) : (msix s p v).freed = s.freed := rfl
@[simp] theorem msix_clapOps (s : State) (p : Fin 8) (v : Nat) : (msix s p v).clapOps = s.clapOps := rfl
@[simp] theorem msix_clapRes (s : State) (p : Fin 8) (v : Nat) : (msix s p v).clapRes = s.clapRes := rfl
@[simp] theorem msix_hf (s : State) (p : Fin 8) (v : Nat) : (msix s p v).hf = s.hf := rfl
@[simp] theorem msix_faults (s : State) (p : Fin 8) (v : Nat) : (msix s p v).faults = s.faults := rfl
@[simp] theorem msix_evlog (s : State) (p : Fin 8) (v : Nat) : (msix s p v).evlog = s.evlog := rfl
@[simp] theorem msix_logs (s : State) (p : Fin 8) (v : Nat) : (msix s p v).logs = s.logs := rfl
@[simp] theorem msix_unsync (s : State) (p : Fin 8) (v : Nat) : (msix s p v).unsync = s.unsync := rfl
@[simp] theorem msix_reqs (s : State) (p : Fin 8) (v : Nat) : (msix s p v).reqs = s.reqs := rfl
@[simp] theorem msix_tm (s : State) (p : Fin 8) (v : Nat) : (msix s p v).tm = s.tm := rfl
@[simp] theorem msix_fab (s : State) (p : Fin 8) (v : Nat) : (msix s p v).fab = s.fab := rfl
@[simp] theorem msix_coll (s : State) (p : Fin 8) (v : Nat) : (msix s p v).coll = s.coll := rfl
@[simp] theorem msix_reg (s : State) (p : Fin 8) (v : Nat) : (msix s p v).reg = s.reg := rfl
@[simp] theorem msix_dly (s : State) (p : Fin 8) (v : Nat) : (msix s p v).dly = s.dly := rfl
@[simp] theorem msix_dict (s : State) (p : Fin 8) (v : Nat) : (msix s p v).dict = s.dict := rfl
@[simp] theorem msix_dir (s : State) (p : Fin 8) (v : Nat) : (msix s p v).dir = s.dir := rfl
@[simp] theorem msix_flash (s : State) (p : Fin 8) (v : Nat) : (msix s p v).flash = s.flash := rfl
@[simp] theorem msix_boot (s : State) (p : Fin 8) (v : Nat) : (msix s p v).boot = s.boot := rfl
@[simp] theorem msix_pow (s : State) (p : Fin 8) (v : Nat) : (msix s p v).pow = s.pow := rfl
@[simp] theorem msix_sec (s : State) (p : Fin 8) (v : Nat) : (msix s p v).sec = s.sec := rfl
@[simp] theorem msix_fuses (s : State) (p : Fin 8) (v : Nat) : (msix s p v).fuses = s.fuses := rfl
@[simp] theorem msix_meshHits (s : State) (p : Fin 8) (v : Nat) : (msix s p v).meshHits = s.meshHits := rfl

end Sys2Proof.Machine
end

