-- ==== Sys2Proof/Laws/Objects.lean ====
section
/-! SUPPORT. Laws/Objects.lean: reading an object after an update, and what logging an event, a continuity record or a fault changes. -/

namespace Sys2Proof.Machine

/-! One object. -/

@[simp] theorem oget_oset_same (s : State) (ix sub v : Nat) : oget (oset s ix sub v) ix sub = v := by
  simp [oget, oset]
/-- Another object is left alone. -/
theorem oget_oset_ne (s : State) (ix sub ix' sub' v : Nat) (h : okey ix' sub' ≠ okey ix sub) :
    oget (oset s ix sub v) ix' sub' = oget s ix' sub' := by
  unfold oget oset
  -- the default that a write compares with is the default of its own key only
  simp only [mset]
  split
  · simp only [mget]; rw [mfind_merase_ne _ _ _ h]
  · simp only [mget]; rw [mfind_mput_ne _ _ _ _ h]
@[simp] theorem oget_obump_same (s : State) (ix sub d : Nat) : oget (obump s ix sub d) ix sub = min (oget s ix sub + d) (objMax ix sub) := by
  simp [obump]
theorem oget_obump_ne (s : State) (ix sub ix' sub' d : Nat) (h : okey ix' sub' ≠ okey ix sub) :
    oget (obump s ix sub d) ix' sub' = oget s ix' sub' := oget_oset_ne _ _ _ _ _ _ h
/-- Objects are read from `obj` alone. -/
theorem oget_congr {s t : State} (h : t.obj = s.obj) (ix sub : Nat) : oget t ix sub = oget s ix sub := by
  simp only [oget, h]
@[simp] theorem oget_modC (s : State) (c f ix sub) : oget (modC s c f) ix sub = oget s ix sub := rfl
@[simp] theorem oget_modCore (s : State) (c f ix sub) : oget (modCore s c f) ix sub = oget s ix sub := rfl
@[simp] theorem oget_modF (s : State) (p f ix sub) : oget (modF s p f) ix sub = oget s ix sub := rfl
@[simp] theorem oget_raiseF (s : State) (f ix sub) : oget (raiseF s f) ix sub = oget s ix sub := rfl

/-! Clusters and host functions. -/

@[simp] theorem vset_same {A : Type} {n : Nat} (v : Vector A n) (i : Fin n) (a : A) : (vset v i a)[i] = a := by
  simp [vset]
theorem vset_ne {A : Type} {n : Nat} (v : Vector A n) (i j : Fin n) (a : A) (h : j ≠ i) : (vset v i a)[j] = v[j] := by
  have : i.val ≠ j.val := fun e => h (Fin.ext e.symm)
  simp [vset, this]
@[simp] theorem vmod_same {A : Type} {n : Nat} (v : Vector A n) (i : Fin n) (f : A → A) : (vmod v i f)[i] = f v[i] := vset_same _ _ _
theorem vmod_ne {A : Type} {n : Nat} (v : Vector A n) (i j : Fin n) (f : A → A) (h : j ≠ i) : (vmod v i f)[j] = v[j] := vset_ne _ _ _ _ h
@[simp] theorem modC_same (s : State) (c : Fin 8) (f : Cluster → Cluster) : (modC s c f).cl[c] = f s.cl[c] := vmod_same _ _ _
theorem modC_ne (s : State) (c d : Fin 8) (f : Cluster → Cluster) (h : d ≠ c) : (modC s c f).cl[d] = s.cl[d] := vmod_ne _ _ _ _ h
@[simp] theorem modCore_same (s : State) (c : Fin 8) (f : Core → Core) :
    (modCore s c f).cl[c] = { s.cl[c] with core := f s.cl[c].core } := modC_same _ _ _
theorem modCore_ne (s : State) (c d : Fin 8) (f : Core → Core) (h : d ≠ c) : (modCore s c f).cl[d] = s.cl[d] := modC_ne _ _ _ _ h
@[simp] theorem modF_same (s : State) (p : Fin 8) (f : HostFn → HostFn) : (modF s p f).hf[p] = f s.hf[p] := vmod_same _ _ _
theorem modF_ne (s : State) (p q : Fin 8) (f : HostFn → HostFn) (h : q ≠ p) : (modF s p f).hf[q] = s.hf[q] := vmod_ne _ _ _ _ h

/-! Events. `Logged s t`: t differs from s in what a log entry writes and nothing else: the log, its counters, the frames and messages
sent. -/

/-- t has come from s by log entries alone. -/
structure Logged (s t : State) : Prop where
  same : ∃ ob os ev lg, t = { s with obj := ob, outs := os, evlog := ev, logs := lg }
  objs : ∀ ix sub, ix ≠ 0x7020 → ix ≠ 0x7022 → ix ≠ 0x7030 → ix ≠ 0x7032 → ix ≠ 0x7033 → ix ≠ 0x1205 → sub < 256 → oget t ix sub = oget s ix sub

theorem Logged.refl (s : State) : Logged s s := ⟨⟨_, _, _, _, rfl⟩, fun _ _ _ _ _ _ _ _ _ => rfl⟩
theorem Logged.trans {s t u : State} (h : Logged s t) (k : Logged t u) : Logged s u := by
  obtain ⟨⟨o1, p1, e1, l1, rfl⟩, h2⟩ := h
  obtain ⟨⟨o2, p2, e2, l2, rfl⟩, k2⟩ := k
  exact ⟨⟨o2, p2, e2, l2, rfl⟩, fun ix sub a b c d e f g => (k2 ix sub a b c d e f g).trans (h2 ix sub a b c d e f g)⟩
theorem Logged.stamped (s : State) (u t : Nat) : Logged s (stamped s u t) := ⟨⟨_, _, _, _, rfl⟩, fun _ _ _ _ _ _ _ _ _ => rfl⟩
theorem Logged.bump (s : State) (ix sub d : Nat) (h : sub < 256)
    (hx : ix = 0x7020 ∨ ix = 0x7022 ∨ ix = 0x7030 ∨ ix = 0x7032 ∨ ix = 0x7033 ∨ ix = 0x1205) : Logged s (obump s ix sub d) := by
  refine ⟨⟨_, _, _, _, rfl⟩, fun ix' sub' a b c d e f g => oget_obump_ne _ _ _ _ _ _ ?_⟩
  unfold okey
  omega
theorem Logged.out (s : State) (os : List Out) (ev : List EvRec) (lg : Logs) : Logged s { s with outs := os, evlog := ev, logs := lg } :=
  ⟨⟨_, _, _, _, rfl⟩, fun _ _ _ _ _ _ _ _ _ => rfl⟩
theorem Logged.sendCan (s : State) (id : Nat) (data : List Byte) : Logged s (sendCan s id data) := by
  unfold Machine.sendCan
  split
  · exact (Logged.out s _ s.evlog s.logs).trans (Logged.bump _ _ _ _ (by omega) (by omega))
  · exact Logged.refl s
theorem Logged.eventFrame (s : State) (r : EvRec) : Logged s (eventFrame s r) := by
  unfold Machine.eventFrame
  extract_lets
  split
  · exact (Logged.out s s.outs s.evlog _).trans (Logged.sendCan _ _ _)
  · exact Logged.bump _ _ _ _ (by omega) (by omega)
theorem Logged.foldl {A : Type} (l : List A) (f : State → A → State) (h : ∀ s a, Logged s (f s a)) (s : State) : Logged s (l.foldl f s) := by
  induction l generalizing s with
  | nil => exact Logged.refl s
  | cons a t ih => exact (h s a).trans (ih _)
theorem Logged.eventMsix (s : State) (code : Nat) : Logged s (eventMsix s code) := by
  unfold Machine.eventMsix
  refine Logged.foldl _ _ (fun s p => ?_) s
  split
  · exact Logged.out s _ s.evlog s.logs
  · exact Logged.refl s
theorem Logged.ite {s t u : State} {p : Prop} [Decidable p] (h : Logged s t) (k : Logged s u) : Logged s (if p then t else u) := by
  split
  · exact h
  · exact k
theorem Logged.logEvAt (s : State) (t unit code fl pay : Nat) : Logged s (logEvAt s t unit code fl pay) := by
  unfold Machine.logEvAt
  extract_lets w lost r s1 s2 s3
  have h1 : Logged s s1 := Logged.bump _ _ _ _ (by omega) (by omega)
  have h2 : Logged s s2 := Logged.ite (h1.trans (Logged.bump _ _ _ _ (by omega) (by omega))) h1
  have h3 : Logged s s3 := h2.trans (Logged.out s2 s2.outs _ s2.logs)
  exact (h3.trans (Logged.eventFrame _ _)).trans (Logged.eventMsix _ _)
theorem Logged.logEv (s : State) (unit code fl pay : Nat) : Logged s (logEv s unit code fl pay) :=
  (Logged.stamped s _ _).trans (Logged.logEvAt _ _ _ _ _ _)
theorem Logged.storeCont (s : State) (b : List Byte) : Logged s (storeCont s b) := by
  unfold Machine.storeCont
  extract_lets minute used src s1 w lost src2 s2 s3 due src3
  have h1 : Logged s s1 := Logged.ite (Logged.out s s.outs s.evlog _) (Logged.bump _ _ _ _ (by omega) (by omega))
  have h2 : Logged s s2 := (h1.trans (Logged.out s1 s1.outs s1.evlog _)).trans (Logged.bump _ _ _ _ (by omega) (by omega))
  have h3 : Logged s s3 := h2.trans (Logged.bump _ _ _ _ (by omega) (by omega))
  exact Logged.ite (Logged.ite ((h3.trans (Logged.out s3 s3.outs s3.evlog _)).trans (Logged.logEv _ _ _ _ _)) h3) h2
theorem Logged.logCont (s : State) (t unit code fl pay sev cls cflags take instr : Nat) :
    Logged s (logCont s t unit code fl pay sev cls cflags take instr) :=
  (Logged.logEvAt _ _ _ _ _ _).trans (Logged.storeCont _ _)
theorem Logged.logHalt (s : State) (c : Fin 8) (k : Nat) : Logged s (logHalt s c k) := Logged.logEv _ _ _ _ _
theorem Logged.countIncident (s : State) (cls unit : Nat) : Logged s (countIncident s cls unit) := by
  simp only [Machine.countIncident]
  exact Logged.ite ((Logged.out s s.outs s.evlog _).trans (Logged.logEv _ _ _ _ _)) (Logged.out s s.outs s.evlog _)

/-! The record that an event leaves. -/

theorem sendCan_evlog (s : State) (id : Nat) (d : List Byte) : (sendCan s id d).evlog = s.evlog := by
  unfold sendCan; split <;> rfl
theorem eventFrame_evlog (s : State) (r : EvRec) : (eventFrame s r).evlog = s.evlog := by
  unfold eventFrame
  extract_lets
  split
  · exact sendCan_evlog _ _ _
  · rfl
theorem eventMsix_evlog (s : State) (code : Nat) : (eventMsix s code).evlog = s.evlog := by
  unfold eventMsix
  generalize fins 8 = l
  induction l generalizing s with
  | nil => rfl
  | cons a t ih =>
    rw [List.foldl_cons, ih]
    split <;> rfl
theorem last_drop {A : Type} (l : List A) (r : A) (n : Nat) (h : n ≤ l.length) : ((l ++ [r]).drop n).getLast? = some r := by
  rw [List.drop_append_of_le_length h, List.getLast?_append]
  rfl
/-- The record of an event is the last of the log. -/
theorem logEvAt_last (s : State) (t unit code fl pay : Nat) :
    ((logEvAt s t unit code fl pay).evlog.getLast?).map (fun r => (r.tc, r.code, r.src, r.pay)) = some (t, code, sourceOf s unit, pay) := by
  simp only [logEvAt]
  rw [eventMsix_evlog, eventFrame_evlog]
  dsimp only
  rw [last_drop _ _ _ (by omega)]
  rfl
theorem logEv_last (s : State) (unit code fl pay : Nat) :
    ((logEv s unit code fl pay).evlog.getLast?).map (fun r => (r.tc, r.code, r.src, r.pay)) = some (stampTc s unit, code, sourceOf s unit, pay) :=
  logEvAt_last _ _ _ _ _ _

end Sys2Proof.Machine
end

