-- ==== Sys2Proof/Laws/Cores.lean ====
section
/-! SUPPORT. Laws/Cores.lean: what an instruction of a control core does: the ready instruction, retiring, the issue trace. -/

namespace Sys2Proof.Machine

/-- A ready instruction is the one that is executed. -/
theorem withIns_ready {s : State} {c : Fin 8} {i : RIns} {len w : Nat} (h : Ready s c i len w) (f : RIns → Nat → Nat → Option State) :
    withIns s c f = (f i len w).getD s := by
  obtain ⟨h1, h2, h3⟩ := h
  simp only [withIns, h1, h2, h3, if_true]
/-- Two updates of one cluster are one. -/
theorem modC_modC (s : State) (c : Fin 8) (f g : Cluster → Cluster) : modC (modC s c f) c g = modC s c (fun k => g (f k)) := by
  unfold modC vmod vset
  simp
/-- Two updates of one core are one. -/
theorem modCore_modCore (s : State) (c : Fin 8) (f g : Core → Core) : modCore (modCore s c f) c g = modCore s c (fun k => g (f k)) := modC_modC _ _ _ _
/-- Outside a single step, an instruction that retires changes its core alone. -/
theorem retire_quiet (s : State) (c : Fin 8) (n : Word) (h : s.cl[c].core.step = false) :
    retire s c n = modCore s c (fun k => k.retired n) := by
  simp only [retire, h, Bool.false_eq_true, if_false]; rfl
/-- Writing a register leaves the single-step mark. -/
theorem xput_step (k : Core) (r : Nat) (v : Word) : (xput k r v).step = k.step := by
  unfold xput; split
  · split <;> rfl
  · rfl
/-- Outside a single step, an instruction that writes rd changes its core alone. -/
theorem retireRd_quiet (s : State) (c : Fin 8) (len rd : Nat) (v : Word) (h : s.cl[c].core.step = false) :
    retireRd s c len rd v = modCore s c (fun k => (xput k rd v).retired (s.cl[c].core.pc + BitVec.ofNat 64 len)) := by
  unfold retireRd
  rw [retire_quiet, modCore_modCore]
  rw [modCore_same]; simp only [xput_step, h]
/-- Outside a single step, retiring to the next instruction changes the core alone. -/
theorem retireNext_quiet (s : State) (c : Fin 8) (len : Nat) (h : s.cl[c].core.step = false) :
    retireNext s c len = modCore s c (fun k => k.retired (s.cl[c].core.pc + BitVec.ofNat 64 len)) := retire_quiet _ _ _ h

/-- Where no session is open or the trace has no room, the issue trace changes nothing. -/
theorem traceIssue_none (s : State) (c : Fin 8) (w : Nat) (h : oget s 0x8010 0 = 0 ∨ oget s 0x8041 0 = 0) : traceIssue s c w = s := by
  unfold traceIssue
  extract_lets size
  rw [if_neg]
  rintro ⟨h1, h2, _⟩
  exact h.elim h1 h2
/-- The issue trace changes memory, poison and its counter alone. -/
theorem traceIssue_shape (s : State) (c : Fin 8) (w : Nat) : ∃ m z o, traceIssue s c w = { s with mem := m, pz := z, obj := o } := by
  unfold traceIssue
  extract_lets size n
  split
  · unfold wrBytes wrMarked
    extract_lets
    split
    · exact ⟨_, _, _, rfl⟩
    · exact ⟨_, _, _, rfl⟩
  · exact ⟨_, _, _, rfl⟩
theorem traceIssue_cl (s : State) (c : Fin 8) (w : Nat) : (traceIssue s c w).cl = s.cl := by
  obtain ⟨_, _, _, h⟩ := traceIssue_shape s c w
  rw [h]

end Sys2Proof.Machine
end

