-- ==== Sys2Proof/Laws/Keeps.lean ====
section
/-! SUPPORT. Laws/Keeps.lean: what every effect of a command keeps: the queue of commands, the time, and the canonical form of memory, poison and
clapper storage. `Keeps s t`: t has come from s by effects alone. -/

namespace Sys2Proof.Machine

/-- t has the queue and the time of s, and its stores are in canonical form if those of s are. -/
structure Keeps (s t : State) : Prop where
  pending : t.pending = s.pending
  now : t.now = s.now
  mem : s.memWf = true → t.memWf = true
  clap : s.clapWf = true → t.clapWf = true

theorem Keeps.refl (s : State) : Keeps s s := ⟨rfl, rfl, id, id⟩
theorem Keeps.trans {s t u : State} (h : Keeps s t) (k : Keeps t u) : Keeps s u :=
  ⟨k.pending.trans h.pending, k.now.trans h.now, fun x => k.mem (h.mem x), fun x => k.clap (h.clap x)⟩
/-- A proof may forget how an intermediate state came about. -/
theorem Keeps.cut {s t : State} {p : Prop} (h : Keeps s t) (k : Keeps s t → p) : p := k h
/-- A record update that leaves the queue, the time and the stores alone. -/
theorem Keeps.same {s t u : State} (h : Keeps s t) (h1 : u.pending = t.pending) (h2 : u.now = t.now) (h3 : u.mem = t.mem) (h4 : u.pz = t.pz)
    (h5 : u.clapVal = t.clapVal) (h6 : u.clapPz = t.clapPz) : Keeps s u := by
  refine ⟨h1.trans h.pending, h2.trans h.now, fun x => ?_, fun x => ?_⟩
  · have := h.mem x
    simp only [State.memWf, h3, h4] at *
    exact this
  · have := h.clap x
    simp only [State.clapWf, h5, h6] at *
    exact this
/-- The same for a record update as Lean writes it out. -/
theorem Keeps.mk' {s t : State} (h : Keeps s t) {v2} {v3} {v4} {v5} {v8} {v11} {v12} {v13} {v14} {v15} {v16} {v17} {v18} {v19} {v20} {v21} {v22} {v23} {v24} {v25} {v26} {v27} {v28} {v29} {v30} {v31} {v32} {v33} {v34} : Keeps s ⟨t.pending, t.now, v2, v3, v4, v5, t.mem, t.pz, v8, t.clapVal, t.clapPz, v11, v12, v13, v14, v15, v16, v17, v18, v19, v20, v21, v22, v23, v24, v25, v26, v27, v28, v29, v30, v31, v32, v33, v34⟩ :=
  Keeps.same h rfl rfl rfl rfl rfl rfl
/-- A fold of effects is one. -/
theorem Keeps.foldl {A : Type} {s t : State} (l : List A) (f : State → A → State) (h : Keeps s t) (hf : ∀ u a, Keeps s u → Keeps s (f u a)) :
    Keeps s (l.foldl f t) := by
  induction l generalizing t with
  | nil => exact h
  | cons a l ih => exact ih (hf t a h)

end Sys2Proof.Machine
end

