-- ==== Sys2Proof/Machine/Pins.lean ====
section
/-! DEFINITION. Machine/Pins.lean: the places of the high-speed lanes on CN_N and CN_S (R588), the pins of CN_L (R591) and the lanes that a link may
join (R589). -/

namespace Sys2Proof.Machine

/-- A group of lanes on CN_N (false) or CN_S (true): its first pair and its number of lanes (R588). -/
structure LaneGroup where
  name : String
  south : Bool
  base : Nat
  lanes : Nat
deriving DecidableEq, Repr
/-- The groups of R588. -/
def laneGroups : List LaneGroup :=
  [⟨"F0", false, 0, 8⟩, ⟨"F1", false, 16, 8⟩, ⟨"F2", false, 32, 8⟩, ⟨"E0", false, 48, 4⟩, ⟨"PCIE", false, 56, 16⟩,
   ⟨"F3", true, 0, 8⟩, ⟨"F4", true, 16, 8⟩, ⟨"F5", true, 32, 8⟩, ⟨"E1", true, 48, 4⟩]
/-- The pair of a lane, driven by the module (rx 0) or received by it (rx 1) (R588). -/
def lanePair (base lane rx : Nat) : Nat := base + 2 * lane + rx
/-- The row of pair q and the columns of its P and N pins (R588). -/
def pairPins (q : Nat) : Nat × Nat × Nat := (q / 3 + 1, 3 * (q % 3) + 2, 3 * (q % 3) + 3)
/-- The row, and the columns of the P and N pins, of a lane of a group (R588). -/
def lanePins (group : String) (lane rx : Nat) : Option (Bool × Nat × Nat × Nat) :=
  match laneGroups.find? (fun g => g.name == group) with
  | some g => if lane < g.lanes ∧ rx < 2 then some (g.south, pairPins (lanePair g.base lane rx)) else none
  | none => none
/-- A position of CN_N or CN_S is ground (R588). -/
def groundPin (col : Nat) : Bool := col % 3 == 1
/-- The signal on a pin of CN_L (R591). -/
def lowPin (n : Nat) : String :=
  (["GND", "GND", "XIN0_P", "XIN0_N", "GND", "GND", "XIN1_P", "XIN1_N", "GND", "GND", "PERST_N", "WAKE_N", "MOD_RESET_N", "PRESENT_N", "SLOT0", "SLOT1",
    "SLOT2", "DIR_STRAP_N", "CAN_TERM_N", "GND", "CAN_H", "CAN_L", "GND", "GND", "TCK", "TMS", "TDI", "TDO", "TRST_N", "GND", "STAT_READY_N",
    "STAT_DRAINED_N", "STAT_FAULT_N", "STAT_THERM_N", "VIO_REF", "GND"][n - 1]?).getD "NC"

end Sys2Proof.Machine
end

