-- ==== Sys2Proof/WellFormed.lean ====
section
/-! DEFINITION. WellFormed.lean: the operands that the spec gives a command: numbers of units within their ranges, register values within
their widths, frames and records of their lengths. -/

namespace Sys2Proof

/-- A value of n bytes. -/
def fitsBytes (n v : Nat) : Bool := decide (v < 256 ^ n)
/-- A length that a CAN FD frame has (R491). -/
def canLength (n : Nat) : Bool := decide (n ≤ 8) || ([12, 16, 20, 24, 32, 48, 64] : List Nat).contains n
/-- A node number of the CAN FD bus (R489) with a frame for it. -/
def canFrame (n : Nat) (f : List Byte) : Bool := decide (n < 64) && canLength f.length
/-- A PSN of 24 bits (R421) of one of the 1,024 queue pairs (R419). -/
def qpPsn (q psn : Nat) : Bool := decide (q < 1024) && decide (psn < 2 ^ 24)

/-- The operands of a command lie within what the spec gives it. Positions in queues are bounded by the queue alone. -/
def Instr.wellFormed : Instr → Bool
  | .reelReserve _ r _ => decide (r < 32)
  | .reelCommit _ r => decide (r < 32)
  | .reelClaim _ r _ => decide (r < 32)
  | .reelRelease _ r => decide (r < 32)
  | .hbmAccess k src g _ _ _ => decide (k < 12) && (src.isNone || g / 0x10000000 == k)
  | .scratchpadAccess g _ _ _ => decide (0x400000000 ≤ g) && decide (g < 0x401000000)
  | .hbmScrubStep g _ => decide (g < 0xC0000000)
  | .spScrubStep g _ => decide (0x400000000 ≤ g) && decide (g < 0x401000000)
  | .meshFlitArrival link _ _ _ _ => decide (link < 12)
  | .hostClapSet _ n _ _ => decide (n < 16384)
  | .hostClapAdd _ n _ _ => decide (n < 16384)
  | .hostClapMax _ n _ _ => decide (n < 16384)
  | .hostAtomicFetchadd _ n _ _ f z => decide (n < 16384) && decide (f < 64) && decide (z = 4 ∨ z = 8)
  | .hostAtomicSwap _ n _ _ f z => decide (n < 16384) && decide (f < 64) && decide (z = 4 ∨ z = 8)
  | .hostAtomicCas _ n _ _ _ f z => decide (n < 16384) && decide (f < 64) && decide (z = 4 ∨ z = 8 ∨ z = 16)
  | .hostClapReservedWrite _ n => decide (n < 16384)
  | .tcReplicaCorrect i _ => decide (i < 24)
  | .timeBeaconReceive f => f.length == 64
  | .ptpSync rx tx _ => decide (rx.natAbs ≤ 4) && decide (tx.natAbs ≤ 4)
  | .trainStepComplete _ eq lanes inv => fitsBytes 64 eq && decide (inv < 256) && decide (lanes.length = 8) && (List.range 8).all lanes.contains
  | .trainStepTimeout _ lanes => decide (lanes < 256)
  | .ident _ wire => fitsBytes 4 wire
  | .fabRespTimeout unit tag => fitsBytes 1 unit && fitsBytes 2 tag
  | .fecRateCheck _ lane => decide (lane < 8)
  | .fabRouteWrite _ first data => decide (1 ≤ data.length) && decide (first + data.length ≤ 32768)
  | .grpLaunch g => decide (g < 256)
  | .collStarve g seq => decide (g < 256) && fitsBytes 4 seq
  | .collAckTimer g seq _ => decide (g < 256) && fitsBytes 4 seq
  | .entryDone g seq _ => decide (g < 256) && fitsBytes 4 seq
  | .collProgressTimeout g seq => decide (g < 256) && fitsBytes 4 seq
  | .collInstanceRelease g seq => decide (g < 256) && fitsBytes 4 seq
  | .dlyPost _ b data => decide (b < 32) && data.length == 64
  | .qpArm _ q => decide (q < 1024)
  | .qpErrorCmd _ q => decide (q < 1024)
  | .qpResetCmd _ q => decide (q < 1024)
  | .roceAck q psn => qpPsn q psn
  | .roceNakSequence q psn => qpPsn q psn
  | .roceRnrNak q psn timer => qpPsn q psn && decide (timer < 32)
  | .rnrTimerExpiry q => decide (q < 1024)
  | .roceNakFatal q psn kind => qpPsn q psn && decide (kind < 32)
  | .cnpReceive q => decide (q < 1024)
  | .qpAckTimeout q => decide (q < 1024)
  | .sealSend q => decide (q < 1024)
  | .drainCmd _ v => fitsBytes 1 v
  | .digestVerdict _ v => fitsBytes 4 v
  | .evlogAcked _ v => fitsBytes 8 v
  | .contAcked _ v => fitsBytes 8 v
  | .mailboxRead m => decide (m < 64)
  | .mailboxWrite m => decide (m < 64)
  | .dapRead n f => canFrame n f
  | .dapWrite n f => canFrame n f
  | .segRead n f => canFrame n f
  | .segWrite n f => canFrame n f
  | .segment n f => canFrame n f
  | .blockAck n f => canFrame n f
  | .segEnd n f => canFrame n f
  | .dapAbort n f => canFrame n f
  | .dapUnknownCommand n f => canFrame n f
  | .heartbeatReceive n f => canFrame n f
  | .eventFrameReceive n f => canFrame n f
  | .crewSilent n => decide (1 ≤ n) && decide (n ≤ 31)
  | .dapBusOff errs => fitsBytes 4 errs
  | .pcieMemRead _ bar _ n _ => (bar == 0 || bar == 2 || bar == 4) && decide (1 ≤ n) && decide (n ≤ 4096)
  | .pcieMemWrite _ bar _ l _ _ => (bar == 0 || bar == 2 || bar == 4) && decide (1 ≤ l.length) && decide (l.length ≤ 512)
  | .tqTail _ _ v => fitsBytes 4 v
  | .cqHead _ v => fitsBytes 4 v
  | .tqEnable _ _ v => fitsBytes 1 v
  | .takeEntryArrival _ _ entry bad => entry.length == 64 && decide (bad < 3)
  | .powerOnReset straps => decide (straps < 32)
  | .moduleReset cause => decide (cause < 5)
  | .bootStepEnd bad fail => decide (bad < 4) && (fail.getD 0) < 256
  | .quiesceTimeout islands => decide (islands < 2 ^ 24)
  | .powerLimiterSample p100 => fitsBytes 2 p100
  | .telemetrySample k i _ => decide (k < 8) && decide (i < 24)
  | .inputFault cause _ => decide (2 ≤ cause) && decide (cause ≤ 4)
  | .vinThreshold k straps => decide (k < 3) && decide (straps < 32)
  | .clkRefLost b => b == 2 || b == 3
  | .clkRefRestored b => b == 2 || b == 3
  | .clkSrcWrite _ _ v => fitsBytes 1 v
  | .secTokenDebug _ t => decide (t.length ≤ 65536)
  | .secTokenLifecycle _ t => decide (t.length ≤ 65536)
  | .secTokenRevoke _ t => decide (t.length ≤ 65536)
  | .lifecycleCmd _ v => fitsBytes 1 v
  | .imageLoad _ b => decide (b.length ≤ 65536)
  | .debugRequest _ v => fitsBytes 2 v
  | .debugEnd _ v => fitsBytes 1 v
  | .jtagIrUpdate code => fitsBytes 1 code
  | .dbgPortWrite off _ => fitsBytes 4 off
  | .dbgPortRead off => fitsBytes 4 off
  | .pcieLinkUp speed width => decide (1 ≤ speed) && decide (speed ≤ 6) && decide (width ≤ 16)
  | .dieUnreachable d => decide (d < 6)
  | _ => true

end Sys2Proof
end

