-- ==== Sys2Proof/Tests/Slice0.lean ====
section
/-! SUPPORT. Tests/Slice0.lean: well-formedness of operands, and for each statement small states that meet its hypotheses, most of them with what the
command then does. Every expected value is read from the spec's rule. -/

namespace Sys2Proof.Tests

open Sys2Proof Sys2Proof.Machine

set_option Elab.async false

/-- The outcome is a next state with the property. -/
def gives (o : Host.Outcome State Fault Refusal) (p : State → Bool) : Bool := match o with
  | .next t => p t
  | _ => false
/-- The state with some objects set. -/
def objs (s : State) (l : List (Nat × Nat × Nat)) : State := l.foldl (fun s x => oset s x.1 x.2.1 x.2.2) s
/-- The public key of the test part's four key slots. -/
def pubKey : Nat := 0x7ae9e1db1160794c70c1ef071be5191f6c66240f4608fbe8a44ecd36c3ed5db97500f2e4d84e3fb45850fd6f4303302bd8ac21444cd80d241538d8034b399a0dee3636eb5cb00b9499d061a571db0f14bb47ed79453948ed63f3a6ccbbf6e74f
/-- Its SHA-384. -/
def pubDigest : Nat := 0x4938b309efca0e50cab9f949ab849d045c5a676ac0163690ab822a7a4e19d90650792c29353c5bf4461f331495630270
/-- A module in READY and IDLE with its PCIe link up and FOSC, XIN0, XIN1 and the PLLs ready; the job key of partition 0 is 1, and regions 0 to 2 give it
the HBM, the scratchpad of cluster 0 and the clappers. SERIAL_NUMBER is 7 and SEC_CHALLENGE 9. -/
def ready : State :=
  objs { State.reset with fuses := { serial := 7, keys := Vector.replicate 4 (toBE 48 pubDigest) }, sec := { State.reset.sec with challengeVal := 9 } } [(0x9010, 0, 9), (0x2001, 0, 1), (0x2010, 0, 0x3FFFFF0F), (0x9001, 0, 6), (0x9002, 0, 16), (0x8030, 1, 1),
    (0x8100, 1, 0), (0x8100, 2, 0x3000000000), (0x8100, 3, 1), (0x8100, 4, 63),
    (0x8101, 1, 0x10000000000), (0x8101, 2, 0x10008000000), (0x8101, 3, 1), (0x8101, 4, 63),
    (0x8102, 1, clapBase), (0x8102, 2, clapBase + 0x100000), (0x8102, 3, 1), (0x8102, 4, 63)]
/-- The core of cluster 0 runs at pc 0 on a program of 32-bit words. -/
def running (s : State) (code : List Nat) : State :=
  modC s 0 fun k => { k with clm := clmPut 0 k.clm 0 (code.flatMap (toLE 4)), core := { k.core with status := .running } }
/-- The state with a register of core 0 set. -/
def withX (s : State) (r : Nat) (v : Word) : State := modCore s 0 fun k => xput k r v
/-- The state with bytes in the core-local memory of cluster 0. -/
def withClm (s : State) (a : Nat) (l : List Byte) : State := modC s 0 fun k => { k with clm := clmPut 0 k.clm a l }
/-- The state with f applied to cluster 0. -/
def with0 (s : State) (f : Cluster → Cluster) : State := modC s 0 f
/-- An op block whose listed fields (first bit, value) are set. -/
def block (l : List (Nat × Nat)) : OpBlock := BitVec.ofNat 512 (l.foldl (fun a x => a + x.2 * 2 ^ x.1) 0)
/-- A queued operation. -/
def entry (id : Nat) (kind : OpKind) (b : OpBlock) : QEntry :=
  { id := id, kind := kind, pc := 0x40, instr := 0xB, blk := b, mma := id, clap := ClapReq.empty, waitSince := none, slot := none, dslot := none, reelSince := none, checked := false }
/-- A dispatched operation. -/
def flight (e : QEntry) : Flight := { e := e, rd := [], wr := [], snap := RangeReg.reset, cold := false, outst := 0, phase := 0 }

/-- A numbered module 0 in a torus of 32 by 32 by 32. -/
def numbered (s : State) : State := objs s [(0x1010, 0, 0), (0x1011, 1, 32), (0x1011, 2, 32), (0x1011, 3, 32)]

/-! The control core. -/

/-- A core with x10 = 0x100 that finds a word at its pc. -/
def coreAt (w : Nat) : State := withX (running ready [w]) 10 0x100
/-- The word of an OB instruction with rs1 = x10 and BLK = blk (R328, R329). -/
def obWord (grp op7 blk : Nat) : Nat := op7 * 2 ^ 25 + blk * 2 ^ 20 + 10 * 2 ^ 15 + grp * 2 ^ 12 + 0x0B

/-- Every op-block command finds its word (R329), and issues it. -/
theorem witness_EngineOperationsIssue :
    ∀ x ∈ [(OpKind.tcfg, 0, 0), (.tld, 0, 1), (.tst, 0, 2), (.mma, 0, 3), (.vec, 1, 0), (.red, 1, 1), (.stream, 2, 0), (.gather, 2, 1), (.tsend, 2, 2), (.digest, 2, 3)],
      let s := coreAt (obWord x.2.1 x.2.2 0)
      (fetch s 0 = .ins (.ob x.1 10 0) 4 (obWord x.2.1 x.2.2 0) ∧ coreRuns s.cl[(0 : Fin 8)].core = true ∧
        regsReady s.cl[(0 : Fin 8)].core (.ob x.1 10 0) = true ∧ (issueCommand 0 x.1).isSome = true ∧
        (qGet s.cl[(0 : Fin 8)] (qOf x.1 0)).length < qCap (qOf x.1 0)) ∧
      ((issueCommand 0 x.1).map fun i => gives (exec i s) fun t =>
        (qGet t.cl[(0 : Fin 8)] (qOf x.1 0)).map (fun e => e.kind) == [x.1] && t.cl[(0 : Fin 8)].core.pc == 4) = some true := by
  decide +kernel
/-- The manual's example words (R334) read as it says. -/
theorem test_example_words :
    decode32 0x007342AB = some (.clap 4 5 6 7 0) ∧ decode32 0x02D6002B = some (.cwait false 12 13) ∧ decode32 0x0635000B = some (.ob .mma 10 3) ∧
    decode32 0x0400002B = some .tend := by decide +kernel
/-- An op block needs its queue; its address faults at 0x101, and at 0xFFC1 where the last of the 64 bytes lies outside. -/
theorem witness_IssueStallsAndFaults :
    let w := obWord 0 0 0
    let s := coreAt w
    (let f := with0 s fun k => { k with mq := List.replicate 64 (entry 0 .tcfg 0) }
     (fetch f 0 = .ins (.ob .tcfg 10 0) 4 w ∧ coreRuns f.cl[(0 : Fin 8)].core = true ∧ qCap (qOf .tcfg 0) ≤ (qGet f.cl[(0 : Fin 8)] (qOf .tcfg 0)).length) ∧
     gives (exec (.tcfg 0) f) (fun t => t.cl[(0 : Fin 8)].core.status == .stalled) = true) ∧
    gives (exec (.tcfg 0) (modCore s 0 fun k => { k with wstores := [⟨0, 0, [], false, none⟩] })) (fun t => t.cl[(0 : Fin 8)].core.status == .stalled) = true ∧
    gives (exec (.tcfg 0) (withX s 10 0x101)) (fun t => t.faults.map (fun f => (f.code, f.detail)) == [(5, 24)]) = true ∧
    gives (exec (.tcfg 0) (withX s 10 0xFFC0)) (fun t => t.faults.isEmpty) = true ∧
    gives (exec (.tcfg 0) (withX s 10 0x10000)) (fun t => t.faults.map (fun f => (f.code, f.detail)) == [(6, 25)]) = true := by decide +kernel
/-- Every CLAP finds its word and enters YQ (R332); FADD into x5 awaits x5. -/
theorem witness_ClapsIssue :
    ∀ op ∈ [0, 1, 2, 3, 4, 5, 6],
      let w := (if op = 6 then 8 * 2 ^ 27 else 0) + (if op = 0 then 0 else 7 * 2 ^ 20) + 6 * 2 ^ 15 + op * 2 ^ 12 + (if op = 0 ∨ 4 ≤ op then 5 * 2 ^ 7 else 0) + 0x2B
      let s := coreAt w
      (fetch s 0 = .ins (.clap op (if op = 0 ∨ 4 ≤ op then 5 else 0) 6 (if op = 0 then 0 else 7) (if op = 6 then 8 else 0)) 4 w ∧ s.cl[(0 : Fin 8)].yq.length < 32) ∧
      ((clapCommand 0 op).map fun i => gives (exec i s) fun t =>
        t.cl[(0 : Fin 8)].yq.map (fun e => e.clap.op) == [op] && t.cl[(0 : Fin 8)].core.awaits == (if op = 0 ∨ 4 ≤ op then [5] else [])) = some true := by decide +kernel
/-- CWAIT on clapper 0, TEND, FENCE, FENCE.I and a read of the cycle counter. -/
theorem witness_CwaitTendFenceAndCsr :
    (fetch (coreAt 0x0200002B) 0 = .ins (.cwait false 0 0) 4 0x0200002B ∧ protOk (coreAt 0x0200002B) 0 (clapAddr 0) 64 false = true) ∧
    gives (exec (.cwait 0) (coreAt 0x0200002B)) (fun t => t.cl[(0 : Fin 8)].core.status == .cwait 0 false 0 0) = true ∧
    fetch (coreAt 0x0400002B) 0 = .ins .tend 4 0x0400002B ∧
    gives (exec (.tend 0) (coreAt 0x0400002B)) (fun t => t.cl[(0 : Fin 8)].core.status == .ended && cget t 0 0x4002 0 == 3) = true ∧
    fetch (coreAt 0x0FF0000F) 0 = .ins .fence 4 0x0FF0000F ∧ gives (exec (.fence 0) (coreAt 0x0FF0000F)) (fun t => t.cl[(0 : Fin 8)].core.pc == 4) = true ∧
    fetch (coreAt 0x0000100F) 0 = .ins .fenceI 4 0x0000100F ∧ gives (exec (.fenceI 0) (coreAt 0x0000100F)) (fun t => t.cl[(0 : Fin 8)].core.pc == 4) = true ∧
    fetch (coreAt 0xC00022F3) 0 = .ins (.csr 5 0xC00) 4 0xC00022F3 ∧
    gives (exec (.csrRead 0) (coreAt 0xC02022F3)) (fun t => t.cl[(0 : Fin 8)].core.pc == 4 && xget t 0 5 == 0) = true := by decide +kernel
/-- A level 2 session that traces into a ring of 64 bytes at 0x1000: the fifth entry wraps to the first place (R576). -/
def traced : State := objs (coreAt 0x13) [(0x8010, 0, 2), (0x8013, 0, 0), (0x8040, 0, 0x1000), (0x8041, 0, 64), (0x8042, 0, 4)]
theorem witness_IssueTraceEntry :
    oget traced 0x8010 0 ≠ 0 ∧ oget traced 0x8041 0 ≠ 0 ∧ oget traced 0x2001 0 ≤ 1 ∧
    rdBytes (traceIssue traced 0 0x13) 0x1000 16 = [0, 0, 0, 0, 0x13, 0, 0, 0, 0, 0, 0, 0, 0, 0, 0, 0] ∧ oget (traceIssue traced 0 0x13) 0x8042 0 = 5 ∧
    oget ready 0x8010 0 = 0 := by decide +kernel
/-- ECALL, EBREAK outside and inside a session, a misaligned pc (0), one past the end (1) and a reserved word (2). -/
theorem witness_EcallEbreakAndFetchFaults :
    let bad (pc : Word) := modCore (coreAt 0) 0 fun k => { k with pc := pc }
    (fetch (coreAt 0x73) 0 = .ins .ecall 4 0x73 ∧ gives (exec (.ecall 0) (coreAt 0x73)) (fun t => t.faults.map (fun f => (f.code, f.detail)) == [(14, 8)]) = true) ∧
    (fetch (coreAt 0x00100073) 0 = .ins .ebreak 4 0x00100073 ∧ debugOn (coreAt 0x00100073) 0 = false ∧
      gives (exec (.ebreak 0) (coreAt 0x00100073)) (fun t => t.faults.map (fun f => (f.code, f.detail)) == [(14, 3)]) = true) ∧
    (let s := objs (coreAt 0x00100073) [(0x8010, 0, 2), (0x8013, 0, 0)]
     debugOn s 0 = true ∧ gives (exec (.ebreak 0) s) (fun t => t.cl[(0 : Fin 8)].core.halted && t.faults.isEmpty) = true) ∧
    fetch (bad 1) 0 = .bad 0 0 ∧ fetch (bad 0x10000) 0 = .bad 1 0 ∧ fetch (bad 0) 0 = .bad 2 0 ∧ coreRuns (bad 1).cl[(0 : Fin 8)].core = true ∧
    gives (exec (.baseInstruction 0) (bad 0x10000)) (fun t => t.faults.map (fun f => (f.code, f.detail)) == [(6, 1)]) = true := by decide +kernel
/-- LUI x5; AUIPC x5; JAL x5, 8; JALR x5, x10; BEQ x0, x0, 8; ADDI x5, x10, 1; ADD x5, x10, x10. -/
theorem witness_BaseInstructionResults :
    let run (w : Nat) (p : State → Bool) : Bool := gives (exec (.baseInstruction 0) (coreAt w)) p
    fetch (coreAt 0x000012B7) 0 = .ins (.lui 5 0x1000) 4 0x000012B7 ∧ run 0x000012B7 (fun t => xget t 0 5 == 0x1000) = true ∧
    fetch (coreAt 0x00001297) 0 = .ins (.auipc 5 0x1000) 4 0x00001297 ∧ run 0x00001297 (fun t => xget t 0 5 == 0x1000) = true ∧
    fetch (coreAt 0x008002EF) 0 = .ins (.jal 5 8) 4 0x008002EF ∧ run 0x008002EF (fun t => xget t 0 5 == 4 && t.cl[(0 : Fin 8)].core.pc == 8) = true ∧
    fetch (coreAt 0x000502E7) 0 = .ins (.jalr 5 10 0) 4 0x000502E7 ∧ run 0x000502E7 (fun t => xget t 0 5 == 4 && t.cl[(0 : Fin 8)].core.pc == 0x100) = true ∧
    fetch (coreAt 0x00000463) 0 = .ins (.br 0 0 0 8) 4 0x00000463 ∧ run 0x00000463 (fun t => t.cl[(0 : Fin 8)].core.pc == 8) = true ∧
    fetch (coreAt 0x00150293) 0 = .ins (.opi false .add 5 10 1) 4 0x00150293 ∧ run 0x00150293 (fun t => xget t 0 5 == 0x101) = true ∧
    fetch (coreAt 0x00A502B3) 0 = .ins (.op false .add 5 10 10) 4 0x00A502B3 ∧ run 0x00A502B3 (fun t => xget t 0 5 == 0x200) = true := by decide +kernel
/-- LW, SW, LR.W, SC.W and AMOADD.W at x10 = 0x100, and a load outside. -/
theorem witness_CoreLocalMemoryAccesses :
    let s (w : Nat) := withX (withClm (coreAt w) 0x100 [0xFE, 0xFF, 0xFF, 0xFF]) 6 3
    let run (w : Nat) (p : State → Bool) : Bool := gives (exec (.clmAccess 0) (s w)) p
    fetch (s 0x00052283) 0 = .ins (.load 2 5 10 0) 4 0x00052283 ∧ inClm 0x100 4 = true ∧ run 0x00052283 (fun t => xget t 0 5 == 0xFFFFFFFFFFFFFFFE) = true ∧
    fetch (s 0x00652023) 0 = .ins (.store 2 10 6 0) 4 0x00652023 ∧ run 0x00652023 (fun t => clmRd t.cl[(0 : Fin 8)] 0x100 5 == [3, 0, 0, 0, 0]) = true ∧
    fetch (s 0x100522AF) 0 = .ins (.lr false 5 10) 4 0x100522AF ∧ run 0x100522AF (fun t => t.cl[(0 : Fin 8)].core.resv == some (0x100, 4)) = true ∧
    fetch (s 0x186522AF) 0 = .ins (.sc false 5 10 6) 4 0x186522AF ∧ run 0x186522AF (fun t => xget t 0 5 == 1 && clmRd t.cl[(0 : Fin 8)] 0x100 1 == [0xFE]) = true ∧
    gives (exec (.clmAccess 0) (modCore (s 0x186522AF) 0 fun k => { k with resv := some (0x100, 4) }))
      (fun t => xget t 0 5 == 0 && clmRd t.cl[(0 : Fin 8)] 0x100 2 == [3, 0]) = true ∧
    fetch (s 0x006522AF) 0 = .ins (.amo 0 false 5 10 6) 4 0x006522AF ∧
    run 0x006522AF (fun t => xget t 0 5 == 0xFFFFFFFFFFFFFFFE && clmRd t.cl[(0 : Fin 8)] 0x100 4 == [1, 0, 0, 0]) = true ∧
    gives (exec (.clmAccess 0) (withX (s 0x00052283) 10 0xFFFD)) (fun t => t.faults.map (fun f => (f.code, f.addr, f.detail)) == [(6, 0xFFFD, 5)]) = true := by decide +kernel
/-- A window access of 4 bytes: at local address 0x2000, at one not aligned, and of module 5. -/
def windowAt (w : Nat) (a : Word) : State := withX (withX (coreAt w) 10 (0x8000000000000000 + a)) 6 0x11223344
theorem witness_WindowAccessesStart :
    let ld (a : Word) := windowAt 0x00052283 a
    let st (a : Word) := windowAt 0x00652023 a
    2 ^ 63 ≤ (xget (ld 0x2000) 0 10 + 0).toNat ∧ isLocal (ld 0x2000) 0x2000 = true ∧ protOk (ld 0x2000) 0 0x2000 4 false = true ∧
    gives (exec (.windowLoad 0) (ld 0x2000)) (fun t => t.cl[(0 : Fin 8)].core.status == .winLoad 5 4 true 0x2000 false none) = true ∧
    gives (exec (.windowLoad 0) (ld 0x2002)) (fun t => t.faults.map (fun f => (f.code, f.detail)) == [(5, 4)]) = true ∧
    isLocal (numbered (ld 0x5000000002000)) 0x5000000002000 = false ∧
    gives (exec (.windowLoad 0) (numbered (ld 0x5000000002000))) (fun t => t.reqs.map (fun q => (q.pkt.type, q.pkt.dest, q.pkt.addr)) == [(2, 5, 0x2000)]) = true ∧
    protOk (st 0x2000) 0 0x2000 4 true = true ∧
    gives (exec (.windowStore 0) (st 0x2000)) (fun t => t.cl[(0 : Fin 8)].core.wstores.map (fun x => (x.addr, x.data)) == [(0x2000, [0x44, 0x33, 0x22, 0x11])]) = true ∧
    gives (exec (.windowStore 0) (st 0x2002)) (fun t => t.faults.map (fun f => (f.code, f.detail)) == [(5, 6)]) = true ∧
    gives (exec (.windowStore 0) (numbered (st 0x5000000002000))) (fun t => t.reqs.map (fun q => (q.pkt.type, q.pkt.dest, q.pkt.data)) == [(1, 5, [0x44, 0x33, 0x22, 0x11])]) = true := by decide +kernel
/-- A waiting window load of 4 bytes of unpoisoned and of poisoned memory, and a store to be acknowledged. -/
theorem witness_WindowResponses :
    let s := modCore (wrBytes (coreAt 0x00052283) 0x2000 [1, 0, 0, 0x80]) 0 fun k => { k with status := .winLoad 5 4 true 0x2000 false none }
    let b := { s with pz := [(0x80, true)] }
    let a := modCore s 0 fun k => { k with status := .running, wstores := [⟨0, 0x2002, [7, 8], false, none⟩] }
    let m := { s with meshHits := [(0, false, 0x80)] }
    let k := modCore { s with clapVal := [(0, 9)] } 0 fun k => { k with status := .winLoad 5 8 false clapBase false none }
    anyMesh s 0 0x2000 4 = false ∧ gives (exec (.windowLoadResponse 0 .none) s) (fun t => xget t 0 5 == 0xFFFFFFFF80000001 && t.cl[(0 : Fin 8)].core.pc == 4) = true ∧
    region clapBase = .clap 0 ∧ clapBad k 0 = false ∧ gives (exec (.windowLoadResponse 0 .none) k) (fun t => xget t 0 5 == 9) = true ∧
    clapBad { k with clapPz := [(0, true)] } 0 = true ∧ gives (exec (.windowLoadResponse 0 .none) { k with clapPz := [(0, true)] }) (fun t => t.faults.map (fun f => f.code) == [7]) = true ∧
    anyMesh m 0 0x2000 4 = true ∧ gives (exec (.windowLoadResponse 0 .none) m) (fun t => t.faults.map (fun f => f.code) == [7] && t.meshHits.isEmpty) = true ∧
    anyMesh b 0 0x2000 4 = true ∧ gives (exec (.windowLoadResponse 0 .none) b) (fun t => t.faults.map (fun f => (f.code, f.addr)) == [(7, 0x8000000000002000)]) = true ∧
    gives (exec (.windowStoreAck 0 0) a) (fun t => rdBytes t 0x2000 4 == [1, 0, 7, 8] && t.cl[(0 : Fin 8)].core.wstores.isEmpty) = true := by decide +kernel
/-- A stalled TCFG resumes; the value of a CLAP reaches x31. -/
theorem witness_ResumedIssueAndClapResult :
    let s := modCore (coreAt (obWord 0 0 0)) 0 fun k => { k with status := .stalled }
    fetch s 0 = .ins (.ob .tcfg 10 0) 4 (obWord 0 0 0) ∧ gives (exec (.issueResume 0) s) (fun t => t.cl[(0 : Fin 8)].mq.length == 1) = true ∧
    (let r := modCore { s with clapRes := [(0, 31, 9, 0)] } 0 fun k => { k with awaits := [31] }
     gives (exec (.clapResultArrival 0 0) r) (fun t => xget t 0 31 == 9 && t.cl[(0 : Fin 8)].core.awaits.isEmpty && t.clapRes.isEmpty) = true) := by decide +kernel
/-- x0 and x31 of a core. -/
theorem witness_RegisterZeroDiscardsWrites : xget (withX ready 31 5) 0 31 = 5 ∧ xget (withX ready 0 5) 0 0 = 0 := by decide +kernel

/-! The engines of a cluster. -/

/-- A CLAP.FADD of 5 on clapper 3 of this module, for x7. -/
def clapEntry : QEntry := { entry 1 .clap 0 with clap := { op := 4, target := BitVec.ofNat 64 (clapBase + 64 * 3), val := 5, cmp := 0, rd := 7 } }
/-- Registers T0 and T1 of BF16, plane 8 of FP32, each 16 by 16, in an unnumbered module that is ready. -/
def reg16 (fmt : Nat) (el : List (Nat × Nat)) : TReg := { TReg.reset with fmt := fmt, rows := 16, cols := 16, el := el }
def tiles : State := with0 ready fun k => { k with reg := vset (vset (vset k.reg 0 (reg16 2 [])) 1 (reg16 2 [])) 8 (reg16 1 []) }
/-- A tile transfer of register 0: one row of 2 BF16 elements at 0x2000, in a window of 64 bytes, with a signal of 3 on clapper 5. -/
def tileBlock : OpBlock := block [(128, 0x2000), (192, 1), (352, 2), (416, 1), (432, 2), (94, 1), (80, 5), (96, 3)]
/-- A gate on clapper 9. -/
def gated (b : OpBlock) : OpBlock := b ||| block [(79, 1), (64, 9)]
def put (s : State) (q : QSel) (l : List QEntry) : State := with0 s fun k => qPut k q l

theorem witness_DispatchFromQueues :
    (let s := put ready .yq [clapEntry]
     (clapCheck s 0 clapEntry.clap = none ∧ isLocal s clapEntry.clap.target.toNat = true ∧ paired s = false) ∧
     gives (exec (.opDispatch 0 .yq false) s) (fun t => clapsOut t == [(4, 3, 5)] && t.cl[(0 : Fin 8)].yq.isEmpty) = true) ∧
    (let e := entry 1 .tld tileBlock
     let s := put tiles .mq [e]
     (hGateEn e.blk = false ∧ gateCheck s 0 e = none ∧ held s.cl[(0 : Fin 8)] e = false ∧ tileFault s 0 e true = none ∧ (tileF e.blk).isReel = false) ∧
     gives (exec (.opDispatch 0 .mq false) s) (fun t => t.cl[(0 : Fin 8)].mq.isEmpty && t.cl[(0 : Fin 8)].flights.map (fun f => f.wr) == [[0]]) = true) ∧
    (let e := entry 1 .tld (gated tileBlock)
     let s := put tiles .mq [e]
     (gateCheck s 0 e = none ∧ hGateEn e.blk = true ∧ s.freed.contains (.gate 0 1) = false) ∧
     gives (exec (.opDispatch 0 .mq false) s) (fun t => t.cl[(0 : Fin 8)].mq.map (fun e => e.waitSince) == [some 0]) = true) := by decide +kernel
/-- A gate and a CWAIT that have waited exactly GATE_TIMEOUT (10 µs), and 1 ns less. -/
theorem witness_GateTimeouts :
    let e := { entry 1 .tld (gated tileBlock) with waitSince := some 0 }
    let s (now : Nat) : State := { put (objs tiles [(0x4005, 0, 10)]) .mq [e] with now := now }
    let w : State := modCore (s 10000) 0 fun k => { k with status := .cwait 9 false 1 0 }
    (cget (s 0) 0 0x4005 0 ≠ 0 ∧ elapsedUs (s 10000) 0 10 = true ∧ elapsedUs (s 9999) 0 10 = false ∧ hGateEn e.blk = true) ∧
    gives (exec (.gateTimeoutExpiry 0 (some .mq)) (s 10000)) (fun t => t.faults.map (fun f => (f.code, f.detail)) == [(12, 0xF0)] && t.cl[(0 : Fin 8)].mq.isEmpty) = true ∧
    gives (exec (.gateTimeoutExpiry 0 (some .mq)) (s 9999)) (fun t => t.faults.isEmpty) = true ∧
    gives (exec (.gateTimeoutExpiry 0 none) w) (fun t => t.faults.map (fun f => (f.code, f.detail)) == [(12, 28)]) = true ∧
    cget (objs (s 0) [(0x4005, 0, 0)]) 0 0x4005 0 = 0 := by decide +kernel
/-- One row of 2 elements is loaded from memory, and stored. -/
theorem witness_TileTransfersComplete :
    let fl := flight (entry 1 .tld tileBlock)
    let s := with0 (wrBytes tiles 0x2000 [1, 2, 3, 4]) fun k => { k with flights := [fl] }
    let st := flight (entry 1 .tst tileBlock)
    let u := with0 tiles fun k => { k with flights := [st], reg := vset k.reg 0 (reg16 2 [(0, 0x0201), (1, 0x0403)]) }
    (onPath s.cl[(0 : Fin 8)] 1 = true ∧ nthFlight s.cl[(0 : Fin 8)] .tld 0 = some fl ∧ (tileF fl.e.blk).split = 0 ∧ tilePoison s 0 fl true = none ∧
      (tileCvt fl.e.blk true (tileRegFmt s 0 (tileF fl.e.blk))).plain = true) ∧
    gives (exec (.tldComplete 0 0 none) s) (fun t => (treg t 0 0).at 0 0 == 0x0201 && (treg t 0 0).at 0 1 == 0x0403 && clapsOut t == [(2, 5, 3)] && t.cl[(0 : Fin 8)].flights.isEmpty) = true ∧
    (onPath u.cl[(0 : Fin 8)] 1 = true ∧ nthFlight u.cl[(0 : Fin 8)] .tst 0 = some st ∧ tilePoison u 0 st false = none ∧
      (tileCvt st.e.blk false (treg u 0 0).fmt).plain = true) ∧
    gives (exec (.tstWriteAck 0 0 none) u) (fun t => rdBytes t 0x2000 4 == [1, 2, 3, 4] && clapsOut t == [(2, 5, 3)] && t.cl[(0 : Fin 8)].flights.isEmpty) = true := by decide +kernel
/-- A VEC of one row by four columns: SRC0 the constant 2.0, destination FP32 at the start of the scratchpad; and an empty one. -/
def vecBlock (rows : Nat) : OpBlock := block [(112, 1), (122, rows), (138, 4), (154, 0x40000000), (191, 1), (195, 2), (279, 1), (283, 1)]
theorem witness_VectorOperationsComplete :
    let s (rows : Nat) := with0 tiles fun k => { k with flights := [flight (entry 1 .vec (vecBlock rows))] }
    (paired (s 1) = false ∧ vSrcReelEn (vecBlock 1) = false ∧ vDstReelEn (vecBlock 1) = false ∧ vEmpty (vecBlock 1) = false ∧
      vecPoison (s 1) 0 (entry 1 .vec (vecBlock 1)) = none) ∧
    gives (exec (.vqOpComplete 0 0) (s 1)) (fun t => t.cl[(0 : Fin 8)].flights.isEmpty && cget t 0 0x4041 1 == 1) = true ∧
    vEmpty (vecBlock 0) = true ∧ gives (exec (.vqOpComplete 0 0) (s 0)) (fun t => t.cl[(0 : Fin 8)].flights.isEmpty && t.mem == (s 0).mem) = true := by decide +kernel
/-- An MMA of 1 by 1 by 1 with two elements: A in T0, B in T1 (1.0 each), plane 8; a grade program is named. -/
def mmaBlock : OpBlock := block [(112, 2), (116, 2), (123, 1), (129, 1), (139, 1), (149, 1), (163, 2), (182, 1), (301, 0), (319, 1), (460, 1)]
def unit (stage : Nat) : MmaUnit :=
  { u := 0, res := [(0, [[0x3F800000]])], flags := 0, stage := stage, bad := false, drained := [], outst := 0, paired := false, slots := [], sigs := [], posts := [] }
def array (next : Nat) (us : List MmaUnit) : State :=
  with0 (objs tiles [(0x7001, 0, 1)]) fun k =>
    { k with flights := [flight (entry 1 .mma mmaBlock)], mma := [⟨1, next, us⟩], reg := vset (vset k.reg 0 (reg16 2 [(0, 0x3F80)])) 1 (reg16 2 [(0, 0x3F80)]) }
theorem witness_MatrixPipeline :
    (let s := array 0 []
     ((0 < mmaUnits mmaBlock) ∧ unitHeld mmaBlock ⟨1, 0, []⟩ 0 = false ∧ (∀ i ∈ unitElems mmaBlock 0, elemPoison s 0 mmaBlock i = none) ∧ (mmaF mmaBlock).chain = false) ∧
     gives (exec (.mmaElementStart 0 none) s) (fun t => (t.cl[(0 : Fin 8)].mma.flatMap (fun x => x.units)).map (fun x => (x.u, x.res)) == [(0, [(0, [[0x3F800000]])])]) = true) ∧
    (checkMode (array 1 [unit 1]) ≠ 0 ∧
     gives (exec (.mmaElementComplete 0 [.pass]) (array 1 [unit 1])) (fun t => (treg t 0 8).at 0 0 == 0x3F800000 && cget t 0 0x4031 2 == 1) = true) ∧
    ((oget (array 1 [unit 2]) 0x7010 1 = 0 ∨ incidentCount (array 1 [unit 2]) 1 1 + 1 < oget (array 1 [unit 2]) 0x7010 1) ∧
     gives (exec (.residueVerdict 0 [.residue]) (array 1 [unit 2])) (fun t => t.faults.map (fun f => f.code) == [8]) = true) ∧
    (hasGrade mmaBlock = true ∧ gives (exec (.drainRead 0 none none) (array 1 [unit 3])) (fun t => t.cl[(0 : Fin 8)].drainBuf[(0 : Fin 2)] == some (1, 0)) = true) := by decide +kernel
/-- A prep program that copies IN back to its register: one micro-op COPY at scratchpad byte 256, its binding at byte 128. -/
def prepState : State := wrBytes (wrBytes tiles 0x10000000080 (toLE 128 (1 * 2 ^ 56 + 4 * 2 ^ 64))) 0x10000000100 (toLE 8 (0x60 * 2 ^ 32 + 2 ^ 44 + 2 ^ 56 + 2 ^ 63))
def prepBlock : OpBlock := block [(112, 2), (116, 2), (123, 1), (129, 1), (139, 1), (149, 1), (163, 1), (182, 1), (420, 1)]
theorem witness_PrepAndGradePrograms :
    (let e := { entry 2 .prepA prepBlock with mma := 2 }
     let s := with0 prepState fun k => { k with vq := [e], mq := [entry 2 .mma prepBlock] }
     (s.cl[(0 : Fin 8)].vq = [e] ∧ prepHeld s.cl[(0 : Fin 8)] e = false ∧ e.kind ∈ progRoles e.blk ∧ mmaCheck s 0 e.blk = none ∧ mmaEmpty e.blk = false) ∧
     gives (exec (.prepSlotStart 0) s) (fun t => t.cl[(0 : Fin 8)].vq.map (fun x => x.checked) == [true] && t.cl[(0 : Fin 8)].progs.length == 1) = true) ∧
    (let e := { entry 2 .prepA prepBlock with mma := 2, checked := true }
     let pg : Prog := ⟨2, .prepA, BitVec.ofNat 1024 (2 ^ 56 + 4 * 2 ^ 64), [BitVec.ofNat 64 (0x60 * 2 ^ 32 + 2 ^ 44 + 2 ^ 56 + 2 ^ 63)]⟩
     let s := with0 prepState fun k => { k with vq := [e], progs := [pg] }
     ((prepElem s 0 e pg 0).2.isNone = true ∧ prepElems e.blk e.kind = [0]) ∧ gives (exec (.prepSlotComplete 0 none) s) (fun t => t.cl[(0 : Fin 8)].vq.isEmpty && t.faults.isEmpty) = true) ∧
    (let g := { entry 1 .grade mmaBlock with mma := 1 }
     let s := with0 (array 1 [{ unit 4 with drained := [(0, [[(0x3F800000, false)]])] }]) fun k =>
       { k with vq := [g], progs := [⟨1, .grade, 0, []⟩], drainBuf := vset k.drainBuf 0 (some (1, 0)) }
     ((gradeHead s 0).isSome = true ∧ ((gradeHead s 0).map fun x => slotsMissing x.2.2.2 x.2.2.1) = some [] ∧ s.cl[(0 : Fin 8)].sendStall = []) ∧
     gives (exec (.gradeElementEnd 0) s) (fun t => t.cl[(0 : Fin 8)].drainBuf[(0 : Fin 2)] == none && t.cl[(0 : Fin 8)].vq.length == 1) = true) ∧
    (let p : Packet := { ofHeader 0 with type := 1, dest := 5, addr := 0x40, data := [1] }
     let s := with0 (numbered (array 1 [unit 5])) fun k => { k with sendBuf := [(1, 0, 0, p)] }
     ((flightOf s 0 1).isSome = true ∧ paired s = false) ∧
     gives (exec (.sendBufferDrain 0) s) (fun t => t.reqs.map (fun q => (q.pkt.type, q.pkt.dest, q.pkt.addr)) == [(1, 5, 0x40)] && t.cl[(0 : Fin 8)].sendBuf.isEmpty) = true) := by decide +kernel
/-- Two copies of a graded unit in PAIRED mode, with equal and with different accumulators. -/
def pairState (v : Nat) : State :=
  let k (s : State) (c : Fin 8) (v : Nat) := modC s c fun k =>
    { k with flights := [flight (entry 1 .mma mmaBlock)], mma := [⟨1, 1, [unit 3]⟩], reg := vset k.reg 8 (reg16 1 [(0, v)]) }
  k (k (objs ready [(0x7001, 0, 2)]) 0 0x3F800000) 1 v
theorem witness_PairDigestsCompared :
    (paired (pairState 0x3F800000) = true ∧ (awaitsPair (pairState 0x3F800000).cl[(0 : Fin 8)]).isSome = true ∧ bit (oget (pairState 0) 0x7008 0) 0 = false ∧
      hasGrade mmaBlock = true ∧ tileDigest (pairState 0x3F800000) 0 mmaBlock 0 = tileDigest (pairState 0x3F800000) 1 mmaBlock 0) ∧
    gives (exec (.pairComparison 0) (pairState 0x3F800000)) (fun t => (t.cl[(1 : Fin 8)].mma.flatMap (fun x => x.units)).map (fun x => x.paired) == [true] && t.faults.isEmpty) = true ∧
    (tileDigest (pairState 1) 0 mmaBlock 0 ≠ tileDigest (pairState 1) 1 mmaBlock 0 ∧ oget (pairState 1) 0x7010 4 = 2 ∧ incidentCount (pairState 1) 4 1 = 0) := by decide +kernel
/-- Reel 31 of cluster 0 with two slots of 64 bytes at scratchpad byte 0x1000. -/
def reelState (head tail occ ready' : Nat) (l : Reel) : State :=
  modReel (objs tiles [(0x311F, 1, 0x1000), (0x311F, 2, 64), (0x311F, 3, 2), (0x311F, 4, 1), (0x311F, 5, head), (0x311F, 6, tail), (0x311F, 7, occ), (0x311F, 8, ready')])
    0 31 fun _ => l
def reelTile : OpBlock := block [(117, 1), (118, 31), (128, 0), (192, 1), (352, 2), (416, 1), (432, 2)]
theorem witness_ReelSlotsMove :
    (let f := flight (entry 1 .tst reelTile)
     let s := with0 (reelState 0 1 1 0 ⟨[(0, false)], []⟩) fun k => { k with flights := [f] }
     (tstWaiting s.cl[(0 : Fin 8)] = some f ∧ (tileF f.e.blk).reel = 31 ∧ reelFree s 0 31 = true) ∧
     gives (exec (.reelReserve 0 31 (.op .mq)) s) (fun t => rlGet t 0 31 6 == 0 && rlGet t 0 31 7 == 2 && (reelOf t 0 31).resv == [(0, false), (1, false)]) = true) ∧
    gives (exec (.reelCommit 0 31) (reelState 0 1 1 0 ⟨[(0, true)], []⟩)) (fun t => rlGet t 0 31 8 == 1 && (reelOf t 0 31).resv.isEmpty) = true ∧
    (let e := { entry 1 .tld reelTile with checked := true, reelSince := some 0 }
     let s : State := { put (objs (reelState 1 0 1 1 ⟨[], []⟩) [(0x4005, 0, 10)]) .mq [e] with now := 10000 }
     (headWaiting s.cl[(0 : Fin 8)] .mq = some e ∧ (slotWanted e).1 = some 31 ∧ 0 < rlGet s 0 31 8 ∧ elapsedUs s 0 (cget s 0 0x4005 0) = true) ∧
     gives (exec (.reelClaim 0 31 (.op .mq)) s) (fun t => (reelOf t 0 31).claims == [(1, false)] && rlGet t 0 31 8 == 0 && t.cl[(0 : Fin 8)].mq.map (fun x => x.slot) == [some 1]) = true ∧
     gives (exec (.reelWaitTimeout 0 (.op .mq)) s) (fun t => t.faults.map (fun f => f.code) == [12]) = true) ∧
    gives (exec (.reelRelease 0 31) (reelState 1 0 1 0 ⟨[], [(1, true)]⟩)) (fun t => rlGet t 0 31 5 == 0 && rlGet t 0 31 7 == 0 && (reelOf t 0 31).claims.isEmpty) = true := by decide +kernel
/-- A STREAM of two descriptors from a ring of four at 0x4000; one descriptor copies 64 bytes of INT8 from 0x5000 to 0x6000; one moves nothing; one is a multicast. -/
def streamBlock : OpBlock := block [(128, 0x4000), (192, 4), (224, 0), (240, 2)]
def descOf (n mask : Nat) : Descriptor :=
  BitVec.ofNat 1024 (0x5000 + 0x6000 * 2 ^ 64 + 2 ^ 192 + 2 ^ 224 + n * 2 ^ 256 + 2 ^ 288 + 2 ^ 320 + 2 ^ 352 + 2 ^ 384 + 5 * 2 ^ (672 + 16) + 5 * 2 ^ (672 + 20) + mask * 2 ^ (672 + 56) +
    2 ^ (672 + 40) + 6 * 2 ^ 832 + 2 ^ 848)
def streaming (fetched : Nat) (l : List DescRun) : State := with0 (objs ready [(0x3050, 0, 10)]) fun k =>
  { k with flights := [flight (entry 1 .stream streamBlock)], streams := vset k.streams 0 (some ⟨1, fetched, l, 0, []⟩) }
theorem witness_StreamDescriptorsRun :
    (let s := streaming 0 []
     ((streamOf s 0 0).isSome = true ∧ stBase streamBlock % 128 = 0 ∧ isPow2 (stRing streamBlock) = true ∧ ringOk s 0 streamBlock = true ∧
       (∀ i, i < 2 → protOk s (partOf s 0) (descAddr s 0 streamBlock i) 128 false = true)) ∧
     gives (exec (.descriptorFetch 0 0) s) (fun t => (t.cl[(0 : Fin 8)].streams[(0 : Fin 4)]).map (fun x => (x.nFetched, x.descs.length)) == some (2, 2)) = true) ∧
    (let x := newDesc 0 (descOf 64 0) false
     descCheck (streaming 2 [x]) 0 x = none ∧ (descF x.d).isSR = false ∧ (descF x.d).isDR = false ∧ (descF x.d).cvt.mode = 0 ∧ granDiffers (streaming 2 [x]) 0 (descF x.d).cvt = false ∧
     gives (exec (.descriptorStart 0 0) (streaming 2 [x])) (fun t => ((t.cl[(0 : Fin 8)].streams[(0 : Fin 4)]).map (fun x => x.descs.all (fun d => d.started))) == some true) = true) ∧
    (let x := { newDesc 0 (descOf 0 0) false with started := true }
     (descF x.d).empty = true ∧
     gives (exec (.descriptorComplete 0 0 0) (streaming 2 [x])) (fun t => clapsOut t == [(2, 6, 1)] && (t.cl[(0 : Fin 8)].streams[(0 : Fin 4)]).map (fun x => x.done) == some 1) = true) ∧
    (let x := { newDesc 0 (descOf 64 3) false with started := true, mcSince := some 0 }
     let s : State := { streaming 2 [x] with now := 10000 }
     ((descF x.d).mask ≠ 0 ∧ elapsedUs s 0 (oget s 0x3050 0) = true ∧ elapsedUs { s with now := 9999 } 0 (oget s 0x3050 0) = false) ∧
     gives (exec (.mcastStall 0 0) s) (fun t => oget t 0x3051 0 == 1 && t.evlog.map (fun r => r.code) == [0x0201]) = true) := by decide +kernel
/-- A GATHER of no positions, a TSEND of one row and its addition, a DIGEST of three bytes "abc" (FIPS 180-4). -/
theorem witness_GatherTsendDigestComplete :
    let run (kind : OpKind) (b : OpBlock) (ph : Nat) : State :=
      with0 { numbered (wrBytes ready 0x2000 [0x61, 0x62, 0x63]) with digestQ := [(0, 1)] } fun k => { k with flights := [{ flight (entry 1 kind b) with phase := ph }] }
    let g := block [(112, 0), (117, 0), (120, 0), (122, 1), (128, 1)]
    let d := block [(128, 0x2000), (192, 3), (256, 1)]
    let ts := block [(128, 5 * 2 ^ 48 + 0x3000), (280, 64), (304, 1), (320, 7), (336, 2)]
    ((gatherF g).count = 0 ∧ (engFlight (run .gather g 0).cl[(0 : Fin 8)] .gather 0).isSome = true ∧
      (gatherRun (run .gather g 0) 0 4 (gatherF g) (opRep (run .gather g 0) 0 (entry 1 .gather g) 0 0 0)).bad = none) ∧
    gives (exec (.gatherComplete 0 0) (run .gather g 0)) (fun t => t.cl[(0 : Fin 8)].flights.isEmpty && cget t 0 0x4060 1 == 1) = true ∧
    (let f := tsendF ts
     f.rows = 1 ∧ f.rowBytes = 64 ∧ f.dst % 2048 = 0 ∧ f.inc ≠ 0) ∧
    gives (exec (.tsendComplete 0 0) (run .tsend ts 0)) (fun t => t.reqs.map (fun q => (q.pkt.type, q.pkt.dest, q.pkt.addr)) == [(1, 5, 0x3000)]) = true ∧
    gives (exec (.tsendComplete 0 0) (run .tsend ts 1)) (fun t => t.reqs.map (fun q => (q.pkt.type, q.pkt.opc, q.pkt.addr)) == [(3, 2, clapBase + 64 * 7)]) = true ∧
    gives (exec (.tsendComplete 0 0) (run .tsend ts 2)) (fun t => t.cl[(0 : Fin 8)].flights.isEmpty) = true ∧
    ((digestWaiting (run .digest d 0)).head? = some (0, 1) ∧ (rdMesh (run .digest d 0) 4 (localPart (dgSrc d)) (dgLen d)).any (fun x => x.2) = false) ∧
    gives (exec (.digestComplete 0 0) (run .digest d 0)) (fun t => rdBytes t (spBase 0 + 64) 4 == [0xBA, 0x78, 0x16, 0xBF] && t.cl[(0 : Fin 8)].flights.isEmpty) = true := by decide +kernel

/-! Memory and clappers. -/

/-- Granules of HBM stack 11 and of the scratchpad of cluster 7; the last token of a bucket; a stack in self-refresh. -/
theorem witness_MemoryControllersServe :
    let g := 0xBFFFFFFF
    let r : MemReq := ⟨.host, g, false, true⟩
    let p : MemReq := ⟨.core 7, g, true, false⟩
    let s : State := { objs ready [(0x3010, 12, 1)] with reg := { ready.reg with tokens := [(84, 1), (89, 1), (92, 1)] } }
    let e : State := { s with reg := { s.reg with tokens := [(84, 1), (92, 0)], borrow := ready.reg.borrow.set 4 false } }
    (hbmActive s 11 = true ∧ s.reg.wait = [] ∧ (classOf s r.src).val = 4 ∧ (classOf s p.src).val = 1 ∧ tokensOf s 11 4 = 1 ∧ tokensOf s 11 1 = 1 ∧ tokensOf e 11 4 = 0 ∧
      e.reg.borrow[(4 : Fin 5)] = false ∧ oget s 0x3013 0 ≠ 0 ∧ oget s 0x3022 0 ≠ 0 ∧ spLine 0x400FFFFFF = some 7) ∧
    (incidentCount s 6 (0x90 + 11) + 1 < oget s 0x7010 6 ∧ incidentCount s 5 (16 * 7 + 9) + 1 < oget s 0x7010 5) ∧
    gives (exec (.hbmAccess 11 (some r.src) r.g r.write r.whole .none) s) (fun t => tokensOf t 11 4 == 0 && tokensOf t 10 4 == 1) = true ∧
    gives (exec (.hbmAccess 11 (some p.src) p.g p.write p.whole .none) s) (fun t => tokensOf t 11 1 == 0 && t.reg.wait.isEmpty) = true ∧
    gives (exec (.hbmAccess 11 (some r.src) r.g true r.whole .uncorrectable) s) (fun t => !granBad t g && tokensOf t 11 4 == 0) = true ∧
    gives (exec (.hbmAccess 11 (some r.src) r.g r.write r.whole .corrected) s) (fun t => oget t 0x3011 12 == 1) = true ∧
    gives (exec (.hbmAccess 11 (some p.src) p.g p.write p.whole .uncorrectable) s) (fun t => granBad t g && oget t 0x3012 12 == 1) = true ∧
    gives (exec (.hbmAccess 11 (some r.src) r.g r.write r.whole .none) e) (fun t => t.reg.wait == [(4, r)] && t.reg.held == [92]) = true ∧
    (hbmActive (oset s 0x3010 12 2) 11 = false ∧ gives (exec (.hbmAccess 11 (some r.src) r.g r.write r.whole .uncorrectable) (oset s 0x3010 12 2)) (fun t => !granBad t g) = true) ∧
    gives (exec (.hbmScrubStep g .corrected) s) (fun t => oget t 0x3011 12 == 1) = true ∧
    gives (exec (.hbmScrubStep g .uncorrectable) s) (fun t => granBad t g) = true ∧
    gives (exec (.scratchpadAccess 0x400FFFFFF false true .uncorrectable) s) (fun t => granBad t 0x400FFFFFF && oget t 0x3021 8 == 1) = true ∧
    gives (exec (.spScrubStep 0x400FFFFFF .corrected) s) (fun t => oget t 0x3020 8 == 1) = true := by decide +kernel
/-- A bucket gains its rate, half of it at a hot stack, and stops at its depth; a class that waited is counted. -/
theorem test_BucketsReplenish :
    let s : State := { objs ready [(0x3030, 1, 10), (0x3031, 1, 15)] with pow := { ready.pow with hbmHot := ready.pow.hbmHot.set 1 true } }
    gives (exec .bwrReplenish { s with reg := { s.reg with tokens := [(0, 2), (8, 2)], held := [8], wait := [(0, ⟨.host, 0x10000000, false, true⟩)] } })
      (fun t => tokensOf t 0 0 == 12 && tokensOf t 1 0 == 7 && oget t 0x3041 1 == 1 && t.reg.held.isEmpty && t.reg.wait.length == 1) = true := by decide +kernel
/-- A read by cluster 0 of HBM stack 11 over links 2 to 0, a multicast from cluster 0 to the scratchpads of clusters 2, 4 and 0 over link 0, and a packet from
port 0 to port 3 over link 11. -/
theorem witness_MeshFlitErrors :
    let rd : MeshLoad := .read 4 0xBFFFFFFF
    let wr : MeshLoad := .write 4 [0x400400001, 0x400800001, 0x400000001]
    let p : Packet := { type := 1, job := 0, dest := 7, srcModule := 5, srcUnit := 4, addr := 0x40, len := 128, tag := 0, opc := 0, hops := 1, poison := 0, data := zeros 128, cls := false, detour := false }
    let s : State := { objs ready [(0x1016, 0, 1)] with fab := { ready.fab with queue := [(0, p)], route := [(7, 3)] } }
    (incidentCount s 8 (0xA0 + 11) + 1 < oget s 0x7010 8 ∧ incidentCount s 8 0xA0 + 1 < oget s 0x7010 8) ∧
    (crosses s 0 0 rd = true ∧ crosses s 2 2 rd = true ∧ crosses s 0 1 rd = false ∧ crosses s 0 1 wr = true ∧ crosses s 11 5 (.packet 0 1) = true ∧ crosses s 11 4 (.packet 0 1) = false) ∧
    gives (exec (.meshFlitArrival 0 1 .uncorrectable false rd) s) (fun t => t.meshHits.isEmpty) = true ∧
    gives (exec (.meshFlitArrival 0 0 .corrected false rd) s) (fun t => oget t 0x1021 1 == 1) = true ∧
    gives (exec (.meshFlitArrival 0 0 .uncorrectable false rd) s) (fun t => t.meshHits == [(4, false, 0xBFFFFFFF)]) = true ∧
    gives (exec (.meshFlitArrival 0 1 .uncorrectable false wr) s) (fun t => t.meshHits == [(4, true, 0x400400001), (4, true, 0x400800001)]) = true ∧
    gives (exec (.meshFlitArrival 11 5 .uncorrectable false (.packet 0 1)) s) (fun t => t.fab.queue.map (fun x => x.2.poison) == [4]) = true ∧
    gives (exec (.meshFlitArrival 11 5 .uncorrectable true (.packet 0 1)) s) (fun t => drained t && oget t 0x1022 12 == 1) = true := by decide +kernel
/-- Clapper 16,383 holding 7, poisoned or not; CAS hits and misses. -/
theorem witness_HostClapperAccesses :
    let s : State := { ready with clapVal := [(16383, 7)] }
    let b : State := { s with clapPz := [(16383, true)] }
    (pcieUp s = true ∧ hostClapBad s 0 16383 5 = none ∧ clapBad s 16383 = false ∧ clapBad b 16383 = true ∧ hostClapBad b 0 16383 5 = none) ∧
    gives (exec (.hostClapAdd 0 16383 0xFFFFFFFFFFFFFFFF .none) s) (fun t => clapGet t 16383 == 6) = true ∧
    gives (exec (.hostClapMax 0 16383 6 .none) s) (fun t => clapGet t 16383 == 7) = true ∧
    gives (exec (.hostAtomicCas 0 16383 1 7 .none 0 8) s) (fun t => clapGet t 16383 == 1 && t.outs == [Out.cpl 0 [7, 0, 0, 0, 0, 0, 0, 0] false]) = true ∧
    gives (exec (.hostAtomicCas 0 16383 1 8 .none 0 8) s) (fun t => clapGet t 16383 == 7) = true ∧
    gives (exec (.hostAtomicSwap 0 16383 1 .none 0 8) b) (fun t => clapGet t 16383 == 7 && t.outs == [Out.cpl 0 (zeros 8) true]) = true ∧
    gives (exec (.hostAtomicFetchadd 0 16383 1 .none 0 4) s) (fun t => clapGet t 16383 == 7 && t.outs.head? == some (Out.unsupported 0)) = true ∧
    gives (exec (.hostAtomicSwap 0 16383 1 .none 1 8) s) (fun t => clapGet t 16383 == 7 && t.outs.head? == some (Out.unsupported 0)) = true ∧
    gives (exec (.hostClapReservedWrite 0 16383) s) (fun t => cget t 7 0x4071 3 == 1) = true ∧
    gives (exec (.hostClapSet 0 16383 1 .none) b) (fun t => clapGet t 16383 == 1 && !clapBad t 16383) = true := by decide +kernel
/-- Every operation waits at clapper 5 (holding 7), FADD and CAS with a register. -/
theorem witness_ClapperHomePerforms :
    let s (op : Nat) (ret : ClapRet) : State :=
      modCore { ready with clapVal := [(5, 7)], clapOps := [{ unit := 8, op := op, clap := 5, val := 3, cmp := 7, ret := ret, bad := none }] } 0 fun k => { k with awaits := [9] }
    ((s 0 .none).clapOps[0]? ≠ none ∧ clapsServed (s 0 .none) = true ∧ clapBad (s 0 .none) 5 = false ∧ paired (s 0 .none) = false ∧ (s 4 (.core 0 9)).cl[(0 : Fin 8)].core.awaits.contains 9 = true) ∧
    (∀ x ∈ [(0, 7), (1, 3), (2, 10), (3, 7), (4, 10), (5, 3), (6, 3)],
      gives (exec (.clapperOpPerform 0 .none) (s x.1 (.core 0 9))) (fun t => clapGet t 5 == BitVec.ofNat 64 x.2 && t.clapRes == [(0, 9, 7, 0)] && t.clapOps.isEmpty) = true) := by decide +kernel
/-- A gate on clapper 9 for at least 4, at 3 and at 4; a CWAIT; a SET that opens the gate. -/
theorem witness_WaitersRegisterAndRelease :
    let e := { entry 1 .tld (block [(0, 4), (79, 1), (64, 9)]) with waitSince := some 0 }
    let s (v : Word) : State := { put ready .mq [e] with clapVal := [(9, v)] }
    let w : Waiter := { clap := 9, eq := false, value := 4, who := .gate 0 1 }
    let c (v : Word) : State := modCore (s v) 0 fun k => { k with status := .cwait 9 false 4 0 }
    (gateHead (s 3).cl[(0 : Fin 8)] 1 = some (.mq, e) ∧ clapBad (s 3) 9 = false ∧ satisfied w 3 = false ∧ satisfied w 4 = true) ∧
    gives (exec (.waiterRegister (.gate 0 1) .none) (s 3)) (fun t => t.waiters == [w] && t.freed.isEmpty) = true ∧
    gives (exec (.waiterRegister (.gate 0 1) .none) (s 4)) (fun t => t.waiters.isEmpty && t.freed == [.gate 0 1]) = true ∧
    gives (exec (.waiterRegister (.cwait 0) .none) (c 3)) (fun t => t.waiters.length == 1) = true ∧
    gives (exec (.waiterRegister (.cwait 0) .none) (c 4)) (fun t => t.cl[(0 : Fin 8)].core.status == .running && t.cl[(0 : Fin 8)].core.pc == 4) = true ∧
    hostClapBad (s 3) 0 9 5 = none ∧ gives (exec (.hostClapSet 0 9 4 .none) { s 3 with waiters := [w] }) (fun t => t.freed == [.gate 0 1] && t.waiters.isEmpty) = true := by decide +kernel

/-! Takes. -/

/-- Function p enabled for queues `en`, rings of 4 takes and 4 completions. -/
def queues (s : State) (p : Fin 8) (en : Nat) : State :=
  objs s [(0x9100 + p.val, 1, 0x1000), (0x9100 + p.val, 4, 0x4000), (0x9100 + p.val, 5, 4), (0x9100 + p.val, 8, 4), (0x9100 + p.val, 9, 0x8000), (0x9100 + p.val, 0x0A, 4), (0x9100 + p.val, 0x0B, en)]
/-- A take from queue 0. -/
def take (id flags : Nat) : TakeEnt :=
  { q := 0, id := id, targ := 77, image := 0x10000, imageLen := 8, entry := 4, flags := flags, startClap := 3, doneClap := 5, startValue := 1 }
/-- That take running since timecode 100. -/
def run (id flags : Nat) : TakeRun := { ent := take id flags, startTc := 100, started := true, unsync := false, faults := [], stop := none, ended := [] }
/-- Partition 0 with f applied to its function. -/
def withF (s : State) (f : HostFn → HostFn) : State := modF s 0 f
/-- The 64 bytes of that take's entry (R513), with `z` in a reserved byte. -/
def takeBytes (z : Byte) : List Byte :=
  toLE 8 9 ++ toLE 8 77 ++ toLE 8 0x10000 ++ toLE 4 8 ++ toLE 4 4 ++ toLE 1 2 ++ [z] ++ toLE 2 3 ++ toLE 2 5 ++ zeros 2 ++ toLE 8 1 ++ zeros 16

/-- Doorbells inside and outside, a disable that ends a fetched take, a first enable, the three cases of ABORT. -/
theorem witness_HostQueueRegisters :
    let s := queues ready 0 9
    let f := withF s fun h => { h with fetched := vset h.fetched 0 (some (take 9 2)) }
    let r := withF s fun h => { h with run := some (run 9 2) }
    (hostServed s = true ∧ tqOn s 0 3 = true ∧ tqOn s 0 1 = false ∧ canWrite s .dap 0x9100 0x0B = true ∧ canWrite s (.fn 0) 0x9100 0x0B = true) ∧
    gives (exec (.tqTail 0 3 3) s) (fun t => t.hf[(0 : Fin 8)].tail[(3 : Fin 4)] == 3 && fnGet t 0 0x0F == 0) = true ∧
    gives (exec (.tqTail 0 3 4) s) (fun t => fnGet t 0 0x0F == 1) = true ∧ gives (exec (.tqTail 0 1 0) s) (fun t => fnGet t 0 0x0F == 1) = true ∧
    gives (exec (.cqHead 0 3) s) (fun t => t.hf[(0 : Fin 8)].cqHead == 3) = true ∧ gives (exec (.cqHead 0 4) s) (fun t => fnGet t 0 0x0F == 1) = true ∧
    gives (exec (.tqEnable (.fn 0) 0 8) f) (fun t => t.hf[(0 : Fin 8)].compl.map (fun x => (x.id, x.disp, x.code)) == [(9, 1, 0x0F)]) = true ∧
    gives (exec (.tqEnable .dap 0 15) (queues ready 0 0)) (fun t => fnGet t 0 0x0B == 0) = true ∧
    gives (exec (.tqEnable .dap 0 9) (withF (queues ready 0 0) fun h => { h with cqHead := 2, cqTail := 2 })) (fun t => fnGet t 0 0x0B == 9 && t.hf[(0 : Fin 8)].cqTail == 0) = true ∧
    gives (exec (.abort 0 8) f) (fun t => fnGet t 0 0x0E == 1) = true ∧
    gives (exec (.abort 0 9) f) (fun t => t.hf[(0 : Fin 8)].compl.map (fun x => (x.id, x.disp, x.code)) == [(9, 1, 0x0F)]) = true ∧
    ((∀ g ∈ groupsOf r 0, (groupOf r g).run = none ∧ (groupOf r g).waiting = []) ∧ clustersOf r 0 ≠ []) ∧
    gives (exec (.abort 0 9) r) (fun t => clusterState t 0 == 4 && t.hf[(0 : Fin 8)].run == some { run 9 2 with stop := some (.abort, r.tc) }) = true := by decide +kernel
/-- Queue 3 of function 7 at the wrap of its ring; an entry good and with a reserved byte; the scheduler with and without clusters. -/
theorem witness_TakeEntriesFetchedAndScheduled :
    let s := modF (queues ready 7 8) 7 fun h => { h with head := vset h.head 3 3 }
    let g := modF s 7 fun h => { h with fetching := vset h.fetching 3 true }
    let h := withF ready fun h => { h with fetched := vset h.fetched 0 (some (take 9 2)), rr := 0 }
    let e := modF ready 7 fun h => { h with fetched := vset h.fetched 0 (some (take 9 2)) }
    (hostServed s = true ∧ pcieUp s = true ∧ tqOn s 7 3 = true ∧ s.hf[(7 : Fin 8)].fetched[(3 : Fin 4)] = none ∧ drained g = false) ∧
    gives (exec (.takeEntryFetch 7 3) s) (fun t => t.outs == [Out.hostRead 7 (0x4000 + 192) 64]) = true ∧
    (takeBytes 0).length = 64 ∧ takeEntry 0 (takeBytes 0) = take 9 2 ∧ takeEntryBad g 7 (takeBytes 0) = none ∧ takeEntryBad g 7 (takeBytes 1) = some 3 ∧
    gives (exec (.takeEntryArrival 7 3 (takeBytes 0) 0) g)
      (fun t => t.hf[(7 : Fin 8)].fetched[(3 : Fin 4)] == some { take 9 2 with q := 3 } && t.hf[(7 : Fin 8)].head[(3 : Fin 4)] == 0 && fnGet t 7 0x0D == 1) = true ∧
    gives (exec (.takeEntryArrival 7 3 (takeBytes 1) 0) g) (fun t => t.hf[(7 : Fin 8)].compl.map (fun x => (x.disp, x.code)) == [(4, 3)]) = true ∧
    gives (exec (.takeEntryArrival 7 3 [] 2) g) (fun t => fnGet t 7 0x0B == 0 && lastEvent t == some (0x0802, payOf [(16, 7), (17, 3), (18, 2), (24, 0x4000 + 192)])) = true ∧
    gives (exec (.pcieCompletionTimeout 7 3) g) (fun t => fnGet t 7 0x0B == 0 && oget t 0x9003 5 == 1) = true ∧
    (oget h 0x9010 0 = 9 ∧ mayStart h = true ∧ clustersOf h 0 ≠ [] ∧ clustersOf e 7 = [] ∧
      ((fins 4).map (fun i => (h.hf[(0 : Fin 8)].rr + 1 + i.val) % 4)).find? (fun k => (h.hf[(0 : Fin 8)].fetched.toList[k]?.bind id).isSome) = some 0) ∧
    gives (exec (.takeSchedule 0) h) (fun t => t.hf[(0 : Fin 8)].gate == some (take 9 2) && t.hf[(0 : Fin 8)].fetched.toList == [none, none, none, none]) = true ∧
    gives (exec (.takeSchedule 7) e) (fun t => t.hf[(7 : Fin 8)].compl.map (fun x => (x.disp, x.code)) == [(3, 0x0F)]) = true := by decide +kernel
/-- A take with and without a start gate; a release from HBM, and of an image that no region lets the job read. -/
theorem witness_TakesStartAndRelease :
    let s (fl : Nat) : State := withF ready fun h => { h with gate := some (take 9 fl) }
    let g : State := withF { cset ready 7 0x4002 0 1 with mem := memPut [] 0x10000 [1, 2, 3, 4, 5, 6, 7, 8] } fun h => { h with run := some (run 9 2) }
    let z : State := { g with pz := [(0x400, true)] }
    let i : State := objs (cset (s 2) 7 0x4033 0 1) [(0x7001, 0, 0), (0x7008, 0, 1)]
    let w (c : Nat) : State := let x := s 2; { x with dict := { x.dict with held := [{ ix := 0x4001 + 0x100 * c, sub := 0, val := [0], via := .dap, st := false }] } }
    let b : State := withF g fun h => { h with run := some { run 9 2 with ent := { take 9 2 with image := 0x5000000000 } } }
    ((∀ c ∈ clustersOf (s 2) 0, clusterState (s 2) c = 0) ∧ drained (s 2) = false ∧ (7 : Fin 8) ∈ clustersOf (s 2) 0 ∧
      (s 2).dict.held = [] ∧ i.dict.held = [] ∧ checkMode i = 0 ∧ paired i = false ∧ oget i 0x7008 0 = 1 ∧ cget i 7 0x4033 0 = 1) ∧
    gives (exec (.takeStart 0) i) (fun t => oget t 0x7008 0 == 0 && cget t 7 0x4033 0 == 0) = true ∧
    ((w 1).dict.held.any (dueBefore (w 1) (clustersOf (w 1) 0)) = true ∧ (w 7).dict.held.any (dueBefore (w 7) (clustersOf (w 7) 0)) = true) ∧
    gives (exec (.takeStart 0) (s 2)) (fun t => clusterState t 7 == 1 && t.hf[(0 : Fin 8)].run == some { run 9 2 with startTc := (s 2).tc, unsync := (s 2).unsync }) = true ∧
    gives (exec (.takeStart 0) (s 1)) (fun t => t.hf[(0 : Fin 8)].run == none) = true ∧
    gives (exec (.takeStart 0) { s 1 with freed := [.start 0] }) (fun t => t.hf[(0 : Fin 8)].run.isSome && clusterState t 0 == 1) = true ∧
    (partOf g 7 = 0 ∧ clusterState g 7 = 1 ∧ protOk g 0 0x10000 8 false = true ∧ anyMesh g (16 * 7) (outerAddr g 0x10000) 8 = false ∧ anyMesh z (16 * 7) (outerAddr z 0x10000) 8 = true) ∧
    gives (exec (.coreRelease 7) z) (fun t => reports t == [(7, 0, 0, 0x10000, 29)] && clusterState t 7 == 1) = true ∧
    gives (exec (.coreRelease 7) g) (fun t => t.cl[(7 : Fin 8)].core.status == .running && t.cl[(7 : Fin 8)].core.pc == 4 && xget t 7 10 == 77 &&
      xget t 7 11 == 7 && mget 0 t.cl[(7 : Fin 8)].clm 7 == 8 && clusterState t 7 == 2) = true ∧
    protOk b 0 0x5000000000 8 false = false ∧ gives (exec (.coreRelease 7) b) (fun t => reports t == [(6, 0, 0, 0x5000000000, 29)]) = true := by decide +kernel
/-- The last and not the last cluster, with DONE_CLAPPER; a report; the end of a discard by a fault and by an abort; a completion at the end
of the ring, and one whose write fails. -/
theorem witness_TakesEnd :
    let s (l : List Nat) : State := withF (modCore ready 0 fun k => { k with status := .ended }) fun h => { h with run := some { run 9 6 with ended := l } }
    let f : FaultRep := { part := 0, code := 6, time := 50, cluster := 0, engine := 0, pc := 8, addr := 16, detail := 1, cold := false, instr := 0, cflags := 0 }
    let g : State := { withF ready (fun h => { h with run := some (run 9 2) }) with faults := [f] }
    let d (w : Stop) : State := withF g fun h => { h with run := some { run 9 2 with stop := some (w, 40) } }
    let x : Compl := { id := 9, code := 0, disp := 0, q := 0, startTc := 1, endTc := 2, flags := 0, signalled := false, unsync := false, irq := true }
    let c : State := withF (queues ready 0 1) fun h => { h with compl := [x], cqHead := 1, cqTail := 3 }
    (partOf (s []) 0 = 0 ∧ clusterQuiet (s []) 0 = true ∧ (clustersOf (s []) 0).all (fun d => d == 0 || (List.range 7).contains d.val) = false ∧
      (clustersOf (s [7, 6, 5, 4, 3, 2, 1]) 0).all (fun d => d == 0 || [7, 6, 5, 4, 3, 2, 1].contains d.val) = true ∧ protOk (s []) 0 (clapAddr 5) 64 true = true) ∧
    gives (exec (.clusterEnded 0) (s [])) (fun t => t.hf[(0 : Fin 8)].run == some { run 9 6 with ended := [0] }) = true ∧
    gives (exec (.clusterEnded 0) (s [7, 6, 5, 4, 3, 2, 1])) (fun t => t.hf[(0 : Fin 8)].run == none && clapGet t 5 == 1 && clusterState t 0 == 0 &&
      t.hf[(0 : Fin 8)].compl == [{ x with startTc := 100, endTc := t.tc, signalled := true, unsync := t.unsync }]) = true ∧
    ((g.faults.filter (fun f => f.part == 0))[0]? = some f ∧ ∀ k ∈ groupsOf g 0, (groupOf g k).run = none ∧ (groupOf g k).waiting = []) ∧
    gives (exec (.faultReport 0 0) g) (fun t => t.hf[(0 : Fin 8)].run == some { run 9 2 with faults := [f], stop := some (.fault, g.tc) } && clusterState t 3 == 4 && t.faults.isEmpty) = true ∧
    ((clustersOf (d .abort) 0).any (outstanding (d .abort)) = false ∧
      (discardCode { run 9 2 with faults := [f], stop := some (.fault, 40) }).1 = 6 ∧ (discardCode { run 9 2 with faults := [f], stop := some (.abort, 40) }).1 = 0x0F) ∧
    gives (exec (.discardComplete 0) (d .fault)) (fun t => t.hf[(0 : Fin 8)].compl.map (fun x => (x.id, x.code, x.disp)) == [(9, 6, 0)] && clusterState t 0 == 0) = true ∧
    gives (exec (.discardComplete 0) { d .fault with faults := [f, { f with part := 3 }] }) (fun t => t.faults == [{ f with part := 3 }]) = true ∧
    gives (exec (.discardComplete 0) (d .abort)) (fun t => t.hf[(0 : Fin 8)].compl.map (fun x => (x.id, x.code, x.disp)) == [(9, 0x0F, 1)]) = true ∧
    (cqRoom c 0 = true ∧ fnGet c 0 0x0B ≠ 0 ∧ pcieUp c = true) ∧
    gives (exec (.completionWrite 0 false) c) (fun t => t.outs == [Out.hostWrite 0 (0x8000 + 96) (complBytes x true), Out.msix 0 0] || t.outs == [Out.hostWrite 0 (0x8000 + 96) (complBytes x false), Out.msix 0 0]) = true ∧
    gives (exec (.completionWrite 0 false) c) (fun t => t.hf[(0 : Fin 8)].cqTail == 0 && t.hf[(0 : Fin 8)].phase != c.hf[(0 : Fin 8)].phase && t.hf[(0 : Fin 8)].compl.isEmpty) = true ∧
    gives (exec (.completionWrite 0 true) c) (fun t => fnGet t 0 0x0B == 0 && t.hf[(0 : Fin 8)].compl == [x]) = true := by decide +kernel
/-- EVLOG_WRITTEN 2,000: 976 is the oldest; CONT_WRITTEN 300: 44 is. -/
theorem witness_LogsAcknowledgedAndModuleDrained :
    let s := objs ready [(0x7020, 0, 2000), (0x7030, 0, 300)]
    (canWrite s .dap 0x7021 0 = true ∧ canWrite s (.fn 0) 0x7031 0 = true ∧ canWrite s .dap 0x7005 0 = true ∧ canWrite s .dap 0x7009 0 = true) ∧
    (∀ x ∈ [(975, 0), (976, 976), (2000, 2000), (2001, 0)], gives (exec (.evlogAcked .dap x.1) s) (fun t => oget t 0x7021 0 == x.2) = true) ∧
    (∀ x ∈ [(43, 0), (44, 44), (300, 300), (301, 0)], gives (exec (.contAcked (.fn 0) x.1) s) (fun t => oget t 0x7031 0 == x.2) = true) ∧
    gives (exec (.drainCmd .dap 1) s) (fun t => drained t && oget t 0x7003 0 % 256 == 0xFF) = true ∧ gives (exec (.drainCmd .dap 2) s) (fun t => !drained t) = true ∧
    gives (exec (.digestVerdict .dap 0xB01) s) (fun t => lastEvent t == some (0x0607, payOf [(16, 0xB01)]) && !drained t) = true ∧
    gives (exec (.digestVerdict .dap 0xB02) s) (fun t => drained t && oget t 0x7003 0 % 256 == 0x9B) = true ∧
    gives (exec (.digestVerdict .dap 0xC01) s) (fun t => t.evlog.isEmpty) = true := by decide +kernel
/-- Pair 3 holds a FADD, equal, unequal and alone for longer than GATE_TIMEOUT; two equal writes; a held PAIRED, with whole and with split pairs. -/
theorem witness_PairEgressAndCheckMode :
    let f : FaultRep := { part := 0, code := 0, time := 0, cluster := 6, engine := 1, pc := 8, addr := 16, detail := 0, cold := false, instr := 0, cflags := 0 }
    let m (v : Word) : ClapMsg := { unit := 0x61, op := 4, clap := 16383, val := v, cmp := 0, ret := .none, bad := none }
    let s (x y : List Egress) : State := modC (modC { oset ready 0x4605 0 2 with now := 2100 } 6 fun k => { k with egress := x }) 7 fun k => { k with egress := y }
    let w : List (Byte × Bool) := [(1, false), (2, false)]
    let h : Held := { ix := 0x7001, sub := 0, val := [2], via := .dap, st := false }
    let c : State := { ready with dict := { ready.dict with held := [h] } }
    (incidentCount (s [] []) 4 (16 * 6 + 1) + 1 < oget (s [] []) 0x7010 4 ∧ cget (s [] []) 6 0x4005 0 = 2 ∧ (∀ e, clusterState c e = 0) ∧ islandOn c 22 = true) ∧
    gives (exec (.pairEgressCompare 3) (s [.clap (m 1) 5 f] [.clap (m 1) 9 f])) (fun t => t.clapOps == [m 1] && t.cl[(7 : Fin 8)].egress.isEmpty) = true ∧
    gives (exec (.pairEgressCompare 3) (s [.clap (m 1) 5 f] [.clap (m 2) 9 f])) (fun t => t.clapOps.isEmpty && reports t == [(9, 1, 8, 16, 0xE1)]) = true ∧
    gives (exec (.pairEgressCompare 3) (s [.write 0x63 w 5 f] [.write 0x63 w 9 f])) (fun t => rdByte t 0x63 == 1 && rdByte t 0x64 == 2 && t.cl[(6 : Fin 8)].egress.isEmpty) = true ∧
    gives (exec (.pairEgressTimeout 3) (s [.clap (m 1) 100 f] [])) (fun t => reports t == [(9, 1, 8, 16, 0xE2)] && t.cl[(6 : Fin 8)].egress.isEmpty) = true ∧
    gives (exec (.pairEgressTimeout 3) (s [.clap (m 1) 101 f] [])) (fun t => t.faults.isEmpty && t.cl[(6 : Fin 8)].egress.length == 1) = true ∧
    gives (exec .checkModeChange c) (fun t => oget t 0x7001 0 == 2 && (lastEvent t).map (fun x => x.1) == some 0x0609 && t.dict.held.isEmpty) = true ∧
    gives (exec .checkModeChange (oset c 0x4101 0 1)) (fun t => oget t 0x7001 0 == oget c 0x7001 0 && t.dict.held.isEmpty) = true := by decide +kernel

/-! The timecode and the fabric. -/

/-- Port p with its state st and f applied to it. -/
def withPort (s : State) (p : Fin 6) (st : Nat) (f : FabPort → FabPort) : State := modPort (pset (pset s p 1 1) p 2 st) p f
/-- A packet from unit 0x02 of module 1 with job key 1. -/
def packet (type addr : Nat) (data : List Byte) : Packet :=
  { type := type, cls := false, detour := false, dest := 0, srcModule := 1, srcUnit := 2, tag := 9, addr := addr, len := data.length, opc := 0,
    poison := 0, job := 1, hops := 0, data := data }
/-- A fold whose accumulator is a numeral at every step, so that the kernel evaluates it. -/
def folded (f : Nat → Byte → Nat) : List Byte → Nat → Nat
  | [], c => c
  | b :: t, 0 => folded f t (f 0 b)
  | b :: t, c + 1 => folded f t (f (c + 1) b)
theorem foldl_folded (f : Nat → Byte → Nat) (l : List Byte) (c : Nat) : l.foldl f c = folded f l c := by
  induction l generalizing c with
  | nil => rfl
  | cons b t ih => cases c <;> exact ih _
/-- A DATA flit of SEQ 4095 whose area is a, its link header 0 and its FCRC n. -/
def flitOf (a : List Byte) (n : Nat) : Flit :=
  { fecOk := true, corrSyms := 0, message := flitMessage 0x1FFF0 (slice a 0 608 ++ zeros 28 ++ toLE 4 n) }
/-- A PTP message of a type from port identity `src`, with flags, a correction of ns and a stamp of ns (IEEE 1588, table 35). -/
def ptpMsg (ty src flags corr stamp : Nat) : List Byte :=
  toBE 1 ty ++ toBE 1 2 ++ zeros 4 ++ toBE 2 flags ++ toBE 8 (65536 * corr) ++ zeros 4 ++ toBE 10 src ++ zeros 4 ++ toBE 6 0 ++ toBE 4 stamp

/-- Replica 23 at lead 1, corrected to 0 and to 1; an exchange that is due; TIME_REQ; TIME_RESP with fewer than four thetas, with four, and synchronized. -/
theorem witness_TimecodeExchange :
    let r : State := { ready with tc := 500, tm := { ready.tm with rep := ready.tm.rep.set 23 (1, false) } }
    let u : State := objs (withPort { numbered ready with now := 2000000, tm := { ready.tm with asked := some 1000000 } } 5 4 id) [(0x1104, 0, 5), (0x1101, 0, 1)]
    let q : List Byte := toLE 1 2 ++ zeros 7 ++ toLE 8 77 ++ zeros 16
    let m : List Byte := toLE 1 3 ++ toLE 1 4 ++ zeros 6 ++ toLE 8 100 ++ toLE 8 1150 ++ toLE 8 1160
    let w (l : List Int) (z : Bool) : State :=
      withPort { u with unsync := z, tc := 100, tm := { u.tm with thetas := l } } 5 4 fun x => { x with rxCtl := [(130, m)] }
    gives (exec (.tcReplicaCorrect 23 false) r) (fun t => tcAt t 23 == 501 && tcAt t 22 == 500) = true ∧
    gives (exec (.tcReplicaCorrect 0 true) r) (fun t => tcAt t 0 == 501) = true ∧ gives (exec (.tcReplicaCorrect 0 false) r) (fun t => tcAt t 0 == 500) = true ∧
    gives (exec .timeExchangeStart u) (fun t => t.fab.port[(5 : Fin 6)].ctl == [toLE 1 2 ++ zeros 31] && t.fab.port[(4 : Fin 6)].ctl == []) = true ∧
    gives (exec .timeExchangeStart { u with now := 1999999 }) (fun t => t.fab.port[(5 : Fin 6)].ctl == []) = true ∧
    gives (exec (.timeReq 5) (withPort u 5 4 fun x => { x with rxCtl := [(90, q)] }))
      (fun t => t.fab.port[(5 : Fin 6)].ctl == [[3, 1, 0] ++ zeros 5 ++ toLE 8 77 ++ toLE 8 90 ++ zeros 8] && t.fab.port[(5 : Fin 6)].rxCtl == []) = true ∧
    gives (exec (.timeResp 5) (w [0, 0] true)) (fun t => oget t 0x1106 0 == 1040000 && t.tm.thetas == [0, 0, 1040000] && t.tc == 100 && t.unsync) = true ∧
    gives (exec (.timeResp 5) (w [0, 0, 0] true)) (fun t => t.tc == 100 + 260 && !t.unsync && (lastEvent t).map (fun x => x.1) == some 0x0A01) = true ∧
    gives (exec (.timeResp 5) (w [] false)) (fun t => t.tc == 100 && !t.unsync) = true := by decide +kernel
/-- Each time source at its limit. -/
theorem witness_TimeSourcesAndLoss :
    let s : State := objs { numbered ready with now := 5000000000, tc := 700 } [(0x1101, 0, 3), (0x1104, 0, 0xFF), (0x1102, 0, 9), (0x1108, 0, 5000)]
    let h : State := { s with now := 5000000001, tm := { s.tm with holdSince := some 0 } }
    let b : State := withPort { s with now := 10000000000, tm := { s.tm with bareSince := some 0 } } 0 4 id
    let d : State := objs s [(0xA020, 0, 1), (0x1101, 0, 2), (0x1206, 0, 1)]
    let f (q : Nat) : List Byte := toLE 8 0 ++ toLE 4 0xC3 ++ toLE 2 0x0701 ++ toLE 2 0 ++ toLE 8 9000 ++ toLE 4 q ++ zeros 36
    let c (z : Bool) : State := { oset s 0x1206 0 1 with unsync := z, dir := { s.dir with rxBeacon := some (2 ^ 32 - 1, 650) } }
    let p (st good : Nat) : State := objs { numbered ready with unsync := true, dly := { ready.dly with ptpGood := good } } [(0x1102, 0, 0), (0x1103, 0, 1), (0x6006, 1, 3), (0x6002, 1, 9), (0x6042, 0, st)]
    let y (st good : Nat) (m : List Byte) : State := modPtp (p st good) fun x =>
      { x with peers := [{ ident := 77, rank := 1, heard := 0 }], path := some 10, lead := some 5000, rx := [(700, m)] }
    let m (n : Nat) : List Byte := ptpMsg 0 77 0 2 n
    (tcState h = 3 ∧ bestParent h = none ∧ tcParent h = 0xFF) ∧
    gives (exec .tcHoldoverLimit h) (fun t => lastEvent t == some (0x0A04, payOf [(16, 5000000001)]) && t.tm.holdLogged && tcState t == 3) = true ∧
    gives (exec .tcHoldoverLimit { h with now := 5000000000 }) (fun t => !t.tm.holdLogged) = true ∧
    (bare b = true ∧ gives (exec .tcNoParent b) (fun t => (lastEvent t).map (fun x => x.1) == some 0x0A09) = true) ∧
    (isDirector d = true ∧ tcState d = 2 ∧ dapUp d = true) ∧
    gives (exec .timeBeaconSend d) (fun t => t.outs.length == 1 && t.dir.beaconTc == 700 && t.dir.beaconSeq == 1) = true ∧
    ((f 0).length = 64 ∧ ofLE (slice (f 0) 12 2) = 0x0701 ∧ ofLE (slice (f 0) 24 4) = 0 ∧ dapUp (c true) = true ∧ isDirector (c true) = false ∧
      tcParent (c true) = 0xFF ∧ isTimeRoot (c true) = false) ∧
    gives (exec (.timeBeaconReceive (f 0)) (c true)) (fun t => tcState t == 5 && !t.unsync && t.tc == 700 + 9000 - 650) = true ∧
    gives (exec (.timeBeaconReceive (f 3)) { c true with dir := { (c true).dir with rxBeacon := none } }) (fun t => t.dir.rxBeacon == some (3, 700) && t.unsync) = true ∧
    (ethUp (p 1 15) 0 = true ∧ ptpOn (p 1 15) = true ∧ ptpType (m 0) = 0 ∧ ptpMine (y 1 15 (m 0)) (m 0) = true ∧ bit (ofBE (slice (m 0) 6 1)) 1 = false ∧
      ptpStamp (m 5788) + ptpCorr (m 5788) = 5790 ∧ ptpMine (y 1 15 (m 0)) (ptpMsg 0 78 0 0 0) = false) ∧
    gives (exec (.ptpSync 4 (-4) 7) (y 1 15 (m 5792))) (fun t => oget t 0x6042 0 == 2 && tcState t == 4 && t.tc == (p 1 15).tc + 5100 && !t.unsync && oget t 0x6043 0 == 2 ^ 32 - 100) = true ∧
    gives (exec (.ptpSync (-4) 4 0) (y 1 15 (m 5583))) (fun t => oget t 0x6042 0 == 1 && t.unsync && t.dly.ptpGood == 0 && oget t 0x6043 0 == 101) = true ∧
    gives (exec (.ptpSync 0 0 0) (y 1 14 (m 5688))) (fun t => oget t 0x6042 0 == 1 && t.dly.ptpGood == 15 && t.dly.ptp.lead == some 5000) = true ∧
    (oget (y 2 16 (m 5000)) 0x6042 0 = 2 ∧ (y 2 16 (m 5000)).dly.ptp.rx = [(700, m 5000)]) ∧
    gives (exec (.ptpSync 0 0 0) (y 1 15 (ptpMsg 0 78 0 0 0))) (fun t => t.dly.ptp.rx.isEmpty && t.dly.ptpGood == 15) = true ∧
    gives (exec .ptpLost { y 1 0 (m 0) with now := 3000000000 }) (fun t => oget t 0x6042 0 == 3 && (lastEvent t).map (fun x => x.1) == some 0x0508) = true := by decide +kernel
/-- Port 5 in each training step, late by one ns, in BACKOFF, with a right and a wrong partner, falling, and commanded. -/
theorem witness_PortsTrainAndFall :
    let s (st k now : Nat) : State := withPort (objs { numbered ready with now := now } [(0x5009, 0, 100)]) 5 st fun x => { x with step := k }
    let m (n : Nat) : List Byte := toLE 1 1 ++ zeros 3 ++ toLE 4 n ++ toLE 1 2 ++ toLE 1 32 ++ toLE 1 32 ++ toLE 1 32 ++ zeros 20
    let b (st now : Nat) : State := objs (s st 0 now) [(0x7002, 0, 1), (0x7003, 0, 0xB4)]
    let i (n : Nat) : State := modPort (s 2 4 0) 5 fun x => { x with rxCtl := [(7, m n)] }
    (trainLate (s 2 3 2000000) 5 = false ∧ trainLate (s 2 3 2000001) 5 = true ∧ portState (s 2 3 0) 5 = 2) ∧
    gives (exec (.trainStepComplete 5 7 [] 0) (s 2 1 1000000)) (fun t => t.fab.port[(5 : Fin 6)].step == 2 && t.fab.port[(5 : Fin 6)].eq == pget t 5 5 && pget t 5 5 != 0) = true ∧
    gives (exec (.trainStepComplete 5 0x1234 [] 0) (s 2 2 2000000)) (fun t => t.fab.port[(5 : Fin 6)].step == 3 && t.fab.port[(5 : Fin 6)].eq == 0x1234) = true ∧
    (lanesJoined [0, 1, 2, 3, 4, 5, 6, 7] = true ∧ lanesJoined [7, 6, 5, 4, 3, 2, 1, 0] = true ∧ lanesJoined [1, 0, 2, 3, 4, 5, 6, 7] = false) ∧
    gives (exec (.trainStepComplete 5 0 [1, 0, 2, 3, 4, 5, 6, 7] 0) (s 2 3 2000000)) (fun t => t.fab.port[(5 : Fin 6)].step == 3) = true ∧
    gives (exec (.trainStepComplete 5 0 [7, 6, 5, 4, 3, 2, 1, 0] 0x81) (s 2 3 2000000)) (fun t => t.fab.port[(5 : Fin 6)].step == 4 && t.fab.port[(5 : Fin 6)].stepAt == 2000000 &&
      t.fab.port[(5 : Fin 6)].laneRev && t.fab.port[(5 : Fin 6)].laneInv == 0x81 && t.fab.port[(5 : Fin 6)].ctl.length == 16) = true ∧
    gives (exec (.trainStepComplete 5 0 [0, 1, 2, 3, 4, 5, 6, 7] 0) (s 2 3 2000000)) (fun t => !t.fab.port[(5 : Fin 6)].laneRev) = true ∧
    (linksBarred (s 5 0 0) = false ∧ linksBarred (b 5 0) = true) ∧
    gives (exec (.backoffExpiry 5) (b 5 1000000000)) (fun t => portState t 5 == 1) = true ∧
    gives (exec (.laneLockLoss 5) (b 4 0)) (fun t => portState t 5 == 1) = true ∧
    gives (exec (.fabPortRetrain .dap 5) (b 1 0)) (fun t => portState t 5 == 1) = true ∧
    gives (exec (.trainStepTimeout 5 0xFF) (s 2 3 2000001)) (fun t => portState t 5 == 5 && lastEvent t == some (0x0304, payOf [(16, 5), (17, 3), (18, 0xFF)])) = true ∧
    gives (exec (.backoffExpiry 5) (s 5 0 1000000000)) (fun t => portState t 5 == 2 && t.fab.port[(5 : Fin 6)].step == 1) = true ∧
    gives (exec (.backoffExpiry 5) (s 5 0 999999999)) (fun t => portState t 5 == 5) = true ∧
    (identBad (i 31744) 5 (m 31744) = none ∧ identBad (i 7) 5 (m 7) = some 0) ∧
    portState (s 4 0 0) 5 = 4 ∧
    gives (exec (.laneLockLoss 5) (modPort (s 4 0 0) 5 fun x => { x with held := true })) (fun t => portState t 5 == 1 && pget t 5 14 == 1) = true ∧
    gives (exec (.laneLockLoss 5) (s 3 0 0)) (fun t => portState t 5 == 2) = true ∧
    canWrite (s 4 0 0) .dap 0x5015 4 = true ∧
    gives (exec (.fabPortHoldDown .dap 5) (s 4 0 0)) (fun t => portState t 5 == 1) = true ∧ gives (exec (.fabPortRetrain .dap 5) (s 1 0 0)) (fun t => portState t 5 == 2) = true := by decide +kernel
/-- The bytes under the FCRC of a DATA flit that holds one packet of 48 bytes. -/
theorem flit_bytes : ∀ n ∈ [4236585022, 0],
    toLE 2 0x1FFF0 ++ toLE 1 1 ++ slice (flitBody (flitOf (packetBytes (packet 1 0x100 [1, 2, 3])) n)) 0 636 =
      toLE 2 0x1FFF0 ++ toLE 1 1 ++ (packetBytes (packet 1 0x100 [1, 2, 3]) ++ zeros 588) := by decide +kernel
/-- Its FCRC. -/
theorem flit_crc : ∀ n ∈ [4236585022, 0], fcrc 0x1FFF0 (flitBody (flitOf (packetBytes (packet 1 0x100 [1, 2, 3])) n)) = 4236585022 := by
  intro n h
  rw [fcrc, show bits 0x1FFF0 16 4 = 1 from by decide +kernel, flit_bytes n h, crc32c, foldl_folded]
  decide +kernel
/-- A flit with the FCRC of its bytes, in sequence and not, and one with another FCRC. -/
theorem witness_FlitsAndRetry_received :
    let p := packet 1 0x100 [1, 2, 3]
    let f (n : Nat) := flitOf (packetBytes p) n
    let u (q : Nat) : State := withPort (numbered ready) 0 4 fun x => { x with expSeq := q }
    (fcrc 0x1FFF0 (flitBody (f 4236585022)) = ofLE (slice (flitBody (f 4236585022)) 636 4) ∧ fcrc 0x1FFF0 (flitBody (f 0)) ≠ ofLE (slice (flitBody (f 0)) 636 4)) ∧
    (portState (u 4095) 0 = 4 ∧ flitCtrl (f 0) = 0x1FFF0 ∧ flitCtrl (f 4236585022) = 0x1FFF0 ∧ bits 0x1FFF0 16 4 = 1 ∧ bits 0x1FFF0 4 12 = 4095 ∧ (u 4095).fab.port[(0 : Fin 6)].expSeq = 4095 ∧
      (u 0).fab.port[(0 : Fin 6)].expSeq = 0 ∧ (u 0).fab.port[(0 : Fin 6)].identity = none ∧
      bit (ofLE (slice (flitBody (f 4236585022)) 608 28)) 83 = false ∧ parsePackets 40 (slice (flitBody (f 4236585022)) 0 608) [] = ([p], [], false)) := by
  refine ⟨⟨?_, ?_⟩, by decide +kernel⟩
  · rw [flit_crc _ (by decide)]; decide +kernel
  · rw [flit_crc _ (by decide)]; decide +kernel
/-- Port 0 UP: a flit beyond correction; a full replay; each kind of flit sent. -/
theorem witness_FlitsAndRetry :
    let p := packet 1 0x100 [1, 2, 3]
    let u : State := withPort (numbered ready) 0 4 id
    let v : State := modPort { u with now := 9000 } 0 fun x => { x with retry := [(7, 3, [], 5000)], replayAt := some 7000, nakSeen := true }
    let e := (6, (poolOf p).val, p)
    let x : State := modPort u 0 fun x => { x with txq := [e], txSeq := 4095 }
    gives (exec (.flitReceive 0 { flitOf [] 0 with fecOk := false }) u) (fun t => t.fab.port[(0 : Fin 6)].nak && pget t 0 11 == 1) = true ∧
    (0 + 1 < oget v 0x5003 0) ∧
    gives (exec (.replayNakTimer 0) v) (fun t => t.fab.port[(0 : Fin 6)].replay == [7] && t.fab.port[(0 : Fin 6)].replays == 1 && pget t 0 13 == 1) = true ∧
    gives (exec (.ackWaitTimer 0) v) (fun t => t.fab.port[(0 : Fin 6)].replay == [7]) = true ∧
    gives (exec (.ackWaitTimer 0) { v with now := 8999 }) (fun t => t.fab.port[(0 : Fin 6)].replay == []) = true ∧
    gives (exec (.flitTransmit 0) (modPort u 0 fun x => { x with ctl := [toLE 1 1 ++ zeros 31] })) (fun t => t.fab.port[(0 : Fin 6)].ctl == [] && t.outs.length == 1) = true ∧
    gives (exec (.flitTransmit 0) u) (fun t => t.fab == u.fab && t.outs.length == 1) = true ∧
    (hasCredit x.fab.port[(0 : Fin 6)] p = true ∧ (packetBytes p).length = 48) ∧
    gives (exec (.flitTransmit 0) x) (fun t => t.fab.port[(0 : Fin 6)].txq == [] && t.fab.port[(0 : Fin 6)].txSeq == 0 && t.fab.port[(0 : Fin 6)].retry.map (fun e => e.1) == [4095]) = true ∧
    gives (exec (.fecRateCheck 0 9) (modPort (oset u 0x5008 0 5) 0 fun x => { x with corr := 6 }))
      (fun t => lastEvent t == some (0x0305, payOf [(16, 0), (17, 1), (20, 6)]) && t.fab.port[(0 : Fin 6)].corr == 0) = true ∧
    gives (exec (.fecRateCheck 0 9) (modPort (oset u 0x5008 0 6) 0 fun x => { x with corr := 6 })) (fun t => t.evlog.isEmpty) = true := by decide +kernel
/-- A packet for this module and for a neighbour; requests allowed and refused; answers, a late one and a stray one; route entries. -/
theorem witness_RoutersAndRequests :
    let n := withPort (objs (numbered ready) [(0x5004, 0, 255)]) 0 4 id
    let q (d : Nat) : State := { n with fab := { n.fab with queue := [(3, { packet 1 0x100 [5] with dest := d })] } }
    let i (p : Packet) : State := { n with mem := memPut [] 0x200 [7, 8], fab := { n.fab with inbox := [(3, p)] } }
    let rsp : Packet := { packet 9 0 [1, 2] with srcUnit := 0x10, tag := 3 }
    let r (w : Purpose) : Req := { pkt := { packet 1 0x200 (zeros 64) with srcUnit := 0x10, tag := 3 }, due := 50, why := w }
    let z : State := modCore { i rsp with reqs := [r (.winLoad 1)] } 1 fun k => { k with status := .winLoad 5 8 false 0 true none }
    let f : FaultRep := { part := 0, code := 0, time := 0, cluster := 1, engine := 1, pc := 8, addr := 16, detail := 0, cold := false, instr := 0, cflags := 0 }
    let y : State := { i { rsp with type := 8 } with reqs := [r (.send 1 4 5 f)] }
    (unnumbered n = false ∧ unavail n = false ∧ paired n = false ∧ bits (routeOf n 0) 0 3 = 6 ∧ bits (routeOf n 1) 0 3 = 0 ∧ validModule n 1 = true ∧ portUp n 0 = true) ∧
    gives (exec (.packetForward 0 .none false 0) (q 0)) (fun t => t.fab.queue == [] && t.fab.inbox == [(3, packet 1 0x100 [5])]) = true ∧
    gives (exec (.packetForward 0 .none false 0) (q 1)) (fun t => t.fab.port[(0 : Fin 6)].txq.map (fun y => (y.1, y.2.2.hops, y.2.2.data)) == [(3, 1, [5])]) = true ∧
    gives (exec (.packetForward 0 .corrected false 0) (q 0)) (fun t => t.fab.queue == [] && t.fab.eccCorr.toList.foldl (· + ·) 0 == 1) = true ∧
    (inCollInbox n 0x100 = false ∧ protKey n 1 0x100 2 3 = true ∧ protKey n 1 (clapAddr 16383) 64 3 = true ∧ protKey n 2 0x100 2 3 = false) ∧
    gives (exec (.fabWriteRequest 0) (i (packet 1 0x1FF [1, 2]))) (fun t => rdBytes t 0x1FE 5 == [0, 1, 2, 8, 0] && t.fab.queue.map (fun x => x.2.opc) == [0]) = true ∧
    gives (exec (.fabWriteRequest 0) (i { packet 1 0x1FF [1, 2] with job := 2 })) (fun t => rdBytes t 0x1FE 5 == [0, 0, 7, 8, 0] && t.fab.queue.map (fun x => x.2.opc) == [1]) = true ∧
    gives (exec (.fabReadRequest 0 .none) (i { packet 2 0x200 [] with len := 2 })) (fun t => t.fab.queue.map (fun x => (x.2.opc, x.2.data, x.2.poison)) == [(0, [7, 8], 0)]) = true ∧
    gives (exec (.fabReadRequest 0 .none) { i { packet 2 (clapAddr 16383) [] with len := 8 } with clapVal := [(16383, 7)] }) (fun t => t.fab.queue.map (fun x => (x.2.opc, x.2.data)) == [(0, [7, 0, 0, 0, 0, 0, 0, 0])]) = true ∧
    (region (clapAddr 16383) = .clap 16383 ∧ anyMesh (i (packet 1 0 [])) (entryUnit 3 (packet 1 0 [])) 0x200 2 = false) ∧
    gives (exec (.fabReadRequest 0 .none) (i { packet 2 0x200 [] with len := 2, job := 0 })) (fun t => t.fab.queue.map (fun x => (x.2.opc, x.2.data)) == [(1, [])]) = true ∧
    gives (exec (.fabClapRequest 0) (i { packet 3 (clapAddr 16383) (toLE 8 4 ++ zeros 8) with opc := 6 })) (fun t => clapsOut t == [(6, 16383, 4)]) = true ∧
    gives (exec (.fabClapRequest 0) (i { packet 3 (clapAddr 16383) (toLE 8 4 ++ zeros 8) with opc := 7 })) (fun t => t.clapOps.isEmpty && t.fab.queue.map (fun x => x.2.opc) == [1]) = true ∧
    (isResp rsp = true ∧ reqFor z rsp = some (r (.winLoad 1)) ∧ reqFor (i rsp) rsp = none) ∧
    gives (exec (.fabRespArrival 0) z) (fun t => t.reqs == [] && t.cl[(1 : Fin 8)].core.status == .winLoad 5 8 false 0 true (some (0, false, [1, 2]))) = true ∧
    gives (exec (.sendWriteAck 1 0) y) (fun t => t.reqs == [] && cget t 1 0x4051 1 == 64) = true ∧
    gives (exec (.fabRespArrival 0) (i rsp)) (fun t => t.fab.inbox == [] && oget t 0x5007 3 == 1) = true ∧
    gives (exec (.fabRespTimeout 0x10 3) { z with now := 50 }) (fun t => t.reqs == [] && t.cl[(1 : Fin 8)].core.status == .winLoad 5 8 false 0 true (some (12, false, []))) = true ∧
    (canWrite n .dap 0x5005 0 = true ∧ routeOk n 0 6 = true ∧ routeOk n 32767 15 = true) ∧
    gives (exec (.fabRouteWrite .dap 32766 [1, 15]) n) (fun t => routeOf t 32767 == 15 && routeOf t 32766 == 1 && lastEvent t == some (0x0307, payOf [(16, 32766), (20, 2), (24, 1)])) = true ∧
    gives (exec (.fabRouteDefault .dap) { n with fab := { n.fab with route := [(1, 9)] } }) (fun t => routeOf t 1 == 0) = true := by decide +kernel

/-! Collectives. -/

/-- The 64 bytes of an entry of a kind with flags, peer and signal; chunks of 2,048 bytes. -/
def sheetEntry (kind flags peer sig inc src dst count : Nat) : List Byte :=
  zeros 14 ++ toLE 1 flags ++ toLE 1 kind ++ toLE 2 sig ++ toLE 2 inc ++ zeros 3 ++ toLE 1 11 ++ toLE 2 peer ++ zeros 6 ++ toLE 8 src ++ toLE 8 dst ++ zeros 8 ++ toLE 4 count ++ zeros 4
/-- Group 255 of partition 0 with members `l`, status clapper 100, one slot of a sheet at 0x2000 whose entries lie at 0x3000, and state st; seq is next. -/
def group (l : List Nat) (st seq : Nat) (f : CollGroup) : State :=
  { objs (numbered ready) [(0x51FF, 1, 1), (0x51FF, 2, 0), (0x51FF, 6, 100), (0x51FF, 7, 0x2000), (0x51FF, 8, 1), (0x51FF, 9, seq), (0x51FF, 11, st)] with
    coll := { ready.coll with members := [(255, l)], groups := [(255, f)] } }
/-- A running collective of SEQ 7 with entries and lanes. -/
def collRun (es : List CollEntry) (send : List SendLane) (recv : List RecvLane) : CollGroup :=
  { CollGroup.idle with run := some { seq := 7, sigClap := 9, sigInc := 2, entries := es, send := send, recv := recv, fwd := [] } }
/-- An entry at a stage. -/
def stagedEntry (b : List Byte) (stage : Nat) : CollEntry := { bytes := b, stage := stage, armedAt := 0, outst := 0, joined := false }
/-- A sending and a receiving lane of entry 0 with rank 1. -/
def sLane : SendLane := { k := 0, lane := 2, peer := 1, dir := 2, isOpen := true, dst := 0x5000, next := 3, acked := 1, resend := [], flying := [], at_ := 0 }
def rLane : RecvLane := { k := 0, lane := 2, peer := 1, dir := 2, count := 2, beyond := [], told := 1, since := some 0, asked := [], last := none, at_ := 0 }
/-- A message from rank 1 of SEQ 7 about entry 0 and lane 2, with its MCRC. -/
def mess (ty num att len addr crc : Nat) : List Byte :=
  let b := zeros 8 ++ toLE 1 ty ++ [255, 2, 0] ++ toLE 1 att ++ [0] ++ zeros 20 ++ toLE 2 1 ++ toLE 4 7 ++ toLE 4 num ++ toLE 4 len ++ toLE 8 addr ++ toLE 4 crc
  b ++ toLE 4 (crc32c b)

/-- A launch; a sheet that is good and one whose slot is outside every region; a starved launch. -/
theorem witness_CollectivesLaunchAndEnd_launched :
    let e := sheetEntry 4 1 0 0 0 0 0 0
    let slot : List Byte := zeros 8 ++ toLE 8 0x3000 ++ toLE 2 1 ++ zeros 46
    let l : State := { group [0] 0 4294967295 CollGroup.idle with freed := [.launch 255] }
    let c (m : Nat) : State := { group [0] 1 8 { CollGroup.idle with waiting := [(7, 5)] } with mem := memPut (memPut [] 0x2000 slot) m e }
    let f : State := oset (c 0x3000) 0x51FF 7 0x5000000000
    let v : State := { oset (group [0] 1 8 { CollGroup.idle with waiting := [(7, 5)] }) 0x5021 0 1 with now := 1000005 }
    (gget l 255 1 = 1 ∧ drained l = false ∧ mayStart l = true) ∧
    gives (exec (.grpLaunch 255) l) (fun t => (groupOf t 255).waiting == [(4294967295, l.now)] && gget t 255 9 == 0 && gget t 255 11 == 1) = true ∧
    (oldestLaunch (c 0x3000) = some (255, 7, 5) ∧ contextsUsed (c 0x3000) < 64 ∧ dirEngine (c 0x3000) 255 0 0 = 1 ∧ rdBytes (c 0x3000) 0x2000 64 = slot ∧
      slotCheck (c 0x3000) 255 1 0x2000 slot = none ∧ entryCheck (c 0x3000) 255 1 0x3000 e false = none ∧ eFlag e 0 = true) ∧
    gives (exec (.contextTake 1) (c 0x3000)) (fun t => (groupOf t 255).run.map (fun r => (r.seq, r.entries.map (fun x => (x.bytes, x.stage)))) == some (7, [(e, 1)]) && gget t 255 11 == 2) = true ∧
    slotCheck f 255 1 0x5000000000 (zeros 64) = some (6, 4, 3, 0x5000000000) ∧
    gives (exec (.contextTake 1) f) (fun t => (groupOf t 255).run == none && gget t 255 11 == 0 && reports t == [(6, 9, 0, 0x5000000000, det 4 3 0xFF 255)]) = true ∧
    gives (exec (.collStarve 255 7) v) (fun t => (groupOf t 255).waiting == [] && reports t == [(0x0B, 9, 0, 0, det 10 3 0xFF 255)]) = true ∧
    gives (exec (.collStarve 255 7) { v with now := 1000004 }) (fun t => (groupOf t 255).waiting.length == 1) = true := by decide +kernel
/-- A quiet ring entry, the last and not the last entry; a lane without progress; a release; an ACK that is due. -/
theorem witness_CollectivesLaunchAndEnd :
    let e := sheetEntry 4 0 0 11 3 0 0 0
    let g (es : List CollEntry) : State := group [0] 2 8 (collRun es [] [])
    let p (now : Nat) : State := { oset (group [0, 1] 2 8 (collRun [stagedEntry (sheetEntry 1 0 1 0 0 0x10000 0x10000 65536) 2] [sLane] [rLane])) 0x5022 0 1 with now := now }
    let x : State := group [0] 3 8 (collRun [] [] [])
    (entryQuiet (g []) 255 { seq := 7, sigClap := 9, sigInc := 2, entries := [], send := [], recv := [], fwd := [] } 0 (stagedEntry e 2) = true ∧ isRing e = false ∧
      isRing (sheetEntry 8 0 0 0 0 0 0 0) = true) ∧
    gives (exec (.entryDone 255 7 0) (g [stagedEntry (sheetEntry 8 0 0 0 0 0 0 0) 2])) (fun t => clapsOut t == [(2, 101, 1)] && (groupOf t 255).run.map (fun r => r.entries.map (fun x => (x.stage, x.joined))) == some [(2, true)]) = true ∧
    gives (exec (.entryDone 255 7 1) (g [stagedEntry e 3, stagedEntry e 2])) (fun t => clapsOut t == [(2, 11, 3), (2, 9, 2)] && (groupOf t 255).run == none && gget t 255 11 == 0 && oget t 0x5026 1 == 1) = true ∧
    gives (exec (.entryDone 255 7 0) (g [stagedEntry e 2, stagedEntry e 1])) (fun t => clapsOut t == [(2, 11, 3)] && (groupOf t 255).run.map (fun r => r.entries.map (fun x => x.stage)) == some [3, 1]) = true ∧
    gives (exec (.collProgressTimeout 255 7) (p 1000000)) (fun t => gget t 255 11 == 3 && reports t == [(12, 9, 0, 0, det 8 4 0 255)]) = true ∧
    gives (exec (.collProgressTimeout 255 7) (p 999999)) (fun t => gget t 255 11 == 2) = true ∧
    gives (exec (.collInstanceRelease 255 7) x) (fun t => (groupOf t 255).run == none && gget t 255 11 == 0) = true ∧
    gives (exec (.collAckTimer 255 7 0) (p 2000)) (fun t => t.reqs.length == 1 && (groupOf t 255).run.map (fun r => r.recv.map (fun y => (y.told, y.since))) == some [(2, none)]) = true ∧
    gives (exec (.collAckTimer 255 7 0) (p 1999)) (fun t => t.reqs.isEmpty) = true := by decide +kernel
/-- Each type of message, each with its effect; a stray one; a chunk good, bad once and bad twice; a chunk that leaves. -/
theorem witness_CollectiveMessages :
    let e := stagedEntry (sheetEntry 1 0 1 0 0 0x10000 0x10000 8192) 2
    let run (s : List SendLane) (r : List RecvLane) (m : List Byte) : State :=
      { group [0, 1] 2 8 (collRun [e] s r) with coll := { (group [0, 1] 2 8 (collRun [e] s r)).coll with msgs := [(1, 1, m)] }, mem := memPut [] 0x6000 [1, 2, 3, 4] }
    let g := group [0, 1] 2 8 (collRun [e] [] [])
    let r0 : CollRun := { seq := 7, sigClap := 9, sigInc := 2, entries := [e, e], send := [], recv := [], fwd := [] }
    let i : State := { g with coll := { g.coll with groups := [(255, CollGroup.idle)], msgs := [(0, 1, mess 2 0 0 0 0 0)] } }
    let h := grpHash g 255
    let dc := crc32c [1, 2, 3, 4]
    let c : State := { run [{ sLane with next := 1 }] [] [] with mem := memPut [] 0x10800 [9, 8] }
    (strayWhy i (mess 2 0 0 0 0 0) = some 3 ∧ strayWhy (run [] [] []) (mess 2 0 0 0 0 h) = none) ∧
    gives (exec (.rts 0) i) (fun t => t.coll.msgs == [] && oget t 0x5026 8 == 1) = true ∧
    gives (exec (.rts 0) { oset i 0x51FF 9 7 with coll := i.coll }) (fun t => (groupOf t 255).heldRts.length == 1) = true ∧
    gives (exec (.rts 0) (run [] [] (mess 2 0 0 0 0 h))) (fun t => t.reqs.length == 1 && (groupOf t 255).run.map (fun r => r.recv.map (fun l => (l.k, l.lane, l.peer, l.count))) == some [(0, 2, 1, 0)]) = true ∧
    (laneBusy (run [] [] (mess 2 0 0 0 0 h)) 255 r0 2 = false ∧ laneBusy (run [] [] (mess 2 0 0 0 0 h)) 255 { r0 with recv := [{ rLane with k := 1 }] } 2 = true) ∧
    gives (exec (.rts 0) (run [] [{ rLane with k := 1 }] (mess 2 0 0 0 0 h))) (fun t => t.reqs.isEmpty && (groupOf t 255).heldRts.map (fun y => y.1) == [2]) = true ∧
    gives (exec (.cts 0) (run [{ sLane with isOpen := false }] [] (mess 3 0 0 0 0x7000 h))) (fun t => (groupOf t 255).run.map (fun r => r.send.map (fun l => (l.isOpen, l.dst))) == some [(true, 0x7000)]) = true ∧
    gives (exec (.cts 0) (run [{ sLane with isOpen := false }] [] (mess 3 0 0 0 0x7000 (h + 1)))) (fun t => gget t 255 11 == 3 && reports t == [(3, 9, 0, 0, det 6 4 0 255)]) = true ∧
    gives (exec (.ack 0) (run [sLane] [] (mess 4 9 0 0 0 0))) (fun t => (groupOf t 255).run.map (fun r => r.send.map (fun l => l.acked)) == some [3]) = true ∧
    gives (exec (.rereq 0) (run [sLane] [] (mess 5 2 0 0 0 0))) (fun t => (groupOf t 255).run.map (fun r => r.send.map (fun l => l.resend)) == some [[2]]) = true ∧
    gives (exec (.chunk 0) (run [] [rLane] (mess 1 2 0 4 0x6000 dc))) (fun t => (groupOf t 255).run.map (fun r => r.recv.map (fun l => l.count)) == some [3]) = true ∧
    gives (exec (.chunk 0) (run [] [rLane] (mess 1 2 0 4 0x6000 (dc + 1)))) (fun t => t.reqs.length == 1 && (lastEvent t).map (fun x => x.1) == some 0x0402 && (groupOf t 255).run.map (fun r => r.recv.map (fun l => (l.count, l.asked))) == some [(2, [2])]) = true ∧
    gives (exec (.chunk 0) (run [] [rLane] (mess 1 2 1 4 0x6000 (dc + 1)))) (fun t => gget t 255 11 == 3 && reports t == [(0x0A, 9, 0, 0x6000, det 7 1 0 255)]) = true ∧
    (nextGroup c 0).map (fun x => (x.1, x.2.2.1, x.2.2.2.1.start, x.2.2.2.1.n, x.2.2.2.2)) = some (255, 1, 2048, 2048, 0) := by decide +kernel

/-! Dailies. -/

/-- A page order from a pool for queue pair 1,023, its destination at 0x99000; `z` is in its reserved bytes. -/
def pageOrder (z : Nat) : List Byte :=
  toLE 8 0x99000 ++ toLE 4 7 ++ toLE 2 1023 ++ [0] ++ toLE 1 1 ++ toLE 8 5 ++ toLE 4 16 ++ toLE 2 1 ++ toLE 2 2 ++ toLE 1 16 ++ toLE 1 0 ++ [0, 0] ++ toLE 4 2 ++
    zeros 8 ++ toLE 4 0 ++ toLE 2 3 ++ toLE 2 1 ++ toLE 4 0 ++ toLE 4 z
/-- A seal order of sequence 5 that names n pages. -/
def sealOrder (n : Nat) : List Byte := toLE 8 0x99000 ++ toLE 4 7 ++ toLE 2 1023 ++ [0] ++ toLE 1 3 ++ toLE 8 5 ++ toLE 4 n ++ zeros 36
/-- Binding 31 enabled on engine 1 and reel 31 of cluster 7, a dailies reel of 4 slots; queue pair 1,023 of partition 0 with state st; pool 0; ports UP. -/
def dailies (st : Nat) (x : Qp) : State :=
  { objs ready [(0x6010, 32, 0x81FF), (0x31FF, 1, 0x100), (0x31FF, 2, 64), (0x31FF, 3, 4), (0x31FF, 4, 4), (0x31FF, 5, 3), (0x31FF, 6, 3),
      (0x6011, 1, 0x10000 + 0x20000 * 2 ^ 64 + 0x30000 * 2 ^ 128 + 0x40000 * 2 ^ 192), (0x64FF, 1, st), (0x64FF, 3, 0), (0x64FF, 5, 9), (0x64FF, 6, 0xA000001),
      (0x64FF, 9, 1024), (0x64FF, 0x0A, 0xFFFFFF), (0x64FF, 0x0B, 10), (0x64FF, 0x0C, 7), (0x64FF, 0x0D, 6), (0x64FF, 0x0E, 800000), (0x64FF, 0x0F, 0xFFFFFF), (0x6006, 1, 3), (0x6006, 2, 3)] with
    dly := { ready.dly with qps := [(1023, x)] } }
/-- A committed order in slot 3 of that reel. -/
def ordered (o : List Byte) : State :=
  let s := objs (dailies 1 Qp.idle) [(0x31FF, 7, 1), (0x31FF, 8, 1), (0x31FF, 6, 0)]
  { s with mem := memPut s.mem (slotAddr s 7 31 3) o }
/-- A seal message composed with n of one packet sent, its PSN 0xFFFFFF. -/
def sealMsg (n total : Nat) : DlyMsg :=
  { order := sealOrder 2, binding := 31, trk := some 4, head := zeros 64, trailer := [], psn := 0xFFFFFF, sent := n, total := total }
/-- A queue pair with messages and with PSN 0xFFFFFF and 0 not acknowledged since time 0. -/
def qpWith (m : List DlyMsg) (l : List (Nat × Nat)) : Qp := { Qp.idle with una := 0xFFFFFF, msgs := m, unacked := l, tokens := 1024 * 8000 }

/-- Commands of queue pair 1,023; a post at the ring's last slot; orders good and bad; a port. -/
theorem witness_OrdersAndQueuePairs :
    let d (st : Nat) := dailies st (qpWith [sealMsg 0 0] [])
    let p := dailies 1 Qp.idle
    let down (s : State) (st : Nat) := oset s 0x6006 2 st
    (canWrite p .dap 0x64FF 2 = true ∧ canWrite p .dap 0x6012 32 = true ∧ bindCluster p 31 = 7 ∧ bindReel p 31 = 31 ∧ reelFree p 7 31 = true ∧ (reelOf p 7 31).resv = [] ∧
      dailiesServe p = true ∧ mayStart p = true ∧ paired p = false) ∧
    gives (exec (.qpArm .dap 1023) (d 0)) (fun t => qget t 1023 1 == 1 && qget t 1023 0x0F == 0xFFFFFF && (qpOf t 1023).msgs == [] && (qpOf t 1023).una == 0xFFFFFF) = true ∧
    gives (exec (.qpErrorCmd .dap 1023) (d 1)) (fun t => qget t 1023 1 == 2 && (qpOf t 1023).msgs == [] && qget t 1023 17 == 1) = true ∧
    gives (exec (.qpResetCmd .dap 1023) (d 2)) (fun t => qget t 1023 1 == 0) = true ∧
    gives (exec (.dlyPost .dap 31 (pageOrder 0)) p) (fun t => rdBytes t (slotAddr p 7 31 3) 64 == pageOrder 0 && [6, 7, 8].map (rlGet t 7 31) == [0, 1, 1]) = true ∧
    (∀ z ∈ [0, 1], bindReady (ordered (pageOrder z)) 1 31 = true ∧ reelNext (ordered (pageOrder z)) 7 31 = 3) ∧
    orderBad (reelClaim (ordered (pageOrder 0)) 7 31) 31 3 (pageOrder 0) = none ∧ orderBad (reelClaim (ordered (pageOrder 1)) 7 31) 31 3 (pageOrder 1) = some (3, 2, 0) ∧
    gives (exec (.dlyOrderClaim 1) (ordered (pageOrder 0))) (fun t => (qpOf t 1023).msgs.map (fun m => (m.order, m.binding)) == [(pageOrder 0, 31)] && [5, 7, 8].map (rlGet t 7 31) == [0, 0, 0]) = true ∧
    gives (exec (.dlyOrderClaim 1) (ordered (pageOrder 1))) (fun t => reports t == [(3, 10, 0, slotAddr p 7 31 3, det 2 0 0 31)] && (qpOf t 1023).msgs == []) = true ∧
    gives (exec (.ethLinkUp 1) (down p 1)) (fun t => oget t 0x6006 2 == 3 && lastEvent t == some (0x0505, payOf [(16, 1)])) = true ∧
    gives (exec (.ethLinkDown 1) p) (fun t => oget t 0x6006 2 == 1 && lastEvent t == some (0x0506, payOf [(16, 1), (17, 0)])) = true := by decide +kernel
/-- PSNs at the wrap: each acknowledgement, notice and timeout; a new packet and a repeated one; an ARP request and a frame of an unknown type. -/
theorem witness_RoceTraffic :
    let x := qpWith [sealMsg 1 1] [(0xFFFFFF, 0), (0, 0)]
    let s (f : Qp → Qp) : State := { dailies 1 (f x) with now := 4096 * 1024, tc := 60000 }
    let n := dailies 1 (qpWith [sealMsg 0 1] [])
    let r := dailies 1 { x with again := some 0xFFFFFF, tokens := 1024 * 8000 }
    let p := oset n 0x6003 2 0x0A000001
    let arp : List Byte := List.replicate 12 9 ++ toBE 2 0x0806 ++ toBE 2 1 ++ toBE 2 0x0800 ++ toBE 1 6 ++ toBE 1 4 ++ toBE 2 1 ++ List.replicate 6 8 ++ toBE 4 5 ++ zeros 6 ++ toBE 4 0x0A000001
    (ethUp n 1 = true ∧ nextQp n 1 = some 1023 ∧ nextPacket n 1023 = some (sealMsg 0 1, 0, false) ∧ nextQp r 1 = some 1023 ∧ nextPacket r 1023 = some (sealMsg 1 1, 0, true)) ∧
    gives (exec (.rocePacketTransmit 1) n) (fun t => qget t 1023 0x0F == 0 && (qpOf t 1023).unacked == [(0xFFFFFF, 0)] && t.outs.length == 1) = true ∧
    gives (exec (.rocePacketTransmit 1) r) (fun t => qget t 1023 0x0F == 0xFFFFFF && qget t 1023 18 == 1) = true ∧
    (psnOut x 0xFFFFFF = true ∧ psnOut x 0 = true ∧ psnOut x 1 = false) ∧
    gives (exec (.roceAck 1023 0) (s id)) (fun t => (qpOf t 1023).una == 1 && (qpOf t 1023).unacked == [] && (qpOf t 1023).msgs == []) = true ∧
    gives (exec (.roceAck 1023 0xFFFFFF) (s id)) (fun t => (qpOf t 1023).una == 0 && (qpOf t 1023).unacked == [(0, 0)]) = true ∧
    gives (exec (.roceNakSequence 1023 0) (s id)) (fun t => (qpOf t 1023).again == some 0) = true ∧
    gives (exec (.roceRnrNak 1023 0 1) (s fun x => { x with rnrTries := 5 })) (fun t => (qpOf t 1023).rnr == some (4096 * 1024 + 10000, 0) && (qpOf t 1023).rnrTries == 6) = true ∧
    gives (exec (.roceRnrNak 1023 0 1) (s fun x => { x with rnrTries := 6 })) (fun t => qget t 1023 1 == 2) = true ∧
    gives (exec (.roceNakFatal 1023 0 2) (s id)) (fun t => qget t 1023 1 == 2 && (qpOf t 1023).msgs == []) = true ∧
    gives (exec (.rnrTimerExpiry 1023) (s fun x => { x with rnr := some (4096 * 1024, 0) })) (fun t => (qpOf t 1023).again == some 0) = true ∧
    gives (exec (.cnpReceive 1023) (s id)) (fun t => qget t 1023 0x0E == 600000 && (qpOf t 1023).cnpSeen && (qpOf t 1023).lastCut == 60000) = true ∧
    gives (exec (.cnpReceive 1023) (s fun x => { x with lastCut := 10001 })) (fun t => qget t 1023 0x0E == 800000 && qget t 1023 19 == 1) = true ∧
    gives (exec (.qpAckTimeout 1023) (s id)) (fun t => qget t 1023 0x0E == 400000 && (qpOf t 1023).again == some 0xFFFFFF && (qpOf t 1023).tries == 1) = true ∧
    gives (exec (.qpAckTimeout 1023) (s fun x => { x with tries := 7 })) (fun t => qget t 1023 1 == 2) = true ∧
    gives (exec .ccPeriod (oset (s id) 0x64FF 0x0E 700000)) (fun t => qget t 1023 0x0E == 740000) = true ∧
    (let y : State := { s id with now := 999, dly := { (s id).dly with ccAt := 0 } }
     y.now < y.dly.ccAt + oget (oset y 0x6022 0 1) 0x6022 0 * 1000 ∧ gives (exec .ccPeriod (oset (oset y 0x6022 0 1) 0x64FF 0x0E 700000)) (fun t => qget t 1023 0x0E == 700000) = true ∧
       gives (exec .ccPeriod (oset (oset { y with now := 1000 } 0x6022 0 1) 0x64FF 0x0E 700000)) (fun t => qget t 1023 0x0E == 740000) = true) ∧
    gives (exec .ccPeriod (oset (s fun x => { x with cnpSeen := true }) 0x64FF 0x0E 700000)) (fun t => qget t 1023 0x0E == 700000 && !(qpOf t 1023).cnpSeen) = true ∧
    oget p 0x6005 2 = 0 ∧ gives (exec (.ethFrameReceive 1 arp) p) (fun t => t.outs.length == 1 && oget t 0x6007 2 == 0) = true ∧
    gives (exec (.ethFrameReceive 1 (zeros 64)) p) (fun t => t.outs.isEmpty && oget t 0x6007 2 == 1) = true := by decide +kernel
/-- A seal order of two pages with 1, 2 and 3 pages counted. -/
theorem witness_SealsFollowTheirPages :
    let k (n a : Nat) : Tracker := { Tracker.fresh 4 1023 5 false with count := n, acked := a, sealed := true }
    let s (n a : Nat) : State :=
      { oset (dailies 1 (qpWith [sealMsg 0 0] [])) 0x6006 2 1 with dly := { (dailies 1 (qpWith [sealMsg 0 0] [])).dly with trackers := [k n a] } }
    (nextMsg (qpOf (s 2 2) 1023) = some (sealMsg 0 0) ∧ isPage (sealOrder 2) = false ∧ trkOf (s 2 2) (some 4) = some (k 2 2) ∧ oFirst (sealOrder 2) = 2 ∧
      ethUp (s 2 2) (qpEngine 1023) = false) ∧
    gives (exec (.sealSend 1023) (s 2 1)) (fun t => t == s 2 1) = true ∧
    gives (exec (.sealSend 1023) (s 3 3)) (fun t => (qpOf t 1023).msgs == [] && trkOf t (some 4) == none && t.outs.all (fun o => match o with
      | .eth _ _ => false
      | _ => true)) = true ∧
    gives (exec (.sealSend 1023) (s 2 2)) (fun t => (qpOf t 1023).msgs.map (fun m => (m.total, m.head.length)) == [(1, 64)] && t.outs.isEmpty) = true := by decide +kernel

/-! The object dictionary, DAP, cuts and the director. -/

/-- A module with DAP up as node 7. -/
def dap : State := objs (numbered ready) [(0x1206, 0, 1), (0x1200, 0, 7)]
/-- An access of mailbox m. -/
def access (m : Nat) (w : Bool) (ix sub : Nat) (data : List Byte) : DictReq := { src := .mailbox m, write := w, ix := ix, sub := sub, flags := 0, node := 0, data := data }
/-- The 12 bytes of a request frame of client 32 and TID 255: command, index, size; then data. -/
def request (cmd ix size : Nat) (data : List Byte) : List Byte := toLE 1 cmd ++ [32, 255, 0] ++ toLE 2 ix ++ [0, 0] ++ toLE 4 size ++ data
/-- A transaction of that client in a phase with size and data. -/
def tx (cmd phase size next block : Nat) (data : List Byte) : DapTx :=
  { client := 32, tid := 255, cmd := cmd, ix := 0x1305, sub := 0, flags := 0, node := 0, size := size, data := data, next := next, block := block, same := 0, phase := phase,
    at_ := 0, since := 0 }
/-- The state with that transaction open. -/
def opened (t : DapTx) : State := { dap with dict := { dap.dict with txs := [t] } }
/-- The frames sent, cut to their first four bytes. -/
def sent (s : State) : List (Nat × List Byte) := s.outs.filterMap fun o => match o with
  | .can i d => some (i, d.take 4)
  | _ => none

/-- Mailboxes 63 and 64; a read and a staged write; a held ring address of an idle and of an enabled queue. -/
theorem witness_MailboxAccesses :
    let busy : State := modMbox ready 63 fun x => { x with status := 1 }
    let full : State := modMbox ready 64 fun x => { x with index := 0x1201, length := 2, data := [(0, 5)] }
    let q (a : DictReq) : State := { ready with dict := { ready.dict with queue := [a] } }
    let r := access 63 false 0x2001 0 []
    let w := access 64 true 0x8031 0 [3]
    let d := access 7 true 0x1201 0 [200, 0]
    let h (en : Nat) : State := { oset ready 0x9107 11 en with dict := { ready.dict with held := [{ ix := 0x9107, sub := 4, val := toLE 8 0x8000, via := .dap, st := false }] } }
    (mboxServed ready 63 = true ∧ mboxServed ready 64 = true ∧ mboxServed ready 65 = false ∧ engineOn ready = true) ∧
    gives (exec (.mailboxWrite 63) busy) (fun t => oget t 0x1210 0 == 1 && t.dict.queue.isEmpty) = true ∧
    gives (exec (.mailboxWrite 64) full) (fun t => t.dict.queue == [access 64 true 0x1201 0 [5, 0]] && (mboxGet t 64).status == 1) = true ∧
    gives (exec (.mailboxRead 63) ready) (fun t => t.dict.queue == [access 63 false 0 0 []]) = true ∧
    gives (exec (.dictAccessComplete false) (q r)) (fun t => (mboxGet t 63).status == 2 && (mboxGet t 63).resultLen == 1 && mget 0 (mboxGet t 63).data 0 == 1) = true ∧
    (canWrite ready (srcIface d.src) 0x1201 0 = true ∧ bootState ready ≠ 11 ∧ objAction ready (srcIface d.src) 0x1201 0 false [200, 0] false = none) ∧
    gives (exec (.dictAccessComplete false) (q d)) (fun t => (mboxGet t 7).status == 2 && staged t 0x1201 0 == 200 && oget t 0x1201 0 == 100) = true ∧
    gives (exec (.dictAccessComplete false) (q w)) (fun t => (mboxGet t 64).status == 2 && staged t 0x8031 0 == 3) = true ∧
    (appliesIdle 0x9107 4 = true ∧ blockIdle (h 0) 0x9107 4 0x8000 = true ∧ blockIdle (h 8) 0x9107 4 0x8000 = false) ∧
    gives (exec (.heldValueApply 0) (h 0)) (fun t => oget t 0x9107 4 == 0x8000 && t.dict.held == []) = true ∧
    gives (exec (.heldValueApply 0) (h 8)) (fun t => oget t 0x9107 4 == 0 && t.dict.held.length == 1) = true := by decide +kernel
/-- Each command of DAP; segments 0 and 16 of a value of 1,021 bytes; timeouts at their limits; a proxied access. -/
theorem witness_DapTransfers :
    let c := crc32c [1, 2, 3]
    let n (t : DapTx) : State := { opened t with now := 20000000 }
    let x : Proxy := { req := { access 63 false 0x1305 0 [] with node := 9 }, sent := false, at_ := 0 }
    let p (b : Bool) : State := { oset dap 0xA020 0 1 with dict := { dap.dict with proxies := [{ x with sent := b }] } }
    (dapHears dap 7 = true ∧ dapHears dap 0 = false ∧ reqBad (request 1 0x1305 0 []) = false ∧ validClient 32 = true ∧ validClient 63 = false ∧ validClient 0 = true) ∧
    gives (exec (.dapRead 7 (request 1 0x1305 0 [])) dap) (fun t => t.dict.queue.map (fun q => (q.src, q.write, q.ix, q.data)) == [(.dap 32 255, false, 0x1305, [])] && t.dict.txs.length == 1) = true ∧
    gives (exec (.dapWrite 7 (request 2 0x1305 52 (zeros 52))) dap) (fun t => t.dict.queue.map (fun q => (q.write, q.data)) == [(true, zeros 52)]) = true ∧
    gives (exec (.segRead 7 (request 3 0x1305 0 [])) dap) (fun t => t.dict.queue.map (fun q => q.write) == [false]) = true ∧
    gives (exec (.segWrite 7 (request 4 0x1305 65536 [])) dap) (fun t => sent t == [(0x207, [4, 32, 255, 0])] && t.dict.txs.map (fun y => y.phase) == [1]) = true ∧
    (segCount 1021 = 18 ∧ txOf (opened (tx 4 1 1021 0 0 [])) 32 255 = some (tx 4 1 1021 0 0 [])) ∧
    gives (exec (.segment 7 ([5, 32, 255, 0] ++ zeros 60)) (opened (tx 4 1 1021 0 0 []))) (fun t => t.dict.txs.map (fun y => (y.next, y.data.length)) == [(1, 60)] && t.outs.isEmpty) = true ∧
    gives (exec (.segment 7 ([5, 32, 255, 16] ++ zeros 60)) (opened (tx 4 1 1021 16 16 []))) (fun t => t.dict.txs.map (fun y => y.next) == [17] && t.outs.isEmpty) = true ∧
    gives (exec (.blockAck 7 [6, 32, 255, 1]) (opened (tx 3 2 3 0 0 [1, 2, 3]))) (fun t => t.outs == [Out.can 0x207 ([7, 32, 255, 0] ++ toLE 4 c)] && t.dict.txs.isEmpty) = true ∧
    gives (exec (.segEnd 7 ([7, 32, 255, 0] ++ toLE 4 c)) (opened (tx 4 1 3 1 0 [1, 2, 3]))) (fun t => t.dict.queue.map (fun q => (q.write, q.data)) == [(true, [1, 2, 3])] && t.outs.isEmpty) = true ∧
    gives (exec (.segEnd 7 ([7, 32, 255, 0] ++ toLE 4 (c + 1))) (opened (tx 4 1 3 1 0 [1, 2, 3]))) (fun t => t.dict.txs.isEmpty && sent t == [(0x207, [7, 32, 255, 1])]) = true ∧
    gives (exec (.dapAbort 7 (request 0x7F 0x1305 0 [])) (opened (tx 4 1 3 1 0 []))) (fun t => t.dict.txs.isEmpty && t.outs.isEmpty) = true ∧
    gives (exec (.dapUnknownCommand 7 [8, 62, 1]) dap) (fun t => sent t == [(0x207, [8, 62, 1, 1])]) = true ∧
    gives (exec (.dapPendingResponse 0) (n (tx 1 0 0 0 0 []))) (fun t => sent t == [(0x207, [1, 32, 255, 2])]) = true ∧
    gives (exec (.dapPendingResponse 0) { n (tx 1 0 0 0 0 []) with now := 19999999 }) (fun t => t.outs.isEmpty) = true ∧
    gives (exec (.dapTransactionTimeout 0) { n (tx 4 1 3 1 0 []) with now := oget dap 0x1204 0 * 1000000 }) (fun t => sent t == [(0x207, [4, 32, 255, 1])] && t.dict.txs.isEmpty) = true ∧
    (isDirector (p false) = true ∧ proxyFree (p false) 9 = true ∧ dapUp (p false) = true) ∧
    gives (exec (.proxyAccess 0 none) (p false)) (fun t => t.outs.length == 1 && t.dict.proxies == [{ x with sent := true }]) = true ∧
    gives (exec (.proxyAccess 0 (some (0, [5]))) (p true)) (fun t => t.dict.proxies == [] && (mboxGet t 63).status == 2 && (mboxGet t 63).resultLen == 1) = true := by decide +kernel
/-- Slot 0 holds the cut in effect with a state, slot 1 another cut; a change of DAP_HEARTBEAT_PERIOD is staged. -/
def cuts (st other : Nat) (l : List (Nat × Nat)) : State :=
  { oset ready 0x1306 0 6 with
    flash := { ready.flash with cur := some 0, slots := #v[some { num := 6, state := st, booted := true, vals := [] }, some { num := 5, state := other, booted := true, vals := [] }] },
    dict := { ready.dict with staged := l } }
/-- Each command in each of its cases. -/
theorem witness_CutCommands :
    let l := [(okey 0x1201 0, 200)]
    let bad := [(okey 0x3030 1, 1024)]
    let e : State := { cuts 1 2 [] with now := 50, dict := { ready.dict with trialEnd := some 50 } }
    (canWrite (cuts 1 2 l) .dap 0x1303 0 = true ∧ canWrite (cuts 1 2 l) (.fn 0) 0x1303 0 = true ∧ stagedChanges (cuts 2 2 []) = [] ∧ stagedChanges (cuts 2 2 l) ≠ [] ∧
      cutRefusal (cuts 2 2 l) l = none ∧ (heldAfter (cuts 2 2 l) l .dap).length ≤ 64 ∧ cutRefusal (cuts 2 2 bad) bad = some (okey 0x3030 1)) ∧
    gives (exec (.cutCommit .dap false) (cuts 1 2 l)) (fun t => t == cuts 1 2 l) = true ∧ gives (exec (.cutCommit .dap false) (cuts 2 2 [])) (fun t => t == cuts 2 2 []) = true ∧
    gives (exec (.cutCommit .dap true) (cuts 2 2 l)) (fun t => t == cuts 2 2 l) = true ∧
    gives (exec (.cutCommit .dap false) (cuts 2 2 bad)) (fun t => oget t 0x1309 0 == okey 0x3030 1 && t.flash == (cuts 2 2 bad).flash) = true ∧
    gives (exec (.cutCommit .dap false) (cuts 2 2 l)) (fun t => t.flash.cur == some 1 && curCut t == some { num := 7, state := 1, booted := false, vals := l } && oget t 0x1201 0 == 200) = true ∧
    prevCut (cuts 2 2 l) = some (1, { num := 5, state := 2, booted := true, vals := [] }) ∧ prevCut (cuts 2 4 l) = none ∧
    gives (exec (.cutRollback (.fn 0)) (cuts 2 2 l)) (fun t => t.flash.cur == some 1 && t.flash.slots[(0 : Fin 2)].map (fun c => c.state) == some 4 && t.dict.staged == []) = true ∧
    gives (exec (.cutRollback (.fn 0)) (cuts 2 4 l)) (fun t => t == cuts 2 4 l) = true ∧
    gives (exec (.cutConfirm .dap) (cuts 1 2 l)) (fun t => (curCut t).map (fun c => c.state) == some 2 && lastEvent t == some (0x0704, payOf [(16, 6)])) = true ∧
    gives (exec (.cutDiscard .dap) (cuts 1 2 l)) (fun t => t.dict.staged == []) = true ∧
    gives (exec .cutTrialExpired e) (fun t => (curCut t).map (fun c => c.state) == some 3 && t.flash.cur == some 0 && lastEvent t == some (0x0705, payOf [(16, 6)])) = true ∧
    gives (exec .cutTrialExpired { e with now := 49 }) (fun t => (curCut t).map (fun c => c.state) == some 1) = true := by decide +kernel
/-- The rule of DISCARD and of values that name no command: 0, 5 and 255. -/
theorem witness_DiscardAndUnknownCutCommands :
    let s := cuts 1 2 [(okey 0x1201 0, 200)]
    (canWrite s .dap 0x1303 0 = true ∧ islandOn s (objIsland 0x1303) = true ∧ bootState s ≠ 11) ∧
    (objWrite s .dap 0x1303 0 0 [4] false).1 = 0 ∧ staged s 0x1201 0 = 200 ∧ staged (objWrite s .dap 0x1303 0 0 [4] false).2 0x1201 0 = 100 ∧
    (∀ v ∈ [0, 5, 255], objWrite s .dap 0x1303 0 0 (toLE 1 v) false = (0x0302, s)) := by decide +kernel
/-- Heartbeats of and to crew and director; node 31 heard and silent; the role claimed at the end of the delay, released and lost. -/
theorem witness_CrewAndDirector :
    let d (m : Nat) : State := { objs dap [(0xA020, 0, 1), (0x1010, 0, 9), (0xA001, 31, ofLE (zeros 3 ++ [10] ++ zeros 16)), (0xA000, 0, 2 ^ 31), (0xA002, 0, 5)] with
      now := 500000000 + m, dir := { dap.dir with crewAt := [(31, m)] } }
    let hb (m : Nat) : List Byte := zeros 16 ++ toLE 4 m
    let c : State := { objs dap [(0x1012, 2, 1), (0xA021, 0, 1000)] with now := 1000000000, dir := { dap.dir with heard := 0 } }
    (dapUp c = true ∧ isDirector c = false ∧ claimDelay c = some 1000 ∧ isDirector (d 0) = true ∧ modNum (d 0) = 9) ∧
    gives (exec .heartbeatSend { dap with now := 100000000, dir := { dap.dir with hbAt := some 0 } }) (fun t => t.outs == [Out.can 0x707 (heartbeat dap)] && t.dir.hbAt == some 100000000) = true ∧
    gives (exec (.heartbeatReceive 31 (hb 3)) (d 7)) (fun t => oget t 0xA001 31 == ofLE (hb 3) && mfind t.dir.crewAt 31 == some 500000007) = true ∧
    gives (exec (.heartbeatReceive 0 (hb 3)) c) (fun t => t.dir.heard == 1000000000 && t.dir.module == 3) = true ∧
    gives (exec (.heartbeatReceive 0 (hb 8)) (d 0)) (fun t => !isDirector t && (lastEvent t).map (fun x => x.1) == some 0x0806) = true ∧
    gives (exec (.heartbeatReceive 0 (hb 9)) (d 0)) (fun t => isDirector t) = true ∧
    gives (exec (.eventFrameReceive 31 (zeros 64)) (d 0)) (fun t => t.dir.crewLog.map (fun e => e.length) == [80] && oget t 0xA010 0 == 1) = true ∧
    gives (exec (.crewSilent 31) (d 0)) (fun t => oget t 0xA000 0 == 0 && (lastEvent t).map (fun x => x.1) == some 0x0708) = true ∧
    gives (exec (.crewSilent 31) { d 0 with now := 499999999 }) (fun t => oget t 0xA000 0 == 2 ^ 31) = true ∧
    gives (exec .directorClaim c) (fun t => isDirector t && oget t 0xA020 0 == 1 && t.outs.getLast?.map (fun o => match o with
      | .can i _ => i
      | _ => 0) == some 0x700) = true ∧
    gives (exec .directorClaim { c with now := 999999999 }) (fun t => !isDirector t) = true ∧
    canWrite (d 0) .dap 0xA023 0 = true ∧ gives (exec (.directorRelease .dap) (d 0)) (fun t => !isDirector t && (lastEvent t).map (fun x => x.1) == some 0x0806) = true ∧
    gives (exec (.dapBusOff 96) (oset dap 0x1206 0 3)) (fun t => oget t 0x1206 0 == 1 && oget t 0x1205 4 == 1 && lastEvent t == some (0x0707, payOf [(16, 96)])) = true := by decide +kernel

/-! The host port, JTAG, resets and start-up. -/

/-- Places in each BAR; a write across a granule of pair 0, poisoned; the JTAG mailbox. -/
theorem witness_HostMemoryAndJtag :
    let s : State := { ready with mem := memPut [] 0x10000000000 [1, 2, 3, 4], clapVal := [(16383, 7)] }
    let r : State := objs s [(0x8101, 4, 63), (0x7001, 0, 2)]
    let j : State := { s with sec := { s.sec with ir := 0x10 } }
    let b : State := modMbox j 64 fun x => { x with status := 1 }
    (pcieUp s = true ∧ hostServed s = true ∧ barOpen s = true ∧ hostPlace 0 4 2 2 = .mem 0x10000000002 ∧ hostMemBad s 0 0x10000000002 2 4 = none ∧
      hostPlace 0 4 0x400FFFC0 8 = .clap 16383 0 ∧ protKey s (jobKey s 0) (clapAddr 16383) 64 4 = true ∧ hostPlace 0 2 0x3000000000 1 = .none ∧
      hostPlace 0 4 0x3E 4 = .mem 0x1000000003E ∧ hostMemBad r 0 0x1000000003E 4 5 = none ∧ inMem 0x1000000003E 4 = true ∧ paired r = true) ∧
    gives (exec (.pcieMemRead 0 4 2 2 .none) s) (fun t => t.outs == [Out.cpl 0 [3, 4] false]) = true ∧
    gives (exec (.pcieMemRead 0 0 0x20 4 .none) s) (fun t => t.outs == [Out.cpl 0 (toLE 4 0x1901) false]) = true ∧
    gives (exec (.pcieMemRead 0 4 0x400FFFC0 8 .none) s) (fun t => t.outs == [Out.cpl 0 (toLE 8 7) false] && oget t (cobj (homeOf s 16383) 0x4070) 1 == 1) = true ∧
    gives (exec (.pcieMemRead 0 2 0x3000000000 1 .none) s) (fun t => oget t 0x9003 1 == 1 && t.outs.head? == some (Out.unsupported 0)) = true ∧
    gives (exec (.pcieMemWrite 0 4 0x3E [5, 6, 7, 8] true .none) r)
      (fun t => rdBytes t 0x1000000003E 4 == [5, 6, 7, 8] && rdBytes t (0x10000000000 + spSize + 0x3E) 4 == [5, 6, 7, 8] && granBad t 0x400000001 && granBad t 0x400000000) = true ∧
    gives (exec (.pcieMemWrite 0 2 0x3000000000 [5] false .none) s) (fun t => oget t 0x9003 7 == 1 && t.mem == s.mem) = true ∧
    (∀ x ∈ [(0, 0xFF), (1, 1), (2, 2), (0x10, 0x10), (0x11, 0xFF), (0x12, 0xFF)], gives (exec (.jtagIrUpdate x.1) s) (fun t => t.sec.ir == x.2) = true) ∧
    gives (exec (.jtagIrUpdate 0) (objs s [(0x2001, 0, 3)])) (fun t => t.sec.ir == 0) = true ∧
    gives (exec .jtagTestLogicReset j) (fun t => t.sec.ir == 1) = true ∧
    (dbgPortOk j 0x10FF8 = true ∧ dbgPortOk j 0x11000 = false ∧ dbgPortOk j 16 = true) ∧
    gives (exec (.dbgPortWrite 0x10FF8 0x0102) j) (fun t => mget 0 (mboxGet t 64).data 0xFFF8 == 2 && mget 0 (mboxGet t 64).data 0xFFF9 == 1) = true ∧
    gives (exec (.dbgPortWrite 16 0x0500000000) j) (fun t => (mboxGet t 64).length == 5 && t.dict.queue.isEmpty) = true ∧
    gives (exec (.dbgPortWrite 16 5) b) (fun t => oget t 0x1210 0 == 1) = true ∧
    gives (exec (.dbgPortRead 0x1000) (modMbox j 64 fun x => { x with data := [(7, 9)] })) (fun t => t.outs == [Out.tdo [0, 0, 0, 0, 0, 0, 0, 9]]) = true := by decide +kernel
/-- Straps 13 and 26, at power-on and at the input threshold; a module reset keeps what they left. -/
theorem witness_StrapsAreSampled :
    let s : State := { objs ready [(0x1012, 1, 5), (0x1012, 2, 1)] with boot := { ready.boot with canTerm := true } }
    let latched (t : State) : Nat × Nat × Bool := (oget t 0x1012 1, oget t 0x1012 2, t.boot.canTerm)
    gives (exec (.powerOnReset 13) s) (fun t => latched t == (5, 0, true)) = true ∧ gives (exec (.powerOnReset 26) s) (fun t => latched t == (2, 0, false)) = true ∧
    gives (exec (.vinThreshold 2 2) { s with boot := { s.boot with kind := 5 } }) (fun t => latched t == (2, 1, true)) = true ∧
    gives (exec (.moduleReset 4) s) (fun t => latched t == (5, 1, true)) = true ∧ gives (exec .modResetNAssert s) (fun t => latched t == (5, 1, true)) = true := by decide +kernel
/-- Each kind of reset, at the limits of their times; PCIe resets with and without a running take. -/
theorem witness_Resets :
    let s : State := { objs (queues ready 0 1) [(0x9013, 0, 3), (0x8001, 0, 2), (0x7006, 0, 1)] with mem := memPut (memPut [] 5 [1]) 0x10000000000 [2], clapVal := [(1, 7)] }
    let due (k : Nat) : State := { s with now := 10, boot := { s.boot with due := some (k, 10) } }
    let prot (l : List Nat) : State := { s with pow := { s.pow with prot := some 1, protAt := l } }
    let new (k c : Nat) (t : State) : Bool := oget t 0x9010 0 == k && oget t 0x9012 0 == c && oget t 0x9013 0 == 4 && t.clapVal.isEmpty && oget t 0x7006 0 == 1 && oget t 0x8001 0 == 2
    let r := withF s fun h => { h with run := some (run 9 2) }
    gives (exec (.powerOnReset 0) s) (fun t => new 0 0 t && t.mem.isEmpty) = true ∧
    gives (exec (.moduleReset 257) s) (new 1 1) = true ∧ gives (exec .modResetNAssert s) (fun t => new 1 1 t && t.boot.held) = true ∧
    gives (exec .modResetNRelease { s with boot := { s.boot with held := true } }) (fun t => !t.boot.held) = true ∧
    gives (exec (.vinThreshold 1 0) s) (fun t => t.boot.kind == 4 && !islandOn t 22 && oget t 0x9013 0 == 3) = true ∧
    gives (exec (.vinThreshold 0 0) { s with boot := { s.boot with kind := 4 } }) (fun t => t.boot.kind == 5) = true ∧
    gives (exec .protectRecovery (prot [1, 2])) (new 1 4) = true ∧ gives (exec .protectRecovery (prot [1, 2, 3601])) (fun t => t.pow.refused) = true ∧
    gives (exec .protectRecovery (prot [1, 2, 3602])) (new 1 4) = true ∧
    canWrite s .dap 0x9014 0 = true ∧ gives (exec (.resetCmdWarm .dap) s) (fun t => t.boot.due == some (2, 10000000)) = true ∧
    gives (exec .resetDelayExpiry (due 1)) (new 1 2) = true ∧ gives (exec .resetDelayExpiry (due 2)) (fun t => new 2 3 t && t.mem == [(5, 1)] && oget t 0x9001 0 == 6) = true ∧
    gives (exec .resetDelayExpiry { due 1 with now := 9 }) (fun t => t.clapVal == [(1, 7)]) = true ∧
    (∀ i ∈ [Instr.hotReset, .linkDisable, .perstN false], gives (exec i s) (fun t => oget t 0x9001 0 == 0 && fnGet t 0 0x0B == 0 && t.clapVal == [(1, 7)]) = true) ∧
    gives (exec (.flr 0) s) (fun t => fnGet t 0 0x0B == 0 && oget t 0x9001 0 == 6) = true ∧
    (let y := oset s 0x2001 0 3
     islandOn y 21 = false ∧ islandOn s 21 = true ∧ gives (exec .hotReset y) (fun t => oget t 0x9001 0 == 0 && fnGet t 0 0x0B == 1) = true ∧ gives (exec (.flr 0) y) (fun t => t == y) = true) ∧
    (∀ g ∈ groupsOf r 0, (groupOf r g).run = none ∧ (groupOf r g).waiting = []) ∧
    gives (exec (.flr 0) r) (fun t => t.hf[(0 : Fin 8)].run == some { run 9 2 with stop := some (.reset, r.tc) } && t.cl[(7 : Fin 8)].core.status == .stopped) = true ∧
    gives (exec (.pcieLinkUp 6 16) s) (fun t => lastEvent t == some (0x0804, payOf [(16, 1), (17, 6), (18, 16)])) = true ∧
    gives (exec .pcieLinkDown s) (fun t => oget t 0x9001 0 == 0 && lastEvent t == some (0x0804, 0)) = true := by decide +kernel
/-- Each step of start-up with each of its outcomes; the waits at their limits. -/
theorem witness_StartUpAndUnits :
    let s (st : Nat) : State := objs ready [(0x9010, 0, st)]
    let k (st n : Nat) : State := { s st with boot := { ready.boot with kind := n } }
    let toStep (o : Host.Outcome State Fault Refusal) (n : Nat) : Bool := gives o fun t => oget t 0x9010 0 == n
    let e (bad : Nat) := exec (.bootStepEnd bad none)
    let c (st : Nat) (b : Bool) : State := { s 2 with flash := { ready.flash with cur := some 1, slots := #v[none, some { num := 6, state := st, booted := b, vals := [] }] } }
    let w (st now : Nat) : State := { s st with now := now, boot := { ready.boot with times := [(5, 10)] } }
    toStep (e 0 (s 0)) 1 = true ∧
    imageReason (s 1) 0 false = 0 ∧ imageReason (s 1) 0 true ≠ 0 ∧ gives (e 1 (s 1)) (fun t => oget t 0x9010 0 == 2 && oget t 0x9017 0 == 1) = true ∧
    gives (e 3 (s 1)) (fun t => oget t 0x9010 0 == 11 && oget t 0x9017 0 == 0xFF && (lastEvent t).map (fun x => x.1) == some 0x0901) = true ∧
    gives (e 0 (oset (s 2) 0x7006 0 1)) (fun t => oget t 0x9010 0 == 3 && drained t) = true ∧
    gives (e 0 (c 2 true)) (fun t => (curCut t).map (fun c => c.num) == some 6) = true ∧
    gives (e 0 (c 1 false)) (fun t => (curCut t).map (fun c => c.booted) == some true) = true ∧
    prevCut (c 1 true) = none ∧ gives (e 0 (c 1 true)) (fun t => curCut t == none && lastEvent t == some (0x0706, payOf [(16, 6), (20, 0), (24, 0)])) = true ∧
    (bootState (k 3 2) = 3 ∧ (k 3 2).boot.held = false) ∧
    gives (e 0 (s 4)) (fun t => oget t 0x9010 0 == 5 && !drained t && oget t 0x3010 12 == 1) = true ∧
    gives (e 0 (oset (s 4) 0x3010 12 3)) (fun t => oget t 0x9010 0 == 5 && drained t) = true ∧
    toStep (e 0 (s 5)) 6 = true ∧ toStep (e 0 ((fins 6).foldl (fun s p => pset s p 2 4) (s 5))) 7 = true ∧
    gives (exec (.bootStepEnd 0 (some 0x17)) (s 5)) (fun t => t.boot.failed == some 0x17 && drained t) = true ∧
    toStep (e 0 (s 6)) 6 = true ∧ toStep (e 0 (s 7)) 8 = true ∧ toStep (e 0 (numbered (s 7))) 7 = true ∧
    toStep (e 0 (s 8)) 9 = true ∧ gives (e 0 (oset (s 8) 0x7002 0 1)) (fun t => oget t 0x9010 0 == 10 && clusterState t 7 == 6) = true ∧
    gives (exec .fabricBootWait (w 6 20000000000)) (fun t => oget t 0x9010 0 == 7 && t.boot.s6) = true ∧ toStep (exec .fabricBootWait (w 6 19999999999)) 6 = true ∧
    toStep (exec .tcBootWait (w 7 2010000000)) 8 = true ∧ toStep (exec .tcBootWait (w 7 2009999999)) 7 = true ∧
    gives (exec (.dieUnreachable 5) (s 9)) (fun t => oget t 0x1020 6 == 2 && drained t) = true ∧
    gives (exec (.stackFailed 11) (s 4)) (fun t => oget t 0x3010 12 == 3 && !drained t) = true ∧
    gives (exec (.stackFailed 11) (s 9)) (fun t => oget t 0x3010 12 == 3 && drained t) = true := by decide +kernel

/-! Power, telemetry and clocks. -/

/-- The state with f applied to its clock and power state, at a time. -/
def power (s : State) (now : Nat) (f : Power → Power) : State := { modPow s f with now := now }
/-- The state in power state v. -/
def inPower (v : Nat) : State := oset ready 0x2001 0 v

/-- Requests in each power state; entries with and without an open handshake, at the limit of their time; wakes; the first and last causes of an input fault. -/
theorem witness_PowerStates :
    let want (s : State) (v now : Nat) : State := power s now fun p => { p with want := some (v, 1, 0) }
    let prot (s : State) : State := power s 0 fun p => { p with prot := some 0 }
    let clap : ClapMsg := { unit := 0, op := 0, clap := 16383, val := 0, cmp := 0, ret := .none, bad := none }
    let other (n : Nat) : State := { inPower 0 with dict := { ready.dict with held := List.replicate n { ix := 0x1201, sub := 0, val := [0, 1], via := .dap, st := true } } }
    let kept (s : State) : State := { withClm (oset s 0x2005 0 0) 0 [7] with mem := memPut (memPut [] 5 [1]) 0x10000000000 [2], clapVal := [(1, 7)] }
    let q (v : Nat) : State := want (kept ready) v 5
    canWrite ready .dap 0x2002 0 = true ∧ debugLevel ready = 0 ∧ bootState ready = 9 ∧ ready.boot.kind = 0 ∧
    (∀ s ∈ [prot ready, want ready 3 0, oset ready 0x8010 0 3], gives (exec (.powerRequestIdle .dap) s) (fun t => t.pow.want == s.pow.want && oget t 0x2003 0 == 0) = true) ∧
    gives (exec (.powerRequestPark .dap) (inPower 3)) (fun t => t.pow.want == none && oget t 0x2003 0 == 0) = true ∧
    gives (exec (.powerRequestStandby .dap) (other 63)) (fun t => t.dict.held.length == 64 && oget t 0x2003 0 == 1 && oget t 0x2001 0 == 0) = true ∧
    gives (exec (.powerRequestStandby .dap) (other 64)) (fun t => t.dict.held.length == 64 && oget t 0x2003 0 == 0) = true ∧
    (∀ x ∈ [(Instr.powerRequestIdle .dap, 1), (.powerRequestPark .dap, 2), (.powerRequestStandby .dap, 3)], gives (exec x.1 (inPower x.2)) (fun t => oget t 0x2003 0 == 2) = true) ∧
    gives (exec (.powerRequestPark .dap) ready) (fun t => t.pow.want == some (2, 2, 0) && oget t 0x2003 0 == 1) = true ∧
    gives (exec (.powerRequestIdle .dap) (inPower 3)) (fun t => oget t 0x9010 0 == 3 && t.boot.kind == 3 && t.pow.want == some (1, 2, 0)) = true ∧
    (∀ v ∈ [2, 3], openHandshakes { q v with clapOps := [clap] } v = true ∧ openHandshakes (q v) v = false ∧ oget (q v) 0x2005 0 = 0 ∧ bootState (q v) = 9) ∧
    gives (exec .quiesceComplete { q 2 with clapOps := [clap] }) (fun t => oget t 0x2001 0 == 1) = true ∧
    gives (exec .quiesceComplete (q 2)) (fun t => oget t 0x2001 0 == 2 && cget t 7 0x4002 0 == 5 && !islandOn t 20 && islandOn t 19 && t.mem.length == 2 && t.clapVal == [(1, 7)] &&
      t.cl[(0 : Fin 8)].clm.isEmpty && oget t 0x9001 0 == 6) = true ∧
    gives (exec .quiesceComplete (q 3)) (fun t => oget t 0x2001 0 == 3 && !islandOn t 21 && islandOn t 22 && t.mem == [(5, 1)] && t.clapVal.isEmpty && oget t 0x9001 0 == 0) = true ∧
    (let y := withF (oset (q 2) 0x2005 0 1) fun h => { h with fetched := vset h.fetched 0 (some (take 9 2)) }
     ((fins 8).any fun p => !(fetchedTakes y p).isEmpty) = true ∧ y.dly.held = [] ∧ openHandshakes y 2 = false ∧ gives (exec .quiesceComplete y) (fun t => oget t 0x2001 0 == 2 && t.pow.want == some (1, 3, 5)) = true) ∧
    gives (exec (.quiesceTimeout 0xFFFFFF) (want ready 3 1000000)) (fun t => oget t 0x2003 0 == 3 && t.pow.want == none && lastEvent t == some (0x0102, payOf [(16, 3), (20, 0xFFFFFF)])) = true ∧
    gives (exec (.quiesceTimeout 0) (want ready 2 999999)) (fun t => t.pow.want == some (2, 1, 0)) = true ∧
    (let p := want (inPower 2) 1 0; p.pow.want = some (1, 1, 0) ∧ oget p 0x2001 0 = 2 ∧ bootState p = 9 ∧ p.boot.kind < 4 ∧ p.pow.prot = none) ∧
    gives (exec .wakeN (inPower 3)) (fun t => oget t 0x9010 0 == 3 && t.boot.kind == 3 && t.pow.want == some (1, 4, 0)) = true ∧
    gives (exec .wakeN ready) (fun t => t.pow.want == none) = true ∧
    (∀ c ∈ [2, 4], gives (exec (.inputFault c 1) (prot ready)) (fun t => t.pow.prot == some 0) = true ∧
      gives (exec (.inputFault c 1) (kept ready)) (fun t => t.pow.prot == some c && oget t 0x2001 0 == 3 && t.pow.protAt == [0] && t.flash.shutdowns.length == 1 && !islandOn t 0 && t.mem.isEmpty) = true) := by
  decide +kernel

/-- The limits of the limiter's rules, of the thermal rules on the first and last dies, and of each quantity; first and last islands; both references. -/
theorem witness_LimitsTelemetryAndClocks :
    let s (f : Power → Power) : State := power ready 1000000000 f
    let toTarget (o : Host.Outcome State Fault Refusal) (n : Nat) : Bool := gives o fun t => t.pow.target == n && oget t 0x2023 8 == n
    let th (v : Nat) : State := s fun p => { p with thermal := Vector.replicate 4 v, hot := Vector.replicate 6 2 }
    let tt (tj : Int) (d : Fin 6) (v n : Nat) : Bool := gives (exec (.thermalSample d tj false) (th v)) fun t => t.pow.thermal[toDie4 d.val] == n && t.pow.prot == none && t.pow.hot[d] == 0
    let tel (k i : Nat) (v : Int) (p : State → Bool) : Bool := gives (exec (.telemetrySample k i v) ready) p
    let vin : State := oset ready 0x2030 0 48000
    let sw (i : Fin 24) (v : Nat) (s : State) : Host.Outcome State Fault Refusal := exec (.clkSrcWrite .dap i v) s
    let moved (i : Fin 24) (v was : Nat) (t : State) : Bool := clkSrc t i.val == v && t.pow.pll[i] == some (was, 0) && !bit (oget t 0x2010 0) (8 + i.val)
    let pll (i : Fin 24) (prev now fails : Nat) : State := power ready now fun p => { p with pll := vset p.pll i (some (prev, 0)), pllFails := vset p.pllFails i fails }
    let lost (b : Nat) : State := oset ready 0x2010 0 (0xF - 2 ^ b)
    toTarget (exec (.powerLimiterSample 5001) (s id)) 1600 = true ∧ toTarget (exec (.powerLimiterSample 4401) (s fun p => { p with above := some 992100000 })) 1700 = true ∧
    toTarget (exec (.powerLimiterSample 4200) (s fun p => { p with below := some 999100000, raised := 999000000, target := 1775 })) 1800 = true ∧
    toTarget (exec (.powerLimiterSample 4400) (s id)) 1800 = true ∧ toTarget (exec (.powerLimiterSample 4201) (s fun p => { p with target := 600 })) 600 = true ∧
    tt (16 * 105) 0 625 600 = true ∧ tt (16 * 105 - 48) 3 1775 1800 = true ∧ tt (16 * 105 - 47) 0 700 700 = true ∧ tt (16 * 120 - 1) 5 700 700 = true ∧
    gives (exec (.thermalSample 5 (16 * 120) false) (th 1800)) (fun t => t.pow.prot == some 0 && oget t 0x2001 0 == 3) = true ∧
    tel 0 0 48000 (fun t => oget t 0x2030 0 == 48000) = true ∧ tel 1 0 (-1) (fun t => oget t 0x2031 0 == 0xFFFFFFFF) = true ∧ tel 2 23 750 (fun t => oget t 0x2035 24 == 750) = true ∧
    tel 3 0 5 (fun t => oget t 0x2036 1 == 5) = true ∧ tel 4 11 1679 (fun t => oget t 0x2041 12 == 1679 && t.pow.prot == none) = true ∧
    tel 4 0 1680 (fun t => t.pow.prot == some 1 && oget t 0x2001 0 == 3) = true ∧ tel 5 0 (-16) (fun t => oget t 0x2042 0 == 0xFFF0) = true ∧
    (inputGood vin = true ∧ islandOn ready 23 = true ∧ islandOn ready 0 = true ∧ islandOn ready (12 + 11 / 3) = true) ∧
    gives (exec (.telemetrySample 6 23 0) vin) drained = true ∧ gives (exec (.telemetrySample 7 0 0) vin) drained = true ∧
    (canWrite ready .dap 0x2011 1 = true ∧ canWrite ready .dap 0x2011 24 = true ∧ srcReady ready 0 = true ∧ srcReady ready 1 = true ∧ srcReady ready 2 = true) ∧
    gives (sw 0 1 ready) (moved 0 1 0) = true ∧ gives (sw 17 1 ready) (moved 17 1 0) = true ∧ gives (sw 20 0 (oset ready 0x2011 21 1)) (moved 20 0 1) = true ∧
    gives (sw 21 2 (oset ready 0x2011 22 0)) (moved 21 2 0) = true ∧ (∀ x ∈ [((18 : Fin 24), 1), (21, 0), (22, 0), (0, 0), (0, 2)], gives (sw x.1 x.2 ready) (fun t => t == ready) = true) ∧
    gives (sw 0 1 (oset ready 0x2010 0 4)) (fun t => clkSrc t 0 == 0) = true ∧
    gives (exec (.pllRelock 0) (pll 0 0 7 1)) (fun t => t.pow.pll[(0 : Fin 24)] == none && t.pow.pllFails[(0 : Fin 24)] == 0 && lastEvent t == some (0x0106, payOf [(16, 0), (17, 0), (18, 0)])) = true ∧
    gives (exec (.pllRelock 21) (pll 21 0 7 1)) (fun t => t.pow.pll[(21 : Fin 24)] == none && bit (oget t 0x2010 0) 29 && lastEvent t == none) = true ∧
    gives (exec (.pllRelockTimeout 0) (pll 0 1 200000 0)) (fun t => clkSrc t 0 == 1 && t.pow.pll[(0 : Fin 24)] == some (1, 200000) && lastEvent t == some (0x0106, payOf [(16, 0), (17, 1), (18, 1)])) = true ∧
    gives (exec (.pllRelockTimeout 21) (oset (pll 21 2 200000 0) 0x2010 0 4)) (fun t => t.pow.pll[(21 : Fin 24)] == none && lastEvent t == some (0x0106, payOf [(16, 21), (17, 2), (18, 2)])) = true ∧
    gives (exec (.pllRelockTimeout 0) (pll 0 1 200000 1)) drained = true ∧ gives (exec (.pllRelockTimeout 0) (pll 0 1 199999 1)) (fun t => !drained t && clkSrc t 0 == 0) = true ∧
    gives (exec (.pllLockLoss 0) ready) (fun t => !bit (oget t 0x2010 0) 8 && t.pow.pll[(0 : Fin 24)] == some (0, 0)) = true ∧
    gives (exec (.pllLockLoss 21) (oset ready 0x2010 0 0x20000000)) (fun t => !bit (oget t 0x2010 0) 29 && lastEvent t == some (0x0106, payOf [(16, 21), (17, 2), (18, 2)])) = true ∧
    gives (exec (.clkRefLost 2) (pset (objs ready [(0x6006, 1, 3), (0x6006, 2, 3)]) 5 2 4)) (fun t => !bit (oget t 0x2010 0) 2 && !portUp t 5 && !ethUp t 0 && !ethUp t 1 && clkSrc t 17 == 1 && clkSrc t 18 == 0) = true ∧
    (oget ready 0x2012 0 = 1 ∧ 17 ∈ runsFrom ready 0 ∧ pget ready 5 1 ≠ 0) ∧
    gives (exec (.clkRefLost 3) ready) (fun t => !bit (oget t 0x2010 0) 3 && oget t 0x9001 0 == 0) = true ∧
    gives (exec (.clkRefRestored 2) (lost 2)) (fun t => bit (oget t 0x2010 0) 2 && t.pow.pll[(0 : Fin 24)] == some (0, 0) && t.pow.pll[(21 : Fin 24)] == none) = true ∧
    gives (exec (.clkRefRestored 3) (lost 3)) (fun t => bit (oget t 0x2010 0) 3 && t.pow.pll[(21 : Fin 24)] == some (2, 0)) = true := by decide +kernel
/-! Security and debug. -/

/-- A token under the key of a slot, with the r and s of its signature. -/
def token (kind arg key part dur sig : Nat) : List Byte :=
  toLE 4 0x4B54474C ++ [1, BitVec.ofNat 8 kind, BitVec.ofNat 8 arg, BitVec.ofNat 8 key] ++ toLE 8 7 ++ toLE 32 9 ++ toLE 4 part ++ toLE 4 dur ++ zeros 8 ++
    toBE 96 pubKey ++ toBE 96 sig
/-- A token for a level 2 session on partition 7 that lasts a day. -/
def debugToken : List Byte := token 1 2 2 7 86400 0x8568a35a879b0d506132993c6d911d3136a731409ab8c5d26fd7a01e81425281453a6c6adf4cd2f38c77a5042815ea48f27a802c3edcf3093b2b095bdbfb39da535529df1ab1767e244d5f060bce1f16ecd47ce91c76f80e57a4ede4b5064b4e
/-- Tokens that move the lifecycle to PROVISIONED and to RETURNED. -/
def lifeTokens : List Byte × List Byte :=
  (token 2 1 2 255 0 0x8568a35a879b0d506132993c6d911d3136a731409ab8c5d26fd7a01e81425281453a6c6adf4cd2f38c77a5042815ea486a282ed97309054f51f80ba607238d50a403439ffe37fc080d0b6a81e462b2f03e44357156ce393949228c148a40fe19,
   token 2 3 3 255 0 0x8568a35a879b0d506132993c6d911d3136a731409ab8c5d26fd7a01e81425281453a6c6adf4cd2f38c77a5042815ea48a84a9a009170a926ae85ab5f4d1909e976dba24ff34d4def56ba631b824476fac61cafa44b51ff1f2e0b26d873ae66e8)
/-- A token that revokes key slot 3. -/
def revokeToken : List Byte := token 3 3 2 255 0 0x8568a35a879b0d506132993c6d911d3136a731409ab8c5d26fd7a01e81425281453a6c6adf4cd2f38c77a5042815ea48be546f8fc4f545efcaec4399aa53906fd2a48a0d13abdd2dbdf2b2e3c767f0d73dedf7d64bb905ffa47b91e80ebe4ab4

/-- Each kind of token, accepted and refused, in each lifecycle state that matters; each command on an image slot, at its limits. -/
theorem witness_TokensImagesAndLifecycle :
    let life (n : Nat) : State := oset ready 0x8001 0 n
    let opens (n st : Nat) : State := oset ready 0x8020 (n + 1) st
    let load (off len : Nat) : Instr := .imageLoad .dap (toLE 8 off ++ List.replicate len 5)
    let svn (min own : Nat) : State := { objs ready [(0x8024, 0, min), (0x8021, 1, own), (0x8020, 2, 3)] with boot := { ready.boot with svn := own } }
    canWrite ready .dap 0x8006 0 = true ∧ canWrite ready .jtag 0x8006 0 = true ∧
    (eF debugToken 5 1 = 1 ∧ tokenReason (life 2) debugToken = 0 ∧ debugReady ready 2 = true ∧ debugReady (inPower 2) 2 = false ∧ debugLevel ready = 0) ∧
    gives (exec (.secTokenDebug .dap debugToken) (life 2)) (fun t => debugLevel t == 2 && oget t 0x8013 0 == 7 && t.sec.ends == some 86400000000000 &&
      (lastEvent t).map (fun x => x.1) == some 0x0905) = true ∧
    gives (exec (.secTokenDebug .jtag debugToken) (oset (inPower 2) 0x8001 0 2)) (fun t => t.sec.held == some (2, 7, 86400, true, .jtag) && debugLevel t == 0) = true ∧
    (tokenReason ready (debugToken.set 55 1) = 1 ∧ tokenReason ready (debugToken.set 255 0) = 6) ∧
    gives (exec (.secTokenDebug .dap (debugToken.set 255 0)) ready) (fun t => lastEvent t == some (0x0903, payOf [(16, 1), (17, 6)]) && debugLevel t == 0) = true ∧
    gives (exec (.secTokenDebug .dap (debugToken.take 255)) ready) (fun t => t == ready) = true ∧
    (tokenReason ready lifeTokens.1 = 0 ∧ tokenReason ready lifeTokens.2 = 7) ∧
    gives (exec (.secTokenLifecycle .jtag lifeTokens.1) ready) (fun t => lifecycle t == 1 && t.boot.due == some (3, 10000000)) = true ∧
    gives (exec (.secTokenLifecycle .dap lifeTokens.2) (life 2)) (fun t => lifecycle t == 3 && t.flash.cur == none && (lastEvent t).map (fun x => x.1) == some 0x0904) = true ∧
    gives (exec (.secTokenLifecycle .dap lifeTokens.1) (objs (life 3) [(0x8003, 0, 7), (0x7006, 0, 1)])) (fun t => lifecycle t == 1 && oget t 0x8003 0 == 8 && oget t 0x7006 0 == 0) = true ∧
    gives (exec (.secTokenLifecycle .dap lifeTokens.1) (objs (life 3) [(0x8003, 0, 8)])) (fun t => lifecycle t == 3 && lastEvent t == some (0x0903, payOf [(16, 2), (17, 7)])) = true ∧
    gives (exec (.secTokenRevoke .dap revokeToken) ready) (fun t => keyRevoked t 3 && !keyRevoked t 2 && lastEvent t == some (0x0908, payOf [(16, 3)])) = true ∧
    gives (exec (.lifecycleCmd .dap 2) (life 1)) (fun t => lifecycle t == 2 && t.boot.due == some (3, 10000000)) = true ∧
    gives (exec (.lifecycleCmd .jtag 2) (life 1)) (fun t => t == life 1) = true ∧ gives (exec (.lifecycleCmd .dap 2) ready) (fun t => t == ready) = true ∧
    gives (exec (.lifecycleCmd .dap 1) (life 1)) (fun t => t == life 1) = true ∧
    (canWrite ready .dap 0x8002 0 = true ∧ canWrite ready .dap 0x8022 0 = true ∧ canWrite ready .dap 0x8023 0 = true) ∧
    gives (exec (.imageOpen .dap 1) ready) (fun t => imageState t 1 == 2 && t.flash.image[(1 : Fin 2)] == some [] && t.flash.image[(0 : Fin 2)] == none) = true ∧
    gives (exec (.imageOpen .dap 0) ready) (fun t => imageState t 0 == 2) = true ∧ gives (exec (.imageOpen .dap 0) (opens 1 3)) (fun t => imageState t 0 == 1) = true ∧
    gives (exec (.imageFinish .dap 1 false) (oset (opens 1 2) 0x9010 0 11)) (fun t => imageState t 1 == 1 && t.boot.due == some (3, 10000000)) = true ∧
    gives (exec (.imageFinish .dap 0 true) (opens 0 2)) (fun t => imageState t 0 == 3 && lastEvent t == some (0x0902, payOf [(16, 0), (17, 7), (18, 0)])) = true ∧
    gives (exec (.imageFinish .dap 0 false) ready) (fun t => t == ready) = true ∧ gives (exec (.imageAbandon .dap 1) ready) (fun t => t == ready) = true ∧
    gives (exec (.imageAbandon .dap 1) (opens 1 2)) (fun t => imageState t 1 == 3) = true ∧
    gives (exec (.raiseSvn .dap) (svn 4 4)) (fun t => oget t 0x8024 0 == 4 && lastEvent t == some (0x0909, payOf [(16, 4)])) = true ∧
    gives (exec (.raiseSvn .dap) (svn 4 3)) (fun t => lastEvent t == none) = true ∧ gives (exec (.raiseSvn .dap) (objs ready [(0x8021, 1, 4), (0x8021, 2, 3)])) (fun t => oget t 0x8024 0 == 0) = true ∧
    gives (exec (load 16777152 64) (opens 0 2)) (fun t => imgBytes ((t.flash.image[(0 : Fin 2)]).getD []) 16777151 2 == [0xFF, 5] && t.flash.image[(1 : Fin 2)] == none) = true ∧
    gives (exec (load 64 1) (opens 1 2)) (fun t => imgBytes ((t.flash.image[(1 : Fin 2)]).getD []) 64 2 == [5, 0xFF]) = true ∧
    (∀ i ∈ [load 16777152 65, load 32 1, .imageLoad .dap (zeros 7)], gives (exec i (opens 0 2)) (fun t => t == opens 0 2) = true) := by decide +kernel

/-- Levels 1 to 3 free, held, needing a token and busy; a session ended by command and by time; the cores of partition 7 and, in PAIRED mode, of partition 6. -/
theorem witness_DebugSessions :
    let life (n : Nat) (s : State) : State := oset s 0x8001 0 n
    let level (n part : Nat) (s : State) : State := objs s [(0x8010, 0, n), (0x8013, 0, part)]
    let held : State := { ready with sec := { ready.sec with held := some (2, 7, 5, true, .jtag) } }
    let halted (s : State) : State := (fins 8).foldl (fun s c => modCore s c fun k => { k with halted := true }) s
    let ends (n now : Nat) (s : State) : State := { s with now := now, sec := { s.sec with ends := some n } }
    let d : State := level 2 7 (cset ready 7 0x4001 0 7)
    let pair : State := level 2 3 (cset (cset (oset ready 0x7001 0 2) 6 0x4001 0 3) 7 0x4001 0 3)
    let m (a : Nat) : State := { level 2 0 (oset ready 0x8054 0 a) with mem := memPut [] 0 [3] }
    let z : State := { m 0 with pz := [(63, true)] }
    let opensAt (lv part : Nat) (s : State) : Bool := gives (exec (.debugRequest .dap (lv + 256 * part)) s) fun t => debugLevel t == lv && oget t 0x8013 0 == part && t.sec.held == none
    (canWrite ready .dap 0x8011 0 = true ∧ canWrite ready .dap 0x8012 0 = true ∧ canWrite ready .dap 0x8050 8 = true ∧ canRead ready .dap 0x8055 0 = true) ∧
    (debugNeeds 1 2 = 0 ∧ debugNeeds 3 3 ≠ 0 ∧ debugNeeds 2 3 = 0 ∧ debugNeeds 2 1 ≠ 0 ∧ debugReady (inPower 2) 3 = false ∧ debugReady (inPower 2) 1 = true) ∧
    opensAt 1 255 (life 2 (inPower 2)) = true ∧ opensAt 2 7 (life 3 ready) = true ∧ opensAt 3 255 ready = true ∧
    gives (exec (.debugRequest .dap (3 + 256 * 255)) (inPower 2)) (fun t => t.sec.held == some (3, 255, 0, false, .dap)) = true ∧
    (∀ s ∈ [life 1 ready, level 1 255 ready, held], gives (exec (.debugRequest .dap (2 + 256 * 7)) s) (fun t => t == s) = true) ∧
    gives (exec .heldDebugOpen held) (fun t => debugLevel t == 2 && t.sec.held == none && t.sec.ends == some 5000000000) = true ∧
    gives (exec .heldDebugOpen (oset held 0x2001 0 0)) (fun t => debugLevel t == 0) = true ∧
    gives (exec (.debugEnd .dap 1) (level 3 255 ready)) (fun t => debugLevel t == 3) = true ∧
    gives (exec (.debugEnd .dap 1) (halted d)) (fun t => debugLevel t == 0 && oget t 0x8013 0 == 0xFF && !t.cl[(7 : Fin 8)].core.halted &&
      lastEvent t == some (0x0906, payOf [(16, 2), (17, 0)])) = true ∧
    gives (exec (.debugEnd .dap 1) held) (fun t => t.sec.held == none) = true ∧
    gives (exec .debugSessionExpiry (ends 9 9 d)) (fun t => debugLevel t == 0 && lastEvent t == some (0x0906, payOf [(16, 2), (17, 1)])) = true ∧
    gives (exec .debugSessionExpiry (ends 9 8 d)) (fun t => debugLevel t == 2) = true ∧
    (debugOn d 7 = true ∧ debugOn ready 7 = false ∧ debugOn pair 6 = true ∧ dbgCores pair 7 = [6, 7]) ∧
    (∀ i ∈ [Instr.dbgCoreHalt .dap 7, .dbgCoreStep .dap 7, .dbgCoreResume .dap 7], gives (exec i ready) (fun t => t == ready) = true) ∧
    gives (exec (.dbgCoreHalt .dap 7) d) (fun t => t.cl[(7 : Fin 8)].core.halted && !t.cl[(6 : Fin 8)].core.halted) = true ∧
    gives (exec (.dbgCoreHalt .dap 6) pair) (fun t => t.cl[(7 : Fin 8)].core.halted && t.cl[(6 : Fin 8)].core.halted && !t.cl[(5 : Fin 8)].core.halted) = true ∧
    gives (exec (.dbgCoreStep .dap 7) (halted d)) (fun t => t.cl[(7 : Fin 8)].core.step && t.cl[(7 : Fin 8)].core.halted) = true ∧
    gives (exec (.dbgCoreStep .dap 7) d) (fun t => t == d) = true ∧
    gives (exec (.dbgCoreResume .dap 7) (halted d)) (fun t => !t.cl[(7 : Fin 8)].core.halted && t.cl[(6 : Fin 8)].core.halted) = true ∧
    (keyedTo (m 0) (jobKey ready 0) 4032 = true ∧ (debugBytes (m 0) 0 4096).2 = false ∧ (debugBytes z 0 4096).2 = true ∧ keyedTo (m 0x10008000000) 1 0x10008000000 = false) ∧
    gives (exec (.dbgMemData .dap) (m 0)) (fun t => match t.outs with
      | [.reply .dap 0 l] => l.take 2 == [3, 0] && l.length == 4096
      | _ => false) = true ∧
    gives (exec (.dbgMemData .dap) z) (fun t => t.outs == [Out.reply .dap aPoison []]) = true ∧
    gives (exec (.dbgMemData .dap) (m (0x10008000000 - 4032))) (fun t => t.outs == [Out.reply .dap 0x0104 []]) = true ∧
    gives (exec (.dbgMemData .dap) ready) (fun t => t.outs == [Out.reply .dap 0x0104 []]) = true := by decide +kernel
/-! Steps. -/

/-- A queue of one command; an empty queue. -/
theorem witness_StepRunsTheFrontCommand :
    gives (step { ready with pending := [.wakeN] }) (fun t => t.pending == [] && t.now == 0) = true ∧ ready.pending = [] ∧
    gives (step ready) (fun t => t.now == 1 && t.pending == []) = true := by decide +kernel
/-- The state after reset, and one whose stores list entries. -/
theorem witness_StepsKeepStoresCanonical :
    let s : State := { ready with mem := memPut [] 5 [1, 2], pz := [(7, true)], clapVal := [(3, 9)], clapPz := [(2, true)], pending := [.hostClapAdd 0 3 1 .none] }
    (State.memWf State.reset = true ∧ State.clapWf State.reset = true ∧ State.memWf s = true ∧ State.clapWf s = true) ∧
    gives (step s) (fun t => t.pending.isEmpty && State.memWf t && State.clapWf t) = true := by decide +kernel
/-- The statement about the state after reset has no hypothesis; some of what it says. -/
theorem witness_ResetState : State.reset.pending = [] ∧ bootState State.reset = 0 ∧ oget State.reset 0x2020 0 = 4400 ∧ clapGet State.reset 16383 = 0 := by decide +kernel
/-! Operands outside what the spec gives a command. -/

/-- Units and addresses: one past each range. -/
theorem test_ill_formed_units :
    (∀ i ∈ [Instr.reelReserve 0 32 .post, .reelCommit 0 32, .reelClaim 0 32 .post, .reelRelease 0 32, .hbmAccess 12 none 0 false false .none, .hbmAccess 3 (some .host) 0x40000000 true true .none,
      .scratchpadAccess 0x3FFFFFFFF true true .none, .scratchpadAccess 0x401000000 true true .none, .hbmScrubStep 0xC0000000 .none, .spScrubStep 0x3FFFFFFFF .none,
      .spScrubStep 0x401000000 .none, .meshFlitArrival 12 0 .none false (.packet 0 0), .hostClapSet 0 16384 0 .none, .hostClapAdd 0 16384 0 .none, .hostClapMax 0 16384 0 .none,
      .hostAtomicFetchadd 0 16384 0 .none 0 8, .hostAtomicFetchadd 0 0 0 .none 64 8, .hostAtomicSwap 0 0 0 .none 0 16, .hostAtomicSwap 0 16384 0 .none 0 8, .hostAtomicCas 0 16384 0 0 .none 0 8,
      .hostAtomicCas 0 0 0 0 .none 0 2, .hostClapReservedWrite 0 16384, .ptpSync 5 0 0, .ptpSync 0 (-5) 0, .tcReplicaCorrect 24 false,
      .dieUnreachable 6], i.wellFormed = false) := by decide
/-- The fabric, collectives and Dailies. -/
theorem test_ill_formed_fabric :
    (∀ i ∈ [Instr.timeBeaconReceive [], .trainStepComplete 0 (2 ^ 512) (List.range 8) 0, .trainStepComplete 0 0 (List.range 8) 256, .trainStepComplete 0 0 (List.range 7) 0,
      .trainStepComplete 0 0 [0, 1, 2, 3, 4, 5, 6, 6] 0, .trainStepTimeout 0 256, .ident 0 (2 ^ 32), .fabRespTimeout 256 0, .fabRespTimeout 0 65536,
      .fecRateCheck 0 8, .fabRouteWrite .dap 0 [], .fabRouteWrite .dap 32768 [0], .grpLaunch 256, .collStarve 256 0, .collStarve 0 (2 ^ 32), .collAckTimer 256 0 0, .collAckTimer 0 (2 ^ 32) 0,
      .entryDone 256 0 0, .entryDone 0 (2 ^ 32) 0, .collProgressTimeout 256 0, .collProgressTimeout 0 (2 ^ 32), .collInstanceRelease 256 0, .collInstanceRelease 0 (2 ^ 32),
      .dlyPost .dap 32 (zeros 64), .dlyPost .dap 0 (zeros 63), .qpArm .dap 1024, .qpErrorCmd .dap 1024, .qpResetCmd .dap 1024, .roceAck 1024 0, .roceAck 0 (2 ^ 24),
      .roceNakSequence 1024 0, .roceNakSequence 0 (2 ^ 24), .roceRnrNak 1024 0 0, .roceRnrNak 0 (2 ^ 24) 0, .roceRnrNak 0 0 32, .rnrTimerExpiry 1024, .roceNakFatal 1024 0 0,
      .roceNakFatal 0 (2 ^ 24) 0, .roceNakFatal 0 0 32, .cnpReceive 1024, .qpAckTimeout 1024, .sealSend 1024], i.wellFormed = false) := by decide +kernel
/-- The dictionary, DAP and the host port. -/
theorem test_ill_formed_dictionary :
    (∀ i ∈ [Instr.drainCmd .dap 256, .digestVerdict .dap (2 ^ 32), .evlogAcked .dap (2 ^ 64), .contAcked .dap (2 ^ 64), .mailboxRead 64, .mailboxWrite 64, .dapRead 64 [], .dapWrite 64 [],
      .segRead 64 [], .segWrite 64 [], .segment 64 [], .blockAck 64 [], .segEnd 64 [], .dapAbort 64 [], .dapUnknownCommand 64 [], .heartbeatReceive 64 [], .eventFrameReceive 64 [],
      .dapRead 0 (zeros 9), .dapWrite 0 (zeros 9), .segRead 0 (zeros 13), .segWrite 0 (zeros 17), .segment 0 (zeros 63), .blockAck 0 (zeros 9), .segEnd 0 (zeros 9), .dapAbort 0 (zeros 9),
      .dapUnknownCommand 0 (zeros 65), .heartbeatReceive 0 (zeros 33), .eventFrameReceive 0 (zeros 65), .crewSilent 0, .crewSilent 32, .dapBusOff (2 ^ 32), .pcieMemRead 0 3 0 1 .none,
      .pcieMemRead 0 4 0 0 .none, .pcieMemRead 0 4 0 4097 .none, .pcieMemWrite 0 1 0 [0] false .none, .pcieMemWrite 0 4 0 [] false .none, .pcieMemWrite 0 4 0 (zeros 513) false .none,
      .tqTail 0 0 (2 ^ 32), .cqHead 0 (2 ^ 32), .tqEnable .dap 0 256, .takeEntryArrival 0 0 [] 0, .takeEntryArrival 0 0 (zeros 64) 3], i.wellFormed = false) := by decide +kernel
/-- Start-up, power, clocks and security. -/
theorem test_ill_formed_system :
    (∀ i ∈ [Instr.powerOnReset 32, .moduleReset 5, .bootStepEnd 4 none, .bootStepEnd 0 (some 256), .quiesceTimeout (2 ^ 24), .powerLimiterSample 65536, .telemetrySample 8 0 0,
      .telemetrySample 0 24 0, .inputFault 1 0, .inputFault 5 0, .vinThreshold 3 0, .vinThreshold 0 32, .clkRefLost 1, .clkRefLost 4, .clkRefRestored 1, .clkRefRestored 4,
      .clkSrcWrite .dap 0 256, .secTokenDebug .dap (zeros 65537), .secTokenLifecycle .dap (zeros 65537), .secTokenRevoke .dap (zeros 65537), .lifecycleCmd .dap 256,
      .imageLoad .dap (zeros 65537), .debugRequest .dap 65536, .debugEnd .dap 256, .jtagIrUpdate 256, .dbgPortWrite (2 ^ 32) 0, .dbgPortRead (2 ^ 32), .pcieLinkUp 0 16,
      .pcieLinkUp 7 16, .pcieLinkUp 6 17], i.wellFormed = false) := by decide +kernel
/-- The last values that are within their ranges. -/
theorem test_well_formed :
    (∀ i ∈ [Instr.tend 7, .reelCommit 0 31, .hbmAccess 11 (some .host) 0xBFFFFFFF true true .none, .ptpSync 4 (-4) 9, .hostAtomicCas 0 16383 0 0 .none 63 16, .trainStepComplete 5 0 [7, 6, 5, 4, 3, 2, 1, 0] 255, .scratchpadAccess 0x400FFFFFF true true .none, .hostClapSet 0 16383 0 .none, .fabRouteWrite .dap 32767 [0],
      .grpLaunch 255, .roceRnrNak 1023 (2 ^ 24 - 1) 31, .dapRead 63 (zeros 64), .crewSilent 31, .pcieMemWrite 7 4 0 (zeros 512) true .none, .powerOnReset 31, .bootStepEnd 3 (some 255),
      .telemetrySample 7 23 (-1), .pcieLinkUp 6 16], i.wellFormed = true) := by decide +kernel

end Sys2Proof.Tests
end

section
/-! SUPPORT. What the effects of a drain (R458), of a fall of a link (R366) and of the choice of a parent in the time tree (R319) leave alone. -/

namespace Sys2Proof.Machine

/-! Relations between states that effects keep. -/

/-- A fold of effects that each keep a reflexive and transitive relation to the state before keeps it. -/
theorem foldl_rel {A : Type} {R : State → State → Prop} (hr : ∀ s, R s s) (ht : ∀ {s t u}, R s t → R t u → R s u) (l : List A)
    (f : State → A → State) (hf : ∀ s a, R s (f s a)) (s : State) : R s (l.foldl f s) := by
  induction l generalizing s with
  | nil => exact hr s
  | cons a l ih => exact ht (hf s a) (ih _)
/-- A relation that holds of both branches of a choice holds of the choice. -/
theorem ite_rel {R : State → State → Prop} {s t u : State} {p : Prop} [Decidable p] (h : R s t) (k : R s u) : R s (if p then t else u) := by
  split
  · exact h
  · exact k

/-! Keys of objects. -/

/-- Objects with subindices below 256 have keys of their own. -/
theorem okey_ne {ix sub ix' sub' : Nat} (h : sub < 256) (h' : sub' < 256) (hne : ix' ≠ ix ∨ sub' ≠ sub) : okey ix' sub' ≠ okey ix sub := by
  unfold okey
  omega
/-- Another object is left alone, told apart by index or subindex. -/
theorem oget_oset_other {ix sub ix' sub' : Nat} (s : State) (v : Nat) (h : sub < 256) (h' : sub' < 256) (hne : ix' ≠ ix ∨ sub' ≠ sub) :
    oget (oset s ix sub v) ix' sub' = oget s ix' sub' :=
  oget_oset_ne _ _ _ _ _ _ (okey_ne h h' hne)
/-- The same for a counter. -/
theorem oget_obump_other {ix sub ix' sub' : Nat} (s : State) (d : Nat) (h : sub < 256) (h' : sub' < 256) (hne : ix' ≠ ix ∨ sub' ≠ sub) :
    oget (obump s ix sub d) ix' sub' = oget s ix' sub' :=
  oget_oset_other _ _ h h' hne

/-! Log entries: what `Logged` says of single fields. -/

section
variable {s t : State} (h : Logged s t)
include h
theorem Logged.mem : t.mem = s.mem := by obtain ⟨_, _, _, _, rfl⟩ := h.same; rfl
theorem Logged.pz : t.pz = s.pz := by obtain ⟨_, _, _, _, rfl⟩ := h.same; rfl
theorem Logged.cl : t.cl = s.cl := by obtain ⟨_, _, _, _, rfl⟩ := h.same; rfl
theorem Logged.fab : t.fab = s.fab := by obtain ⟨_, _, _, _, rfl⟩ := h.same; rfl
theorem Logged.flash : t.flash = s.flash := by obtain ⟨_, _, _, _, rfl⟩ := h.same; rfl
theorem Logged.meshHits : t.meshHits = s.meshHits := by obtain ⟨_, _, _, _, rfl⟩ := h.same; rfl
end
/-- A log entry writes no object outside its own six. -/
theorem Logged.oget_eq {s t : State} (h : Logged s t) {ix sub : Nat} (hix : ix ∉ [0x7020, 0x7022, 0x7030, 0x7032, 0x7033, 0x1205]) (hsub : sub < 256) :
    oget t ix sub = oget s ix sub := by
  simp only [List.mem_cons, List.not_mem_nil, or_false, not_or] at hix
  obtain ⟨h1, h2, h3, h4, h5, h6⟩ := hix
  exact h.objs ix sub h1 h2 h3 h4 h5 h6 hsub
/-- The last event after an entry of the log. -/
theorem lastEvent_logEv (s : State) (unit code fl pay : Nat) : lastEvent (logEv s unit code fl pay) = some (code, pay) := by
  have h := logEv_last s unit code fl pay
  unfold lastEvent
  cases hr : (logEv s unit code fl pay).evlog.getLast? with
  | none => simp [hr] at h
  | some r =>
    simp only [hr, Option.map_some, Option.some.injEq, Prod.mk.injEq] at h
    simp [h]

/-! The tree of time. -/

/-- t has come from s by log entries and by what the choice of a parent writes: the timecode's own state and TC_STATE, TC_PARENT_PORT and TC_COUNTERS. -/
structure Retimed (s t : State) : Prop where
  same : ∃ ob os ev lg tm, t = { s with obj := ob, outs := os, evlog := ev, logs := lg, tm := tm }
  objs : ∀ ix sub, ix ∉ [0x7020, 0x7022, 0x7030, 0x7032, 0x7033, 0x1205, 0x1101, 0x1104, 0x110B] → sub < 256 → oget t ix sub = oget s ix sub

theorem Retimed.refl (s : State) : Retimed s s := ⟨⟨_, _, _, _, _, rfl⟩, fun _ _ _ _ => rfl⟩
theorem Retimed.trans {s t u : State} (h : Retimed s t) (k : Retimed t u) : Retimed s u := by
  obtain ⟨⟨_, _, _, _, _, rfl⟩, ho⟩ := h
  obtain ⟨⟨_, _, _, _, _, rfl⟩, ko⟩ := k
  exact ⟨⟨_, _, _, _, _, rfl⟩, fun ix sub hix hsub => (ko ix sub hix hsub).trans (ho ix sub hix hsub)⟩
theorem Retimed.logged {s t : State} (h : Logged s t) : Retimed s t := by
  refine ⟨?_, fun ix sub hix hsub => h.oget_eq (fun hm => hix ?_) hsub⟩
  · obtain ⟨_, _, _, _, rfl⟩ := h.same
    exact ⟨_, _, _, _, _, rfl⟩
  · simp only [List.mem_cons, List.not_mem_nil, or_false] at hm ⊢
    omega
theorem Retimed.modTm (s : State) (f : TimeSt → TimeSt) : Retimed s (modTm s f) := ⟨⟨_, _, _, _, _, rfl⟩, fun _ _ _ _ => rfl⟩
theorem Retimed.oset (s : State) (ix v : Nat) (hix : ix ∈ [0x1101, 0x1104, 0x110B]) : Retimed s (oset s ix 0 v) := by
  refine ⟨⟨_, _, _, _, _, rfl⟩, fun ix' sub hix' hsub => oget_oset_other _ _ (by omega) hsub (.inl fun e => hix' ?_)⟩
  subst e
  simp only [List.mem_cons, List.not_mem_nil, or_false] at hix ⊢
  omega
theorem Retimed.noteBare (s : State) : Retimed s (noteBare s) := by
  unfold Machine.noteBare
  split <;> exact .modTm _ _
theorem Retimed.enterHoldover (s : State) (last : Nat) : Retimed s (enterHoldover s last) :=
  (((Retimed.oset s 0x1101 3 (by simp)).trans (.modTm _ _)).trans (.oset _ 0x110B _ (by simp))).trans (.logged (Logged.logEv _ _ _ _ _))
/-- The choice of a parent changes the time tree and the log alone. -/
theorem Retimed.tcReparent (s : State) : Retimed s (tcReparent s) := by
  unfold Machine.tcReparent
  extract_lets old new s1 st
  have h1 : Retimed s s1 := (Retimed.oset s 0x1104 _ (by simp)).trans (.modTm _ _)
  split
  · exact .refl s
  split
  · exact .noteBare s
  refine (h1.trans ?_).trans (.noteBare _)
  split
  · split
    · exact .oset _ _ _ (by simp)
    · exact .enterHoldover _ _
  split
  · exact (Retimed.oset s1 0x110B _ (by simp)).trans (.logged (Logged.logEv _ _ _ _ _))
  split
  · exact .oset _ _ _ (by simp)
  · exact .refl _

/-! What a drain spares. -/

/-- The objects that no effect of a drain writes once the module is DRAINED: the errors of the mesh, the states of the stacks, and DRAINED itself. -/
def spared (ix sub : Nat) : Prop := sub < 256 ∧ (ix = 0x1022 ∨ ix = 0x3010 ∨ (ix = 0x7002 ∧ sub = 0))

/-- t has come from s by effects that leave those objects and the state of start-up alone. -/
structure Spares (s t : State) : Prop where
  boot : t.boot = s.boot
  objs : ∀ ix sub, spared ix sub → oget t ix sub = oget s ix sub

theorem Spares.refl (s : State) : Spares s s := ⟨rfl, fun _ _ _ => rfl⟩
theorem Spares.trans {s t u : State} (h : Spares s t) (k : Spares t u) : Spares s u :=
  ⟨k.boot.trans h.boot, fun ix sub hx => (k.objs ix sub hx).trans (h.objs ix sub hx)⟩
/-- An update of other fields than the objects and start-up. -/
theorem Spares.of_eq {s t : State} (ho : t.obj = s.obj) (hb : t.boot = s.boot) : Spares s t := ⟨hb, fun _ _ _ => oget_congr ho _ _⟩
theorem Spares.oset (s : State) {ix sub : Nat} (v : Nat) (hsub : sub < 256) (h : ¬ spared ix sub) : Spares s (oset s ix sub v) := by
  refine ⟨rfl, fun ix' sub' hx => oget_oset_other _ _ hsub hx.1 ?_⟩
  by_cases hc : ix' = ix ∧ sub' = sub
  · obtain ⟨rfl, rfl⟩ := hc
    exact absurd hx h
  · omega
theorem Spares.obump (s : State) {ix sub : Nat} (d : Nat) (hsub : sub < 256) (h : ¬ spared ix sub) : Spares s (obump s ix sub d) :=
  .oset s _ hsub h
theorem Spares.retimed {s t : State} (h : Retimed s t) : Spares s t := by
  refine ⟨?_, fun ix sub hx => h.objs ix sub ?_ hx.1⟩
  · obtain ⟨_, _, _, _, _, rfl⟩ := h.same
    rfl
  · obtain ⟨-, hx⟩ := hx
    simp only [List.mem_cons, List.not_mem_nil, or_false]
    omega
theorem Spares.logged {s t : State} (h : Logged s t) : Spares s t := .retimed (.logged h)
theorem Spares.ite {s t u : State} {p : Prop} [Decidable p] (h : Spares s t) (k : Spares s u) : Spares s (if p then t else u) :=
  ite_rel h k
theorem Spares.foldl {A : Type} (l : List A) (f : State → A → State) (hf : ∀ s a, Spares s (f s a)) (s : State) : Spares s (l.foldl f s) :=
  foldl_rel .refl .trans l f hf s

/-! Takes and collectives at a drain (R404, R458). -/

/-- Completing fetched takes changes the host functions and the waiters at start gates alone. -/
theorem endFetched_same (s : State) (p : Fin 8) (disp : Nat) (k : TakeEnt → Bool) :
    ∃ hf w fr, endFetched s p disp k = { s with hf := hf, waiters := w, freed := fr } := by
  unfold endFetched
  extract_lets gone gated s1 s2
  have h2 : ∃ hf w fr, s2 = { s with hf := hf, waiters := w, freed := fr } := by
    by_cases hg : gated = true
    · exact ⟨_, _, _, if_pos hg⟩
    · exact ⟨_, _, _, if_neg hg⟩
  generalize s2 = u at h2
  clear_value gone
  induction gone generalizing u with
  | nil => exact h2
  | cons t l ih =>
    obtain ⟨_, _, _, rfl⟩ := h2
    exact ih _ ⟨_, _, _, rfl⟩
theorem Spares.endFetched (s : State) (p : Fin 8) (disp : Nat) (k : TakeEnt → Bool) : Spares s (endFetched s p disp k) := by
  obtain ⟨_, _, _, h⟩ := endFetched_same s p disp k
  exact .of_eq (by rw [h]) (by rw [h])
theorem Spares.failMark (s : State) (g seq eng : Nat) : Spares s (failMark s g seq eng) := by
  unfold Machine.failMark
  refine .foldl _ _ (fun u m => .ite ?_ ?_) s
  · exact .of_eq rfl rfl
  · exact .of_eq rfl rfl
/-- No object of a group is spared. -/
theorem not_spared_group (g : Nat) {sub : Nat} (h : 0 < sub) : ¬ spared (0x5100 + g) sub := by
  rintro ⟨-, h⟩
  omega
/-- Nor are the counters of the collectives. -/
theorem Spares.collBump (s : State) (i : Nat) (h : i < 256) : Spares s (collBump s i) := .obump s 1 h (by simp [spared])
theorem Spares.runFails (s : State) (g : Nat) : Spares s (runFails s g) := by
  unfold Machine.runFails
  split
  · refine .ite (.refl s) ?_
    have h1 : Spares s (gset s g 11 3) := .oset s 3 (by omega) (not_spared_group g (by omega))
    have h2 := h1.trans (.collBump (gset s g 11 3) 6 (by omega))
    exact (h2.trans (.obump _ 1 (by omega) (not_spared_group g (by omega)))).trans (.of_eq rfl rfl)
  · exact .refl s
theorem Spares.starvedFails (s : State) (g seq : Nat) : Spares s (starvedFails s g seq) :=
  ((Spares.collBump s 6 (by omega)).trans (.obump _ 1 (by omega) (not_spared_group g (by omega)))).trans (.failMark _ _ _ _)
theorem Spares.collDiscard (s : State) (p : Fin 8) : Spares s (collDiscard s p) := by
  unfold Machine.collDiscard
  refine .foldl _ _ (fun u g => ?_) s
  extract_lets x u1
  have h0 : Spares u (modGrp u g (fun x => { x with waiting := [], starved := [] })) := .of_eq rfl rfl
  have h1 : Spares u u1 := h0.trans (.foldl _ _ (fun _ _ => .starvedFails _ _ _) _)
  split
  · exact .ite h1 (h1.trans ((Spares.runFails _ _).trans (.failMark _ _ _ _)))
  · exact .ite h1 (h1.trans (.oset _ _ (by omega) (not_spared_group g (by omega))))

/-! The dailies at a drain (R440). -/

/-- No object of a queue pair is spared. -/
theorem not_spared_qp (q : Nat) {sub : Nat} (h : 0 < sub) : ¬ spared (0x6100 + q) sub := by
  rintro ⟨-, h⟩
  omega
theorem Spares.qpError (s : State) (q cause : Nat) : Spares s (qpError s q cause) := by
  unfold Machine.qpError
  extract_lets x n idle s1 d s2
  refine .ite (.refl s) ?_
  have h1 : Spares s (qset s q 1 2) := .oset s 2 (by omega) (not_spared_qp q (by omega))
  have h2 : Spares s (Machine.obump (qset s q 1 2) (0x6100 + q) 17 n) := h1.trans (.obump _ n (by omega) (not_spared_qp q (by omega)))
  have h3 : Spares s s2 := h2.trans (.of_eq rfl rfl)
  exact h3.trans (.logged (Logged.logEv _ _ _ _ _))
/-- No value of a reel is spared. -/
theorem Spares.rlSet (s : State) (c : Fin 8) (r sub v : Nat) (h : sub < 256) : Spares s (rlSet s c r sub v) := by
  refine .oset s v h ?_
  unfold spared reelIx
  omega
theorem Spares.reelRelease (s : State) (c : Fin 8) (r i : Nat) : Spares s (reelRelease s c r i) := by
  have head : Spares s (reelReleaseHead s c r) := ((Spares.rlSet s c r 5 _ (by omega)).trans (.rlSet _ c r 7 _ (by omega))).trans (.of_eq rfl rfl)
  unfold Machine.reelRelease
  split
  · exact .ite head (.of_eq rfl rfl)
  · exact .of_eq rfl rfl
theorem Spares.flushHeld (s : State) (h : DlyHeld) : Spares s (flushHeld s h) := by
  have h1 : Spares s (Machine.obump s (0x6100 + eF h.order 12 2) 17 1) := .obump s 1 (by omega) (not_spared_qp _ (by omega))
  refine h1.trans ?_
  unfold Machine.flushHeld slotDone
  split
  · exact .foldl _ _ (fun _ _ => .reelRelease _ _ _ _) _
  · exact .refl _
theorem Spares.ethDown (s : State) (e reason : Nat) (he : e < 2) : Spares s (ethDown s e reason) := by
  have h1 : Spares s (Machine.oset s 0x6006 (e + 1) 1) := .oset s 1 (by omega) (by simp [spared])
  unfold Machine.ethDown
  exact .ite (h1.trans (.logged (Logged.logEv _ _ _ _ _))) (.ite h1 (.refl s))
theorem Spares.dailiesEnd (s : State) (cause reason : Nat) : Spares s (dailiesEnd s cause reason) := by
  unfold Machine.dailiesEnd
  extract_lets s1 s2 d s3
  have h1 : Spares s s1 := .foldl _ _ (fun _ _ => .qpError _ _ _) s
  have h2 : Spares s s2 := h1.trans (.foldl _ _ (fun _ _ => .flushHeld _ _) s1)
  have h3 : Spares s s3 := h2.trans (.of_eq rfl rfl)
  exact (h3.trans (.ethDown _ _ _ (by omega))).trans (.ethDown _ _ _ (by omega))

/-! The links at a drain (R31, R366). -/

theorem Spares.freeUnits (s : State) (inp : Nat) (pool : Fin 8) (n : Nat) : Spares s (freeUnits s inp pool n) := .ite (.of_eq rfl rfl) (.refl s)
theorem Spares.answer (s : State) (p : Packet) (status : Nat) (data : List Byte) (poison : Nat) : Spares s (answer s p status data poison) :=
  .ite (.of_eq rfl rfl) (.of_eq rfl rfl)
/-- No object of a port is spared. -/
theorem Spares.pset (s : State) (p : Fin 6) (sub v : Nat) (h : sub < 256) : Spares s (pset s p sub v) := by
  refine .oset s v h ?_
  unfold spared
  omega
theorem Spares.trainStart (s : State) (p : Fin 6) : Spares s (trainStart s p) :=
  .ite (.pset s p 2 1 (by omega)) ((Spares.pset s p 2 2 (by omega)).trans (.of_eq rfl rfl))
theorem Spares.linkDown (s : State) (p : Fin 6) (reason : Nat) : Spares s (linkDown s p reason) := by
  unfold Machine.linkDown
  extract_lets x wasUp s1 s2 s3 s4 s5
  have h1 : Spares s s1 := .of_eq rfl rfl
  have h2 : Spares s1 s2 := .foldl _ _ (fun _ _ => (Spares.freeUnits _ _ _ _).trans (.ite (.answer _ _ _ _ _) (.refl _))) s1
  have h3 : Spares s2 s3 := .ite ((Spares.pset s2 p 14 _ (by omega)).trans (.logged (Logged.logEv _ _ _ _ _))) (.refl s2)
  have h4 : Spares s3 s4 := .of_eq rfl rfl
  have h5 : Spares s4 s5 := .ite (.pset s4 p 2 0 (by omega)) (.ite (.pset s4 p 2 1 (by omega)) (.trainStart s4 p))
  exact ((((h1.trans h2).trans h3).trans h4).trans h5).trans (.retimed (.tcReparent s5))
theorem Spares.drainWork (s : State) (down : Bool) : Spares s (drainWork s down) := by
  unfold Machine.drainWork
  extract_lets s0 s1
  have h0 : Spares s s0 := .foldl _ _ (fun _ _ => .endFetched _ _ _ _) s
  have h1 : Spares s s1 := (h0.trans (.foldl _ _ (fun _ _ => .collDiscard _ _) s0)).trans (.dailiesEnd _ _ _)
  exact .ite (h1.trans (.foldl _ _ (fun _ _ => .ite (.refl _) (.linkDown _ _ _)) s1)) h1

/-! The discard of the takes (R65), and the drain as a whole. -/

/-- No object of a cluster is spared. -/
theorem Spares.cset (s : State) (c : Fin 8) (ix sub v : Nat) (h : sub < 256) (hix : 0x4000 ≤ ix ∧ ix < 0x4100) : Spares s (cset s c ix sub v) := by
  refine .oset s v h ?_
  unfold spared cobj
  omega
theorem Spares.stopClusters (s : State) (p : Fin 8) : Spares s (stopClusters s p) := by
  have h (u : State) (c : Fin 8) (f : Cluster → Cluster) : Spares u (Machine.cset (modC { u with fresh := u.fresh + 1 } c f) c 0x4002 0 4) := by
    have h0 : Spares u (modC { u with fresh := u.fresh + 1 } c f) := .of_eq rfl rfl
    exact h0.trans (.cset _ c 0x4002 0 4 (by omega) (by omega))
  exact (Spares.foldl (clustersOf s p) _ (fun u c => h u c _) s).trans (.of_eq rfl rfl)
theorem Spares.discardStart (s : State) (p : Fin 8) (why : Stop) : Spares s (discardStart s p why) := by
  unfold Machine.discardStart
  split
  · refine .ite (.refl s) (((Spares.collDiscard s p).trans ?_).trans (.stopClusters _ p))
    exact .of_eq rfl rfl
  · exact .refl s
theorem ite_lt {p : Prop} [Decidable p] {a b n : Nat} (ha : p → a < n) (hb : ¬ p → b < n) : (if p then a else b) < n := by
  split
  · exact ha ‹_›
  · exact hb ‹_›
/-- There are six dies. -/
theorem dieOf_lt (unit : Nat) : dieOf unit < 6 := by
  unfold dieOf
  repeat refine ite_lt (fun _ => by omega) (fun _ => ?_)
  omega
/-- DIE_STATUS is not spared. -/
theorem Spares.markDie (s : State) (unit : Nat) : Spares s (markDie s unit) := by
  have h := dieOf_lt unit
  exact .ite (.refl s) (.oset s 1 (by omega) (by simp [spared]))
theorem Spares.logCont (s : State) (unit t code fl pay sev cls cflags take instr : Nat) :
    Spares s (logCont (stamped s unit t) t unit code fl pay sev cls cflags take instr) :=
  .logged ((Logged.stamped s unit t).trans (.logCont _ _ _ _ _ _ _ _ _ _ _))

/-- A later suspect of a drained module is marked and logged, and may take the links down (R460): all that is spared stays. -/
theorem Spares.moduleDrain_again (s : State) (unit code cls t : Nat) (h : drained s = true) : Spares s (moduleDrain s unit code cls t) := by
  unfold moduleDrain
  extract_lets pay wasIo s1 t1 s2
  rw [if_pos h]
  refine .ite (.refl s) ?_
  have h2 : Spares s s2 := (Spares.markDie s unit).trans (.logCont _ _ _ _ _ _ _ _ _ _ _)
  exact .ite (h2.trans (.drainWork _ _)) h2
/-- The marks of the first suspect (R458). -/
def drainMarks (s : State) (unit code : Nat) : State :=
  oset (oset (oset (oset (markDie s unit) 0x7002 0 1) 0x7003 0 (sourceOf (markDie s unit) unit)) 0x7004 0 code) 0x7006 0 1
/-- What the first suspect leads to after its marks (R458) spares them. -/
theorem Spares.moduleDrain_first (s : State) (unit code cls t : Nat) (h : drained s = false) :
    Spares (drainMarks s unit code) (moduleDrain s unit code cls t) := by
  unfold moduleDrain
  extract_lets pay wasIo s1 t1 s2 n m s3 s4 s5 t2
  rw [if_neg (by simp [h])]
  have h3 : Spares (drainMarks s unit code) s3 := .foldl _ _ (fun _ _ => .discardStart _ _ _) _
  have h4 : Spares s3 s4 := by
    refine .foldl _ _ (fun u c => .ite ?_ (.refl u)) s3
    exact .cset u c 0x4002 0 6 (by omega) (by omega)
  exact ((h3.trans h4).trans (.drainWork s4 _)).trans (.logCont _ _ _ _ _ _ _ _ _ _ _)
theorem drainMarks_drained (s : State) (unit code : Nat) : oget (drainMarks s unit code) 0x7002 0 = 1 := by
  unfold drainMarks
  rw [oget_oset_other _ _ (by omega) (by omega) (by omega), oget_oset_other _ _ (by omega) (by omega) (by omega),
    oget_oset_other _ _ (by omega) (by omega) (by omega), oget_oset_same]

/-- A suspect leaves the module DRAINED (R458). -/
theorem moduleDrain_drained (s : State) (unit code cls t : Nat) : drained (moduleDrain s unit code cls t) = true := by
  have hs : spared 0x7002 0 := by simp [spared]
  cases h : drained s with
  | true => simpa only [drained, (Spares.moduleDrain_again s unit code cls t h).objs _ _ hs] using h
  | false => simp only [drained, (Spares.moduleDrain_first s unit code cls t h).objs _ _ hs, drainMarks_drained, beq_self_eq_true]
/-- The errors of the mesh and the states of the stacks stay as they are when the module drains. -/
theorem oget_moduleDrain (s : State) (unit code cls t : Nat) {ix sub : Nat} (hix : ix = 0x1022 ∨ ix = 0x3010) (hsub : sub < 256) :
    oget (moduleDrain s unit code cls t) ix sub = oget s ix sub := by
  have hs : spared ix sub := ⟨hsub, by omega⟩
  cases h : drained s with
  | true => exact (Spares.moduleDrain_again s unit code cls t h).objs _ _ hs
  | false =>
    rw [(Spares.moduleDrain_first s unit code cls t h).objs _ _ hs]
    unfold drainMarks
    rw [oget_oset_other _ _ (by omega) hsub (by omega), oget_oset_other _ _ (by omega) hsub (by omega),
      oget_oset_other _ _ (by omega) hsub (by omega), oget_oset_other _ _ (by omega) hsub (by omega)]
    exact (Spares.markDie s unit).objs _ _ hs
/-- Start-up goes on when the module drains. -/
theorem moduleDrain_boot (s : State) (unit code cls t : Nat) : (moduleDrain s unit code cls t).boot = s.boot := by
  cases h : drained s with
  | true => exact (Spares.moduleDrain_again s unit code cls t h).boot
  | false => exact (Spares.moduleDrain_first s unit code cls t h).boot.trans (Spares.markDie s unit).boot

end Sys2Proof.Machine
end

section
/-! SUPPORT. Errors of mesh flits (R15, R16, R19, R20): the ends of a link on a path, incidents below the limit of R456, and what a hit flit leaves. -/

namespace Sys2Proof.Machine

/-! The ends of a link (R15, R16). -/

/-- Each link of a fixed path is left at one of its ends. -/
theorem meshPath_ends {a b link die : Nat} (h : (link, die) ∈ meshPath a b) : die = (meshEnds link).1 ∨ die = (meshEnds link).2 := by
  unfold meshPath at h
  split at h
  · simp at h
  next hout =>
  split at h
  · split at h
    · obtain ⟨i, hi, he⟩ := List.mem_map.1 h
      obtain ⟨rfl, rfl⟩ := Prod.mk.inj he
      have hlt := List.mem_range.1 hi
      simp only [meshEnds, if_pos (show a + i < 3 by omega), or_true]
    · obtain ⟨i, hi, he⟩ := List.mem_map.1 h
      obtain ⟨rfl, rfl⟩ := Prod.mk.inj he
      have hlt := List.mem_range.1 hi
      simp only [meshEnds, if_pos (show a - 1 - i < 3 by omega), true_or]
  split at h
  · obtain ⟨rfl, rfl⟩ := Prod.mk.inj (List.mem_singleton.1 h)
    rw [show meshEnds 11 = (4, 5) from rfl]
    omega
  · obtain ⟨rfl, rfl⟩ := Prod.mk.inj (List.mem_singleton.1 h)
    simp only [meshEnds]
    split
    · rw [if_neg (by omega), if_pos (by omega)]
      omega
    · rw [if_neg (by omega), if_neg (by omega), if_pos (by omega)]
      omega
theorem onMeshPath_ends {a b link die : Nat} (h : onMeshPath a b link die = true) : die = (meshEnds link).1 ∨ die = (meshEnds link).2 :=
  meshPath_ends (List.contains_iff_mem.1 h)
/-- A flit crosses a link to one of its ends. -/
theorem crosses_ends {s : State} {link die : Nat} {load : MeshLoad} (h : crosses s link die load = true) :
    die = (meshEnds link).1 ∨ die = (meshEnds link).2 := by
  cases load with
  | read u g =>
    obtain ⟨a, -, ha⟩ := (Option.any_eq_true _ _).1 h
    exact onMeshPath_ends ha
  | write u gs =>
    simp only [crosses, Bool.not_eq_true', List.isEmpty_eq_false_iff] at h
    obtain ⟨g, hg⟩ := List.exists_mem_of_ne_nil _ h
    obtain ⟨b, -, hb⟩ := (Option.any_eq_true _ _).1 (List.mem_filter.1 hg).2
    exact onMeshPath_ends hb
  | packet i k =>
    simp only [crosses] at h
    split at h
    · obtain ⟨x, -, hx⟩ := (Option.any_eq_true _ _).1 h
      exact onMeshPath_ends hx
    · cases h

/-! Incidents (R456). -/

theorem sendCan_incidents (s : State) (id : Nat) (d : List Byte) : (sendCan s id d).logs.incidents = s.logs.incidents := by
  unfold sendCan
  split <;> rfl
theorem eventFrame_incidents (s : State) (r : EvRec) : (eventFrame s r).logs.incidents = s.logs.incidents := by
  unfold eventFrame
  extract_lets
  split
  · exact sendCan_incidents _ _ _
  · rfl
theorem eventMsix_incidents (s : State) (code : Nat) : (eventMsix s code).logs.incidents = s.logs.incidents := by
  unfold eventMsix
  generalize fins 8 = l
  induction l generalizing s with
  | nil => rfl
  | cons p l ih =>
    rw [List.foldl_cons, ih]
    split <;> rfl
/-- A log entry adds no incident. -/
theorem logEv_incidents (s : State) (unit code fl pay : Nat) : (logEv s unit code fl pay).logs.incidents = s.logs.incidents := by
  simp only [logEv, logEvAt]
  rw [eventMsix_incidents, eventFrame_incidents]
  simp only
  split <;> rfl
/-- The incidents within the window are counted in the history, by the powered time and SUSPECT_WINDOW. -/
theorem incidentCount_congr {s t : State} (hi : t.logs.incidents = s.logs.incidents) (h : oget t 0x7007 0 = oget s 0x7007 0)
    (hw : oget t 0x7011 0 = oget s 0x7011 0) (cls unit : Nat) : incidentCount t cls unit = incidentCount s cls unit := by
  simp only [incidentCount, incidentsOf, hi, h, hw]
/-- An incident more counts at most one more. -/
theorem incidentCount_append_le (s : State) (i : Incident) (cls unit : Nat) :
    incidentCount { s with logs := { s.logs with incidents := s.logs.incidents ++ [i] } } cls unit ≤ incidentCount s cls unit + 1 := by
  have hg : ∀ ix sub, oget { s with logs := { s.logs with incidents := s.logs.incidents ++ [i] } } ix sub = oget s ix sub := fun _ _ => rfl
  simp only [incidentCount, incidentsOf, hg, List.filter_append, List.reverse_append, List.length_append]
  have h1 := List.length_filter_le (fun j : Incident => decide (oget s 0x7007 0 ≤ j.sec + oget s 0x7011 0))
    ([i].filter (fun j => j.cls == cls && j.unit == unit)).reverse
  have h2 := List.length_filter_le (fun j : Incident => j.cls == cls && j.unit == unit) [i]
  simp only [List.length_reverse, List.length_singleton] at h1 h2
  omega
theorem countIncident_count_le (s : State) (cls unit : Nat) : incidentCount (countIncident s cls unit) cls unit ≤ incidentCount s cls unit + 1 := by
  refine Nat.le_trans (Nat.le_of_eq ?_) (incidentCount_append_le s ⟨cls, unit, oget s 0x7007 0⟩ cls unit)
  simp only [countIncident]
  split
  · refine incidentCount_congr (logEv_incidents _ _ _ _ _) ?_ ?_ _ _
    · exact (Logged.logEv _ _ _ _ _).oget_eq (by simp) (by omega)
    · exact (Logged.logEv _ _ _ _ _).oget_eq (by simp) (by omega)
  · rfl
/-- An incident that stays below the limit of its class makes no unit suspect (R456). -/
theorem madeSuspect_countIncident {s : State} {cls unit : Nat} (hcls : cls < 256)
    (h : oget s 0x7010 cls = 0 ∨ incidentCount s cls unit + 1 < oget s 0x7010 cls) : madeSuspect s (countIncident s cls unit) cls unit = false := by
  have hl : oget (countIncident s cls unit) 0x7010 cls = oget s 0x7010 cls := (Logged.countIncident s cls unit).oget_eq (by simp) hcls
  have hc := countIncident_count_le s cls unit
  have hn : suspectNow (countIncident s cls unit) cls unit = false := by
    simp only [suspectNow, hl, Bool.and_eq_false_iff, decide_eq_false_iff_not]
    omega
  simp only [madeSuspect, hn, Bool.false_and]
/-- Below the limit an incident is logged, and nothing else comes of it. -/
theorem incident_logged {s : State} {cls unit : Nat} (code fl pay take : Nat) (hcls : cls < 256)
    (h : oget s 0x7010 cls = 0 ∨ incidentCount s cls unit + 1 < oget s 0x7010 cls) : Logged s (incident s unit cls code fl pay take) := by
  have hs : madeSuspect s (countIncident (stamped s unit (stampTc s unit)) cls unit) cls unit = false :=
    madeSuspect_countIncident (s := stamped s unit (stampTc s unit)) hcls h
  simp only [incident, hs, Bool.false_eq_true, if_false]
  exact ((Logged.stamped s _ _).trans (.countIncident _ _ _)).trans (.logCont _ _ _ _ _ _ _ _ _ _ _)

/-! What a hit flit leaves (R20). -/

/-- A link of the mesh that a flit crosses does not stop it. -/
theorem crosses_not_stopped {s : State} {link : Nat} {die : Fin 6} {load : MeshLoad} (hl : link < 12) (hc : crosses s link die.val load = true) :
    (decide (12 ≤ link) || !crosses s link die.val load) = false := by
  simp only [hc, Bool.not_true, Bool.or_false, decide_eq_false_iff_not]
  omega
/-- What a flit on its path does without an error, with a corrected one, and with an uncorrectable one in its data. -/
theorem meshFlitArrival_crossing {s : State} {link : Nat} {die : Fin 6} {load : MeshLoad} (hl : link < 12) (hc : crosses s link die.val load = true)
    (h : Bool) :
    meshFlitArrival s link die .none h load = s ∧ meshFlitArrival s link die .corrected h load = obump s 0x1021 (link + 1) 1 ∧
    meshFlitArrival s link die .uncorrectable false load =
      incident (hitLoad s link die.val load) (0xA0 + link) 8 0x0603 0 (payOf [(16, link), (17, 0), (18, die.val), (24, loadAddr s load)]) 0 := by
  simp only [meshFlitArrival, crosses_not_stopped hl hc, Bool.false_eq_true, if_false, and_self]
/-- Off its path no flit arrives. -/
theorem meshFlitArrival_off_path {s : State} {link : Nat} {die : Fin 6} {load : MeshLoad} (hc : crosses s link die.val load = false) (err : MemErr)
    (h : Bool) : meshFlitArrival s link die err h load = s := by
  simp only [meshFlitArrival, hc, Bool.not_false, Bool.or_true, if_true]
theorem hitLoad_obj (s : State) (link die : Nat) (load : MeshLoad) : (hitLoad s link die load).obj = s.obj := by cases load <;> rfl
theorem hitLoad_logs (s : State) (link die : Nat) (load : MeshLoad) : (hitLoad s link die load).logs = s.logs := by cases load <;> rfl
theorem hitLoad_mem (s : State) (link die : Nat) (load : MeshLoad) : (hitLoad s link die load).mem = s.mem := by cases load <;> rfl
theorem hitLoad_pz (s : State) (link die : Nat) (load : MeshLoad) : (hitLoad s link die load).pz = s.pz := by cases load <;> rfl
theorem hitLoad_cl (s : State) (link die : Nat) (load : MeshLoad) : (hitLoad s link die load).cl = s.cl := by cases load <;> rfl
/-- The packet of a hit flit is poisoned at its granule; every other packet stays. -/
theorem hitLoad_packet_queue (s : State) (link die i k j : Nat) :
    (hitLoad s link die (.packet i k)).fab.queue[j]? = (s.fab.queue[j]?).map (fun x => if j = i then (x.1, { x.2 with
      poison := if x.2.data.isEmpty then x.2.poison else x.2.poison ||| 2 ^ ((x.2.addr % 2048 / 64 + k) % 32) }) else x) := by
  simp only [hitLoad, List.getElem?_map, List.getElem?_zipIdx, Option.map_map, Nat.zero_add]
  rfl
/-- Below the limit of suspects, an error in data changes the log and what the flit carries. -/
theorem meshFlitArrival_data {s : State} {link : Nat} {die : Fin 6} {load : MeshLoad} (hl : link < 12) (hc : crosses s link die.val load = true)
    (h : oget s 0x7010 8 = 0 ∨ incidentCount s 8 (0xA0 + link) + 1 < oget s 0x7010 8) :
    Logged (hitLoad s link die.val load) (meshFlitArrival s link die .uncorrectable false load) := by
  rw [(meshFlitArrival_crossing hl hc false).2.2]
  refine incident_logged _ _ _ _ (by omega) ?_
  rw [incidentCount_congr (congrArg Logs.incidents (hitLoad_logs s link die.val load)) (oget_congr (hitLoad_obj ..) _ _) (oget_congr (hitLoad_obj ..) _ _),
    oget_congr (hitLoad_obj ..)]
  exact h

/-- A discarded flit takes a packet, and no object. -/
theorem loseLoad_obj (s : State) (load : MeshLoad) : (loseLoad s load).obj = s.obj := by
  unfold loseLoad
  split
  · split
    · unfold freeUnits
      split <;> rfl
    · rfl
  · rfl
/-- An error in a header is counted, and drains the module. -/
theorem meshFlitArrival_header {s : State} {link : Nat} {die : Fin 6} {load : MeshLoad} (hl : link < 12) (hc : crosses s link die.val load = true) :
    drained (meshFlitArrival s link die .uncorrectable true load) = true ∧
    oget (meshFlitArrival s link die .uncorrectable true load) 0x1022 (link + 1) = min (oget s 0x1022 (link + 1) + 1) (objMax 0x1022 (link + 1)) := by
  simp only [meshFlitArrival, crosses_not_stopped hl hc, Bool.false_eq_true, if_false, if_true]
  refine ⟨moduleDrain_drained _ _ _ _ _, ?_⟩
  rw [oget_moduleDrain _ _ _ _ _ (.inl rfl) (by omega)]
  rw [((Logged.stamped _ _ _).trans (Logged.logCont _ _ _ _ _ _ _ _ _ _ _)).oget_eq (by simp) (by omega)]
  rw [oget_obump_same, oget_congr (loseLoad_obj s load)]

/-- Settles O25, by the fixed paths and by what an incident below the limit of R456 leaves alone. That a hit waits in meshHits for its unit's access is
the model's choice (log entry 87). -/
theorem meshFlitErrors : Obligations.MeshFlitErrors := by
  unfold Obligations.MeshFlitErrors
  intro s link die load hl
  refine ⟨fun hc err h => ⟨_, rfl, meshFlitArrival_off_path hc err h⟩, fun hc => ?_⟩
  refine ⟨crosses_ends hc, fun h => ⟨_, rfl, (meshFlitArrival_crossing hl hc h).1⟩, fun h => ⟨_, rfl, (meshFlitArrival_crossing hl hc h).2.1⟩,
    fun hlim => ⟨_, rfl, ?_⟩, ⟨_, rfl, meshFlitArrival_header hl hc⟩⟩
  have hlog := meshFlitArrival_data hl hc hlim
  refine ⟨hlog.mem.trans (hitLoad_mem ..), hlog.pz.trans (hitLoad_pz ..), hlog.cl.trans (hitLoad_cl ..), ?_, ?_, ?_⟩
  · rintro u g rfl
    exact ⟨hlog.meshHits, congrArg Fabric.queue hlog.fab⟩
  · rintro u gs rfl
    exact ⟨hlog.meshHits, congrArg Fabric.queue hlog.fab⟩
  · rintro i k inp p rfl hi hd
    have hq := congrArg Fabric.queue hlog.fab
    refine ⟨hlog.meshHits, fun j hj => ?_, ?_⟩
    · rw [hq, hitLoad_packet_queue]
      simp [hj]
    · rw [hq, hitLoad_packet_queue, hi]
      simp [hd]

end Sys2Proof.Machine
end

section
/-! SUPPORT. The home of a clapper performs an operation (R296, R297) of which no waiter is satisfied. -/

namespace Sys2Proof.Machine

/-- Where no waiter of clapper n is satisfied by v, none is released. -/
theorem releaseAll_none {s : State} {n : Nat} {v : Word} (h : ∀ w ∈ s.waiters, w.clap = n → satisfied w v = false) : releaseAll s n v = s := by
  have hf : s.waiters.filter (fun w => w.clap == n && satisfied w v) = [] := by
    refine List.filter_eq_nil_iff.2 fun w hw hc => ?_
    obtain ⟨h1, h2⟩ := Bool.and_eq_true_iff.1 hc
    rw [h w hw (beq_iff_eq.1 h1)] at h2
    cases h2
  have hk : s.waiters.filter (fun w => !(w.clap == n && satisfied w v)) = s.waiters := by
    refine List.filter_eq_self.2 fun w hw => ?_
    rw [Bool.eq_false_iff.2 (List.filter_eq_nil_iff.1 hf w hw), Bool.not_false]
  unfold releaseAll
  simp only [hf, hk, List.foldl_nil]
/-- An operation on an unpoisoned clapper answers the old value, and writes the new one and its counter (R296). -/
theorem homePerform_quiet {s : State} {n op : Nat} {x cmp : Word} (hb : clapBad s n = false)
    (hw : ∀ w ∈ s.waiters, w.clap = n → satisfied w (clapApply op (clapGet s n) x cmp) = false) :
    homePerform s n op x cmp = (some (clapGet s n),
      obump { s with clapVal := mset 0 s.clapVal n (clapApply op (clapGet s n) x cmp), clapPz := if op = 1 then mset false s.clapPz n false else s.clapPz }
        (cobj (homeOf s n) 0x4070) 1 1) := by
  simp only [homePerform, hb, Bool.false_and, Bool.false_eq_true, if_false]
  exact congrArg _ (releaseAll_none hw)
/-- The home has taken the n-th waiting operation m, written v and counted it (R296, R297). -/
def clapWritten (s : State) (n : Nat) (m : ClapMsg) (v : Word) : State :=
  obump { s with
    clapOps := dropAt s.clapOps n, clapVal := mset 0 s.clapVal m.clap v, clapPz := if m.op = 1 then mset false s.clapPz m.clap false else s.clapPz }
    (cobj (homeOf s m.clap) 0x4070) 1 1
/-- Writing and counting change no mode. -/
theorem paired_clapWritten (s : State) (n : Nat) (m : ClapMsg) (v : Word) : paired (clapWritten s n m v) = paired s := by
  simp only [paired, checkMode, clapWritten]
  rw [oget_obump_other _ _ (by omega) (by omega) (.inl (by unfold cobj; omega))]
  rfl
/-- The home that served a clapper still serves it. -/
theorem homeOf_clapWritten (s : State) (n : Nat) (m : ClapMsg) (v : Word) : homeOf (clapWritten s n m v) m.clap = homeOf s m.clap := by
  simp only [homeOf, paired_clapWritten]
/-- The operation that a home takes next, performed on an unpoisoned clapper. -/
theorem clapperOpPerform_served {s : State} {n : Nat} {m : ClapMsg} (hm : s.clapOps[n]? = some m) (hs : clapsServed s = true)
    (hh : (s.clapOps.take n).any (fun x => heldBack s x m) = false) (hb : clapBad s m.clap = false)
    (hw : ∀ w ∈ s.waiters, w.clap = m.clap → satisfied w (clapApply m.op (clapGet s m.clap) m.val m.cmp) = false) :
    clapperOpPerform s n .none = clapDone (clapWritten s n m (clapApply m.op (clapGet s m.clap) m.val m.cmp)) m (clapGet s m.clap) := by
  have hq := homePerform_quiet (s := { s with clapOps := dropAt s.clapOps n }) (n := m.clap) (op := m.op) (x := m.val) (cmp := m.cmp) hb hw
  simp only [clapperOpPerform, hm, hs, hh, Bool.not_true, Bool.or_self, Bool.false_eq_true, if_false, clapEcc, hq]
  rfl
/-- Outside PAIRED mode a returned value sets out for the register that awaits it. -/
theorem returnTo_awaited {s : State} {c : Fin 8} {rd : Nat} (v : Word) (source : Nat) (hp : paired s = false)
    (ha : s.cl[c].core.awaits.contains rd = true) : returnTo s c rd v source = { s with clapRes := s.clapRes ++ [(c, rd, v, source)] } := by
  simp only [returnTo, hp, Bool.false_eq_true, if_false, List.foldl_cons, List.foldl_nil, ha, if_true]
/-- The old value sets out for the register of a CLAP that awaits it, and for nothing when none does. -/
theorem clapDone_clapRes {s : State} {m : ClapMsg} (old : Word) {c : Fin 8} {rd : Nat}
    (hret : m.ret = .none ∨ (m.ret = .core c rd ∧ paired s = false ∧ s.cl[c].core.awaits.contains rd = true)) :
    clapDone s m old = { s with clapRes := s.clapRes ++ (if m.ret = .none then [] else [(c, rd, old, (homeOf s m.clap).val)]) } := by
  rcases hret with hr | ⟨hr, hpair, ha⟩
  · simp only [clapDone, hr, if_true, List.append_nil]
  · simp only [clapDone, hr, reduceCtorEq, if_false]
    exact returnTo_awaited _ _ hpair ha

/-- Settles O27: the operation served is `clapApply` of its code, and what is left is where the old value goes. -/
theorem clapperHomePerforms : Obligations.ClapperHomePerforms := by
  unfold Obligations.ClapperHomePerforms
  intro s n m hm hs hb hh old new hop hw c rd hret
  have hnew : clapApply m.op (clapGet s m.clap) m.val m.cmp = new := by
    simp only [new, old]
    generalize m.op = op at hop ⊢
    match op, hop with
    | 0, _ | 1, _ | 2, _ | 3, _ | 4, _ | 5, _ | 6, _ => rfl
    | _ + 7, h => exact absurd h (by omega)
  have hp := clapperOpPerform_served hm hs hh hb (by rwa [hnew])
  rw [hnew, clapDone_clapRes (c := c) (rd := rd) _ (by rwa [paired_clapWritten]), homeOf_clapWritten] at hp
  refine ⟨_, rfl, ?_⟩
  rw [hp]
  exact ⟨rfl, mget_mset_same _ _ _ _, fun k hk => mget_mset_ne _ _ _ _ _ hk, rfl, rfl, rfl, rfl, rfl⟩

end Sys2Proof.Machine
end

section
/-! SUPPORT. Ports: their objects, training (R358), IDENT (R359, R360), and the fall of a link (R366). -/

namespace Sys2Proof.Machine

/-! The objects of a port (R384). -/

theorem pget_pset_same (s : State) (p : Fin 6) (sub v : Nat) : pget (pset s p sub v) p sub = v := oget_oset_same _ _ _ _
theorem pget_pset_ne (s : State) (p : Fin 6) {sub sub' : Nat} (v : Nat) (h : sub < 256) (h' : sub' < 256) (hne : sub' ≠ sub) :
    pget (pset s p sub v) p sub' = pget s p sub' := oget_oset_other _ _ h h' (.inr hne)
theorem pget_pbump_same (s : State) (p : Fin 6) (sub d : Nat) : pget (pbump s p sub d) p sub = min (pget s p sub + d) (objMax (0x5010 + p.val) sub) :=
  oget_obump_same _ _ _ _
theorem pget_pbump_ne (s : State) (p : Fin 6) {sub sub' : Nat} (d : Nat) (h : sub < 256) (h' : sub' < 256) (hne : sub' ≠ sub) :
    pget (pbump s p sub d) p sub' = pget s p sub' := oget_obump_other _ _ h h' (.inr hne)
/-- Log entries leave the ports' objects alone. -/
theorem Logged.pget_eq {s t : State} (h : Logged s t) (p : Fin 6) {sub : Nat} (hsub : sub < 256) : pget t p sub = pget s p sub := by
  refine h.oget_eq ?_ hsub
  simp only [List.mem_cons, List.not_mem_nil, or_false]
  omega
/-- So does the choice of a parent in the time tree. -/
theorem Retimed.pget_eq {s t : State} (h : Retimed s t) (p : Fin 6) {sub : Nat} (hsub : sub < 256) : pget t p sub = pget s p sub := by
  refine h.objs _ _ ?_ hsub
  simp only [List.mem_cons, List.not_mem_nil, or_false]
  omega
theorem Retimed.fab {s t : State} (h : Retimed s t) : t.fab = s.fab := by
  obtain ⟨_, _, _, _, _, rfl⟩ := h.same
  rfl
theorem modPort_same (s : State) (p : Fin 6) (f : FabPort → FabPort) : (modPort s p f).fab.port[p] = f s.fab.port[p] := vmod_same _ _ _
theorem modPort_ne (s : State) {p q : Fin 6} (f : FabPort → FabPort) (h : q ≠ p) : (modPort s p f).fab.port[q] = s.fab.port[q] := vmod_ne _ _ _ _ h

/-! Training (R358). -/

/-- Training begins at step 1 with the port in state 2, unless the links stay down. -/
theorem trainStart_barred {s : State} (h : linksBarred s = true) (p : Fin 6) : trainStart s p = pset s p 2 1 := if_pos h
theorem trainStart_free {s : State} (h : linksBarred s = false) (p : Fin 6) :
    trainStart s p = modPort (pset s p 2 2) p (fun x => { x with step := 1, stepAt := s.now, trainAt := s.now, ctl := [], rxCtl := [] }) :=
  if_neg (by simp [h])
theorem portState_trainStart (s : State) (p : Fin 6) : portState (trainStart s p) p = if linksBarred s = true then 1 else 2 := by
  cases h : linksBarred s with
  | true =>
    rw [trainStart_barred h]
    exact pget_pset_same s p 2 1
  | false =>
    rw [trainStart_free h]
    exact pget_pset_same s p 2 2
theorem pget_trainStart_ne (s : State) (p : Fin 6) {sub : Nat} (h : sub < 256) (hne : sub ≠ 2) : pget (trainStart s p) p sub = pget s p sub := by
  cases hb : linksBarred s with
  | true =>
    rw [trainStart_barred hb]
    exact pget_pset_ne s p 1 (by omega) h hne
  | false =>
    rw [trainStart_free hb]
    exact pget_pset_ne s p 2 (by omega) h hne
/-- The start of training keeps what a port queues, its retry buffer and its hold. -/
theorem trainStart_port (s : State) (p : Fin 6) : (trainStart s p).fab.port[p].retry = s.fab.port[p].retry ∧
    (trainStart s p).fab.port[p].txq = s.fab.port[p].txq ∧ (trainStart s p).fab.port[p].held = s.fab.port[p].held := by
  cases h : linksBarred s with
  | true => simp only [trainStart_barred h, pset, oset_fab, and_self]
  | false => simp only [trainStart_free h, modPort_same, pset, oset_fab, and_self]

/-! The fall of a link (R366). -/

/-- t has come from s by freeing buffers and answering requests: packets apart, port p has changed in the units it has freed alone. -/
structure Freed (p : Fin 6) (s t : State) : Prop where
  same : ∃ f, t = { s with fab := f }
  port : ∃ v, t.fab.port[p] = { s.fab.port[p] with freed := v }

theorem Freed.refl (p : Fin 6) (s : State) : Freed p s s := ⟨⟨_, rfl⟩, ⟨_, rfl⟩⟩
theorem Freed.trans {p : Fin 6} {s t u : State} (h : Freed p s t) (k : Freed p t u) : Freed p s u := by
  obtain ⟨⟨f, rfl⟩, ⟨v, hv⟩⟩ := h
  obtain ⟨⟨g, rfl⟩, ⟨w, hw⟩⟩ := k
  exact ⟨⟨g, rfl⟩, ⟨w, by rw [hw, hv]⟩⟩
theorem Freed.freeUnits (p : Fin 6) (s : State) (inp : Nat) (pool : Fin 8) (n : Nat) : Freed p s (freeUnits s inp pool n) := by
  unfold Machine.freeUnits
  split
  · refine ⟨⟨_, rfl⟩, ?_⟩
    by_cases h : p = toPort inp
    · subst h
      exact ⟨_, modPort_same _ _ _⟩
    · exact ⟨_, modPort_ne _ _ h⟩
  · exact .refl p s
theorem Freed.answer (p : Fin 6) (s : State) (q : Packet) (status : Nat) (data : List Byte) (poison : Nat) : Freed p s (answer s q status data poison) := by
  unfold Machine.answer
  extract_lets
  split <;> exact ⟨⟨_, rfl⟩, ⟨_, rfl⟩⟩
theorem Freed.foldl {A : Type} (p : Fin 6) (l : List A) (f : State → A → State) (hf : ∀ s a, Freed p s (f s a)) (s : State) : Freed p s (l.foldl f s) :=
  foldl_rel (.refl p) .trans l f hf s

/-- u is s after its port p has fallen and before its next state is chosen (R366): the link state is fresh, and a link that was UP or MISWIRED is counted. -/
structure Fallen (p : Fin 6) (s u : State) : Prop where
  port : ∃ v, u.fab.port[p] = { freshLink s.fab.port[p] with step := 0, freed := v }
  objs : ∀ ix sub, ix ∉ [0x7020, 0x7022, 0x7030, 0x7032, 0x7033, 0x1205] → sub < 256 → ix ≠ 0x5010 + p.val ∨ sub ≠ 14 → oget u ix sub = oget s ix sub
  count : portState s p = 4 ∨ portState s p = 3 → pget u p 14 = min (pget s p 14 + 1) (objMax (0x5010 + p.val) 14)

/-- The next state of a fallen port (R366): disabled, held down, or training again. -/
def afterFall (u : State) (p : Fin 6) (stay : Bool) : State :=
  if pget u p 1 = 0 then pset u p 2 0 else if stay then pset u p 2 1 else trainStart u p

/-- A fallen link is fresh and counted, then its port takes its next state, and the tree of time chooses anew. -/
theorem linkDown_fallen (s : State) (p : Fin 6) (reason : Nat) : ∃ u, Fallen p s u ∧
    linkDown s p reason = tcReparent (afterFall u p (s.fab.port[p].held || reason == 5 || reason == 6)) := by
  unfold linkDown
  extract_lets x wasUp s1 s2 s3 s4 s5
  refine ⟨s4, ?_, rfl⟩
  have h2 : Freed p s1 s2 := by
    refine .foldl p _ _ (fun u e => ?_) s1
    extract_lets u'
    have hu : Freed p u u' := .freeUnits _ _ _ _ _
    split
    · exact hu.trans (.answer _ _ _ _ _ _)
    · exact hu
  obtain ⟨⟨f, hf⟩, ⟨v, hv⟩⟩ := h2
  have hobj : s2.obj = s.obj := by rw [hf]; rfl
  have hport : s2.fab.port[p] = { freshLink s.fab.port[p] with step := 0, freed := v } := by
    rw [hv]
    exact congrArg (fun y : FabPort => { y with freed := v }) (modPort_same _ _ _)
  have hfell (hw : wasUp = true) : Logged (pbump s2 p 14 1) s3 := by
    simp only [s3, hw, if_true]
    exact Logged.logEv _ _ _ _ _
  have hstay (hw : wasUp = false) : s3 = s2 := by simp only [s3, hw, Bool.false_eq_true, if_false]
  refine ⟨⟨v, ?_⟩, fun ix sub hix hsub hne => ?_, fun hup => ?_⟩
  · cases hw : wasUp with
    | true => exact (congrArg (fun y : Fabric => y.port[p]) (hfell hw).fab).trans hport
    | false => exact (congrArg (fun y : State => y.fab.port[p]) (hstay hw)).trans hport
  · rw [← oget_congr hobj]
    cases hw : wasUp with
    | true => exact ((hfell hw).oget_eq hix hsub).trans (oget_obump_other _ _ (by omega) hsub hne)
    | false => exact congrArg (fun y : State => oget (modTm y (fun t => { t with nbr := vset t.nbr p none })) ix sub) (hstay hw)
  · have hw : wasUp = true := by
      simp only [wasUp, Bool.or_eq_true, beq_iff_eq]
      exact hup
    have h14 : pget s2 p 14 = pget s p 14 := oget_congr hobj _ _
    exact ((hfell hw).pget_eq p (by omega)).trans (by rw [pget_pbump_same, h14])
/-- A fallen port has an empty retry buffer and queue, and its hold. -/
theorem Fallen.empty {p : Fin 6} {s u : State} (h : Fallen p s u) :
    u.fab.port[p].retry = [] ∧ u.fab.port[p].txq = [] ∧ u.fab.port[p].held = s.fab.port[p].held := by
  obtain ⟨v, hv⟩ := h.port
  rw [hv]
  exact ⟨rfl, rfl, rfl⟩
theorem Fallen.pget_eq {p : Fin 6} {s u : State} (h : Fallen p s u) {sub : Nat} (hsub : sub < 256) (hne : sub ≠ 14) : pget u p sub = pget s p sub := by
  refine h.objs _ _ ?_ hsub (.inr hne)
  simp only [List.mem_cons, List.not_mem_nil, or_false]
  omega
/-- Whether the links stay down does not change with the fall of one. -/
theorem Fallen.linksBarred {p : Fin 6} {s u : State} (h : Fallen p s u) : linksBarred u = linksBarred s := by
  simp only [Machine.linksBarred, drained, h.objs 0x7002 0 (by simp) (by omega) (by omega), h.objs 0x7003 0 (by simp) (by omega) (by omega)]
theorem portState_afterFall (u : State) (p : Fin 6) (stay : Bool) :
    portState (afterFall u p stay) p = if pget u p 1 = 0 then 0 else if (stay || linksBarred u) = true then 1 else 2 := by
  unfold afterFall
  split
  · exact pget_pset_same u p 2 0
  cases stay with
  | true => exact pget_pset_same u p 2 1
  | false => exact portState_trainStart u p
theorem pget_afterFall_ne (u : State) (p : Fin 6) (stay : Bool) {sub : Nat} (h : sub < 256) (hne : sub ≠ 2) :
    pget (afterFall u p stay) p sub = pget u p sub := by
  unfold afterFall
  split
  · exact pget_pset_ne u p 0 (by omega) h hne
  split
  · exact pget_pset_ne u p 1 (by omega) h hne
  · exact pget_trainStart_ne u p h hne
theorem afterFall_port (u : State) (p : Fin 6) (stay : Bool) : (afterFall u p stay).fab.port[p].retry = u.fab.port[p].retry ∧
    (afterFall u p stay).fab.port[p].txq = u.fab.port[p].txq ∧ (afterFall u p stay).fab.port[p].held = u.fab.port[p].held := by
  unfold afterFall
  split
  · exact ⟨rfl, rfl, rfl⟩
  split
  · exact ⟨rfl, rfl, rfl⟩
  · exact trainStart_port u p

/-- The state of a port after its link has fallen (R366). -/
theorem portState_linkDown (s : State) (p : Fin 6) (reason : Nat) : portState (linkDown s p reason) p =
    if pget s p 1 = 0 then 0 else if (s.fab.port[p].held || reason == 5 || reason == 6 || linksBarred s) = true then 1 else 2 := by
  obtain ⟨u, hu, he⟩ := linkDown_fallen s p reason
  have h2 : portState (linkDown s p reason) p = portState (afterFall u p (s.fab.port[p].held || reason == 5 || reason == 6)) p := by
    rw [he]
    exact (Retimed.tcReparent _).pget_eq p (by omega)
  rw [h2, portState_afterFall, hu.pget_eq (by omega) (by omega), hu.linksBarred]
/-- A fallen link has dropped its retry buffer and its queue; the port is held as it was. -/
theorem linkDown_port (s : State) (p : Fin 6) (reason : Nat) : (linkDown s p reason).fab.port[p].retry = [] ∧
    (linkDown s p reason).fab.port[p].txq = [] ∧ (linkDown s p reason).fab.port[p].held = s.fab.port[p].held := by
  obtain ⟨u, hu, he⟩ := linkDown_fallen s p reason
  obtain ⟨h1, h2, h3⟩ := hu.empty
  obtain ⟨k1, k2, k3⟩ := afterFall_port u p (s.fab.port[p].held || reason == 5 || reason == 6)
  rw [he, (Retimed.tcReparent _).fab]
  exact ⟨k1.trans h1, k2.trans h2, k3.trans h3⟩
/-- The fall of a link that was UP or MISWIRED is counted. -/
theorem linkDown_count {s : State} {p : Fin 6} (reason : Nat) (h : portState s p = 4 ∨ portState s p = 3) :
    pget (linkDown s p reason) p 14 = min (pget s p 14 + 1) (objMax (0x5010 + p.val) 14) := by
  obtain ⟨u, hu, he⟩ := linkDown_fallen s p reason
  rw [he, (Retimed.tcReparent _).pget_eq p (by omega), pget_afterFall_ne _ _ _ (by omega) (by omega), hu.count h]

/-! The commands on training. -/

/-- An outcome rewritten to a next state, of which P is then asked. -/
theorem Answers.of_next {o : Host.Outcome State Fault Refusal} {t : State} {P : State → Prop} (h : o = .next t) (hp : P t) : Answers o P := ⟨t, h, hp⟩

theorem trainStepComplete_in_time {s : State} {p : Fin 6} (eq : Nat) (lanes : List Nat) (inverted : Nat) (hs : portState s p = 2)
    (h1 : 1 ≤ s.fab.port[p].step) (h3 : s.fab.port[p].step ≤ 3) (hl : trainLate s p = false)
    (hj : s.fab.port[p].step = 3 → lanesJoined lanes = true) :
    trainStepComplete s p eq lanes inverted = modPort s p (fun x => { x with
      step := x.step + 1, stepAt := s.now, eq := if x.step = 1 then pget s p 5 else if x.step = 2 then eq % 256 ^ 64 else x.eq,
      laneRev := if x.step = 3 then lanes != List.range 8 else x.laneRev, laneInv := if x.step = 3 then inverted % 256 else x.laneInv,
      ctl := if x.step = 3 then List.replicate 16 (identMsg s p) else x.ctl }) :=
  if_pos ⟨hs, h1, h3, hl, hj⟩
/-- With another permutation of the lanes step 3 does not end. -/
theorem trainStepComplete_not_joined {s : State} {p : Fin 6} (eq : Nat) {lanes : List Nat} (inverted : Nat) (h3 : s.fab.port[p].step = 3)
    (hj : lanesJoined lanes = false) : trainStepComplete s p eq lanes inverted = s := by
  refine if_neg fun h => ?_
  rw [h.2.2.2.2 h3] at hj
  cases hj
theorem trainStepTimeout_late {s : State} {p : Fin 6} (lanes : Nat) (hs : portState s p = 2) (hl : trainLate s p = true) :
    portState (trainStepTimeout s p lanes) p = 5 ∧ (trainStepTimeout s p lanes).fab.port[p].backoffAt = s.now ∧
    lastEvent (trainStepTimeout s p lanes) = some (0x0304, payOf [(16, p.val), (17, s.fab.port[p].step), (18, lanes % 256)]) ∧
    pget (trainStepTimeout s p lanes) p 15 = min (pget s p 15 + 1) (objMax (0x5010 + p.val) 15) := by
  simp only [trainStepTimeout, if_pos (And.intro hs hl)]
  have hlog := Logged.logEv (pbump (modPort (pset s p 2 5) p (fun x => { x with backoffAt := s.now })) p 15 1) (portUnit p) 0x0304 0
    (payOf [(16, p.val), (17, s.fab.port[p].step), (18, lanes % 256)])
  refine ⟨?_, ?_, lastEvent_logEv _ _ _ _ _, ?_⟩
  · have h5 : pget (modPort (pset s p 2 5) p (fun x => { x with backoffAt := s.now })) p 2 = 5 := pget_pset_same s p 2 5
    exact (hlog.pget_eq p (by omega)).trans ((pget_pbump_ne _ p 1 (by omega) (by omega) (by omega)).trans h5)
  · exact (congrArg (fun f : Fabric => f.port[p].backoffAt) hlog.fab).trans (congrArg FabPort.backoffAt (modPort_same _ _ _))
  · have h15 : pget (modPort (pset s p 2 5) p (fun x => { x with backoffAt := s.now })) p 15 = pget s p 15 :=
      pget_pset_ne s p 5 (by omega) (by omega) (by omega)
    rw [hlog.pget_eq p (by omega), pget_pbump_same, h15]
/-- BACKOFF ends after 1 s in the start of training. -/
theorem backoffExpiry_due {s : State} {p : Fin 6} (hs : portState s p = 5) (ht : s.fab.port[p].backoffAt + 1000000000 ≤ s.now) :
    backoffExpiry s p = trainStart s p := if_pos ⟨hs, ht⟩

/-! IDENT (R359, R360). -/

/-- The first control message of its type is the one that is taken. -/
theorem takeCtl_first {s : State} {p : Fin 6} {ty at' : Nat} {m : List Byte} {rest : List (Nat × List Byte)} (hr : s.fab.port[p].rxCtl = (at', m) :: rest)
    (hm : ofLE (slice m 0 1) = ty) : takeCtl s p ty = some ((at', m), modPort s p (fun x => { x with rxCtl := dropAt x.rxCtl 0 })) := by
  have hi : findIdx (fun (x : Nat × List Byte) => ofLE (slice x.2 0 1) == ty) s.fab.port[p].rxCtl 0 = some 0 := by
    rw [hr]
    exact if_pos (beq_iff_eq.2 hm)
  simp only [takeCtl, hi]
  rw [hr]
  rfl
/-- The port that has taken its partner's IDENT: the identity, the delays, and a fresh link (R360). -/
def identified (s : State) (p : Fin 6) (wire partner asym : Nat) : State :=
  modPort (pset (pset (pset (modPort s p (fun x => { x with rxCtl := dropAt x.rxCtl 0 })) p 3 partner) p 8 (wire % 2 ^ 32)) p 7 asym) p
    (fun x => { freshLink x with step := 0, ctl := x.ctl })
theorem identified_port (s : State) (p : Fin 6) (wire partner asym : Nat) : (identified s p wire partner asym).fab.port[p].step = 0 ∧
    (identified s p wire partner asym).fab.port[p].expSeq = 0 ∧ (identified s p wire partner asym).fab.port[p].retry = [] := by
  unfold identified
  rw [modPort_same]
  exact ⟨rfl, rfl, rfl⟩
theorem identified_wire (s : State) (p : Fin 6) (wire partner asym : Nat) : pget (identified s p wire partner asym) p 8 = wire % 2 ^ 32 :=
  (pget_pset_ne _ p asym (by omega) (by omega) (by omega)).trans (pget_pset_same _ p 8 _)
/-- A port in step 4 that takes its partner's IDENT in time comes UP, or is MISWIRED (R359). -/
theorem ident_in_time {s : State} {p : Fin 6} (wire : Nat) {at' : Nat} {m : List Byte} {rest : List (Nat × List Byte)} (hs : portState s p = 2)
    (h4 : s.fab.port[p].step = 4) (hl : trainLate s p = false) (hr : s.fab.port[p].rxCtl = (at', m) :: rest) (hm : ofLE (slice m 0 1) = 1) :
    ∃ partner asym eq pay, ident s p wire =
      if identBad s p m = none then tcReparent (logEv (pset (pset (identified s p wire partner asym) p 2 4) p 6 eq) (portUnit p) 0x0301 0 pay)
      else logEv (pset (identified s p wire partner asym) p 2 3) (portUnit p) 0x0303 0 pay := by
  have hg : ¬ (portState s p ≠ 2 ∨ s.fab.port[p].step ≠ 4 ∨ trainLate s p = true) := by
    rintro (h | h | h)
    · exact h hs
    · exact h h4
    · rw [hl] at h
      cases h
  unfold ident
  rw [if_neg hg, takeCtl_first hr hm]
  cases hb : identBad s p m with
  | none => exact ⟨_, _, _, _, by simp only [hb, if_true]; rfl⟩
  | some k => exact ⟨_, _, 0, _, by simp only [hb, reduceCtorEq, if_false]; rfl⟩
/-- What the end of an IDENT leaves of the identified port: events, its state and the coefficients are written after it. -/
theorem ident_outcome {s : State} {p : Fin 6} (wire : Nat) {at' : Nat} {m : List Byte} {rest : List (Nat × List Byte)} (hs : portState s p = 2)
    (h4 : s.fab.port[p].step = 4) (hl : trainLate s p = false) (hr : s.fab.port[p].rxCtl = (at', m) :: rest) (hm : ofLE (slice m 0 1) = 1) :
    (if identBad s p m = none then portState (ident s p wire) p = 4
      else portState (ident s p wire) p = 3 ∧ (lastEvent (ident s p wire)).map (fun y => y.1) = some 0x0303) ∧
    ∃ partner asym, (ident s p wire).fab = (identified s p wire partner asym).fab ∧
      pget (ident s p wire) p 8 = pget (identified s p wire partner asym) p 8 := by
  obtain ⟨partner, asym, eq, pay, he⟩ := ident_in_time wire hs h4 hl hr hm
  rw [he]
  split
  · have ht := (Retimed.logged (Logged.logEv (pset (pset (identified s p wire partner asym) p 2 4) p 6 eq) (portUnit p) 0x0301 0 pay)).trans (.tcReparent _)
    refine ⟨?_, partner, asym, ht.fab, ?_⟩
    · exact (ht.pget_eq p (by omega)).trans ((pget_pset_ne _ p eq (by omega) (by omega) (by omega)).trans (pget_pset_same _ p 2 4))
    · rw [ht.pget_eq p (by omega), pget_pset_ne _ p eq (by omega) (by omega) (by omega), pget_pset_ne _ p 4 (by omega) (by omega) (by omega)]
  · have ht := Logged.logEv (pset (identified s p wire partner asym) p 2 3) (portUnit p) 0x0303 0 pay
    refine ⟨⟨(ht.pget_eq p (by omega)).trans (pget_pset_same _ p 2 3), ?_⟩, partner, asym, ht.fab, ?_⟩
    · rw [lastEvent_logEv]
      rfl
    · rw [ht.pget_eq p (by omega), pget_pset_ne _ p 3 (by omega) (by omega) (by omega)]

/-! The commands on a port's link (R384). -/

theorem portCmd_retrain (s : State) (p : Fin 6) : (portCmd s p 1).2 = linkDown (modPort s p (fun x => { x with held := false })) p 4 := rfl
theorem portCmd_holdDown (s : State) (p : Fin 6) : (portCmd s p 2).2 = linkDown (modPort s p (fun x => { x with held := true })) p 4 := rfl
/-- A commanded port reads DISABLED, stays down where the links do or its hold is set, and trains otherwise. -/
theorem portState_commanded (s : State) (p : Fin 6) (hold : Bool) : portState (linkDown (modPort s p (fun x => { x with held := hold })) p 4) p =
    if pget s p 1 = 0 then 0 else if (hold || linksBarred s) = true then 1 else 2 := by
  rw [portState_linkDown, congrArg FabPort.held (modPort_same s p (fun x => { x with held := hold }))]
  simp only [Nat.reduceBEq, Bool.or_false]
  rfl
theorem held_commanded (s : State) (p : Fin 6) (hold : Bool) :
    (linkDown (modPort s p (fun x => { x with held := hold })) p 4).fab.port[p].held = hold :=
  (linkDown_port _ p 4).2.2.trans (congrArg FabPort.held (modPort_same s p (fun x => { x with held := hold })))
theorem written_of_canWrite {s : State} {via : Iface} {ix sub : Nat} (h : canWrite s via ix sub = true) (a : Act) : written s via ix sub a = a.2 := if_pos h

/-- Settles O37, step by step of the training, and by what the fall of a link leaves. -/
theorem portsTrainAndFall : Obligations.PortsTrainAndFall := by
  unfold Obligations.PortsTrainAndFall
  intro s p x
  refine ⟨?_, ?_, ?_, ?_, ?_, ?_⟩
  · intro eq lanes inverted hs h1 h3 hl
    refine ⟨fun h3' hj => ⟨_, rfl, trainStepComplete_not_joined eq inverted h3' hj⟩, fun hj => ?_⟩
    refine Answers.of_next (congrArg Host.Outcome.next (trainStepComplete_in_time eq lanes inverted hs h1 h3 hl hj)) ?_
    rw [modPort_same]
    refine ⟨rfl, rfl, rfl, fun h => ?_, rfl, fun q hq => modPort_ne s _ hq, rfl, rfl⟩
    refine ⟨?_, if_pos h⟩
    rw [if_pos h]
    exact bne_iff_ne
  · exact fun lanes hs hl => ⟨_, rfl, trainStepTimeout_late lanes hs hl⟩
  · intro hs ht
    refine Answers.of_next (congrArg Host.Outcome.next (backoffExpiry_due hs ht)) ?_
    rw [portState_trainStart]
    refine ⟨fun hb => ?_, fun hb => if_pos hb, ?_⟩
    · rw [trainStart_free hb, modPort_same, hb]
      exact ⟨rfl, rfl, rfl⟩
    · unfold trainStart
      split <;> rfl
  · intro wire at' m rest hs h4 hl hr hm
    obtain ⟨hst, partner, asym, hf, hw⟩ := ident_outcome wire hs h4 hl hr hm
    obtain ⟨hstep, hseq, hretry⟩ := identified_port s p wire partner asym
    refine ⟨_, rfl, hst, ?_⟩
    rw [hf, hw]
    exact ⟨hstep, hseq, hretry, identified_wire s p wire partner asym⟩
  · intro hup
    refine ⟨_, rfl, ?_⟩
    rw [show laneLockLoss s p = linkDown s p 0 from if_pos hup]
    obtain ⟨hretry, htxq, -⟩ := linkDown_port s p 0
    refine ⟨?_, hretry, htxq, linkDown_count 0 hup⟩
    rw [portState_linkDown]
    simp only [Nat.reduceBEq, Bool.or_false, x]
  · intro via hw
    constructor
    · refine ⟨_, rfl, ?_⟩
      rw [written_of_canWrite hw, portCmd_retrain]
      exact ⟨portState_commanded s p false, held_commanded s p false⟩
    · refine ⟨_, rfl, ?_⟩
      rw [written_of_canWrite hw, portCmd_holdDown]
      exact ⟨portState_commanded s p true, held_commanded s p true⟩

end Sys2Proof.Machine
end

section
/-! SUPPORT. Start-up (R524-R526): the image and the cut that it chooses (R567, R484, R487), what its steps leave alone, and its end. -/

namespace Sys2Proof.Machine

/-! The steps of start-up. -/

@[simp] theorem oget_toStep (s : State) (n : Nat) : oget (toStep s n) 0x9010 0 = n := oget_oset_same _ _ _ _
/-- BOOT_STATE is the only object that a step of the main sequence writes. -/
theorem oget_toStep_ne (s : State) (n : Nat) {ix sub : Nat} (hix : ix ≠ 0x9010) (hsub : sub < 256) : oget (toStep s n) ix sub = oget s ix sub :=
  oget_oset_other _ _ (by omega) hsub (.inl hix)
/-- While the reset pin is released and the module is on, a step in progress may end. -/
theorem not_held {s : State} (hh : s.boot.held = false) (hk : s.boot.kind < 4) : ¬ (s.boot.held = true ∨ 4 ≤ s.boot.kind) := by
  rintro (h | h)
  · rw [hh] at h
    cases h
  · omega

/-! The image of a boot (R567). -/

/-- The verdict on a slot is decided by the flash, the fuses, the revoked keys and the versions. -/
theorem imageReason_congr {s t : State} (hf : t.flash = s.flash) (hk : t.fuses = s.fuses) (n : Fin 2) (hr : oget t 0x8025 0 = oget s 0x8025 0)
    (hv : oget t 0x8021 (n.val + 1) = oget s 0x8021 (n.val + 1)) (hm : oget t 0x8024 0 = oget s 0x8024 0) (err : Bool) :
    imageReason t n err = imageReason s n err := by
  have hkr : keyRevoked t = keyRevoked s := funext fun k => by simp only [keyRevoked, hr]
  have hkm : keyMatches t = keyMatches s := funext fun b => funext fun k => by simp only [keyMatches, hk]
  unfold imageReason
  rw [hf, hkr, hkm, hv, hm]
/-- A verdict on slot 0 is kept in the objects of slot 0 alone. -/
theorem imageVerdict_same (s : State) (n : Fin 2) (reason : Nat) : ∃ ob, imageVerdict s n reason = { s with obj := ob } := by
  unfold imageVerdict
  extract_lets s1
  split
  · exact ⟨_, rfl⟩
  · exact ⟨_, rfl⟩
theorem oget_imageVerdict (s : State) (n : Fin 2) (reason : Nat) {ix sub : Nat} (h : (ix ≠ 0x8020 ∧ ix ≠ 0x8021) ∨ sub ≠ n.val + 1) (hsub : sub < 256) :
    oget (imageVerdict s n reason) ix sub = oget s ix sub := by
  have h1 : oget (oset s 0x8020 (n.val + 1) (if reason = 0 then 1 else 3 + 16 * reason)) ix sub = oget s ix sub :=
    oget_oset_other _ _ (by omega) hsub (by omega)
  unfold imageVerdict
  extract_lets s1
  split
  · exact h1
  · exact (oget_oset_other _ _ (by omega) hsub (by omega)).trans h1
/-- Slot 1 is judged as before the verdict on slot 0. -/
theorem imageReason_after_verdict (s : State) (reason : Nat) (err : Bool) : imageReason (imageVerdict s 0 reason) 1 err = imageReason s 1 err := by
  obtain ⟨ob, h⟩ := imageVerdict_same s 0 reason
  refine imageReason_congr (by rw [h]) (by rw [h]) 1 ?_ ?_ ?_ err
  · exact oget_imageVerdict s 0 reason (.inl (by omega)) (by omega)
  · exact oget_imageVerdict s 0 reason (.inr (by decide)) (by decide)
  · exact oget_imageVerdict s 0 reason (.inl (by omega)) (by omega)
/-- The slot that a boot takes: the first that passes. -/
theorem secureBoot_slot (s : State) (err : Nat) : (secureBoot s err).1 =
    if imageReason s 0 (bit err 0) = 0 then some 0 else if imageReason s 1 (bit err 1) = 0 then some 1 else none := by
  simp only [secureBoot, imageReason_after_verdict]
/-- It is written in BOOT_SLOT and logged; the flash stays. -/
theorem secureBoot_logged (s : State) (err : Nat) :
    oget (secureBoot s err).2 0x9017 0 = ((secureBoot s err).1.map Fin.val).getD 0xFF ∧
    (lastEvent (secureBoot s err).2).map (fun x => x.1) = some 0x0901 ∧ (secureBoot s err).2.flash = s.flash := by
  have hv (n : Fin 2) (u : State) (r : Nat) : (imageVerdict u n r).flash = u.flash := by
    obtain ⟨ob, h⟩ := imageVerdict_same u n r
    rw [h]
  unfold secureBoot
  extract_lets r0 s1 r1 s2 slot num key svn b
  refine ⟨?_, by rw [lastEvent_logEv]; rfl, ?_⟩
  · rw [(Logged.logEv _ _ _ _ _).oget_eq (by simp) (by omega), oget_oset_same]
    simp only [num]
    cases slot <;> rfl
  · rw [(Logged.logEv _ _ _ _ _).flash]
    simp only [oset_flash, s2]
    split
    · exact hv 0 s r0
    · exact (hv 1 s1 r1).trans (hv 0 s r0)

/-! The cut of a boot (R484, R487). -/

/-- The cut in effect is read from the flash. -/
theorem curCut_congr {s t : State} (h : t.flash = s.flash) : curCut t = curCut s := by simp only [curCut, h]
/-- So is the cut that would take its place. -/
theorem prevCut_congr {s t : State} (h : t.flash = s.flash) : prevCut t = prevCut s := by simp only [prevCut, otherSlot, h]
/-- A cut's values change objects alone. -/
theorem foldl_oset_same (l : List (Nat × Nat)) (s : State) : ∃ ob, l.foldl (fun s x => oset s (x.1 / 256) (x.1 % 256) x.2) s = { s with obj := ob } := by
  induction l generalizing s with
  | nil => exact ⟨_, rfl⟩
  | cons x l ih =>
    obtain ⟨ob, h⟩ := ih (oset s (x.1 / 256) (x.1 % 256) x.2)
    exact ⟨ob, h⟩
/-- u is what S2 makes of the state c whose cut is chosen: the flash and the log as there, and the staged values those of the cut. -/
structure CutLoaded (c u : State) : Prop where
  flash : u.flash = c.flash
  evlog : u.evlog = c.evlog
  staged : u.dict.staged = ((curCut c).map (fun x => x.vals)).getD []
  drained : curCut c = none → oget c 0x7006 0 = 1 → Machine.drained u = true
/-- S2 after the choice of the cut: its values are in effect, the buckets are full and the CAN controller is up. -/
def cutInEffect (c : State) (now : Nat) : State :=
  let s1 := fullBuckets (oset (loadCut c) 0x1206 0 1)
  { s1 with dir := { s1.dir with heard := now } }
/-- A module with REPLACE_FLAG is drained from S2 on (R459; that it is so already here is the model's choice, log entry 60). -/
def keepDrain (s : State) : State := if oget s 0x7006 0 = 1 then markDie (oset s 0x7002 0 1) (oget s 0x7003 0 % 256) else s
theorem markDie_same (s : State) (unit : Nat) : ∃ ob, markDie s unit = { s with obj := ob } := by
  unfold markDie
  split
  · exact ⟨_, rfl⟩
  · exact ⟨_, rfl⟩
theorem drained_markDie (s : State) (unit : Nat) : drained (markDie s unit) = drained s := by
  have h : spared 0x7002 0 := by simp [spared]
  simp only [drained, (Spares.markDie s unit).objs _ _ h]
/-- With cut 0 the objects stay at the values of the flash and the defaults. -/
theorem loadCut_none {c : State} (h : curCut c = none) : loadCut c = { c with dict := { c.dict with staged := [] } } := by
  simp only [loadCut, h, Option.map_none, Option.getD_none, List.foldl_nil]
theorem cutInEffect_same (c : State) (now : Nat) : ∃ ob reg dir dict, cutInEffect c now = { c with obj := ob, reg := reg, dir := dir, dict := dict } ∧
    dict.staged = ((curCut c).map (fun x => x.vals)).getD [] := by
  obtain ⟨ob, h⟩ := foldl_oset_same (((curCut c).map (fun x => x.vals)).getD [])
    { c with dict := { c.dict with staged := ((curCut c).map (fun x => x.vals)).getD [] } }
  have hl : loadCut c = { c with obj := ob, dict := { c.dict with staged := ((curCut c).map (fun x => x.vals)).getD [] } } := h
  unfold cutInEffect
  rw [hl]
  exact ⟨_, _, _, _, rfl, rfl⟩
theorem keepDrain_same (s : State) : ∃ ob, keepDrain s = { s with obj := ob } := by
  unfold keepDrain
  split
  · exact markDie_same _ _
  · exact ⟨_, rfl⟩
theorem keepDrain_drained {s : State} (h : oget s 0x7006 0 = 1) : drained (keepDrain s) = true := by
  unfold keepDrain
  rw [if_pos h, drained_markDie]
  simp only [drained, oget_oset_same, beq_self_eq_true]
theorem cutLoaded_keepDrain (c : State) (now : Nat) : CutLoaded c (keepDrain (cutInEffect c now)) := by
  obtain ⟨_, _, _, _, hs, hstaged⟩ := cutInEffect_same c now
  obtain ⟨_, hk⟩ := keepDrain_same (cutInEffect c now)
  refine ⟨by rw [hk, hs], by rw [hk, hs], by rw [hk, hs]; exact hstaged, fun hc hr => keepDrain_drained ?_⟩
  have h6 : oget (oset (loadCut c) 0x1206 0 1) 0x7006 0 = 1 := by
    rw [loadCut_none hc]
    exact (oget_oset_other c 1 (by omega) (by omega) (by omega)).trans hr
  exact h6

/-! The choice of the cut. -/

/-- The slots as S2 reads them: a cut whose CRC fails is none (R487). -/
def readCuts (s : State) (bad : Nat) : State :=
  modFlash s (fun x => { x with slots := Vector.ofFn (fun i => if bit bad i.val then none else x.slots[i]) })
theorem readCuts_slot (s : State) (bad : Nat) (i : Fin 2) : (readCuts s bad).flash.slots[i] = if bit bad i.val then none else s.flash.slots[i] := by
  simp [readCuts, modFlash]
/-- Without a cut in effect S2 keeps cut 0. -/
theorem chooseCut_none {s : State} (bad : Nat) (h : s.flash.cur = none) : chooseCut s bad = readCuts s bad := by
  have h0 : (readCuts s bad).flash.cur = none := h
  unfold chooseCut
  rw [h]
  simp only [Bool.false_eq_true, if_false]
  change (match (readCuts s bad).flash.cur, curCut (readCuts s bad) with | some _, some _ => _ | _, _ => _) = _
  rw [h0]
  rfl

section
variable {s : State} {bad : Nat} {i : Fin 2} {c : Cut} (hcur : s.flash.cur = some i) (hslot : s.flash.slots[i] = some c) (hgood : bit bad i.val = false)
include hcur hslot
theorem curCut_some : curCut s = some c := by
  simp only [curCut, hcur, Option.bind_some]
  exact hslot
include hgood
theorem curCut_readCuts : curCut (readCuts s bad) = some c := by
  refine curCut_some (s := readCuts s bad) hcur ?_
  rw [readCuts_slot, hgood]
  exact hslot
/-- The cut in effect, whose CRC holds: abandoned once booted on trial or expired, booted for the first time on trial, or kept. -/
theorem chooseCut_some : chooseCut s bad =
    if (c.state = 1 ∨ c.state = 3) ∧ c.booted = true then cutAbandon (cutState (readCuts s bad) i (fun c => { c with state := 4 })) c.num 0
    else if c.state = 1 then cutState (readCuts s bad) i (fun c => { c with booted := true })
    else readCuts s bad := by
  have h0 : (readCuts s bad).flash.cur = some i := hcur
  have h1 := curCut_readCuts hcur hslot hgood
  unfold chooseCut
  rw [curCut_some hcur hslot, hcur]
  simp only [hgood, Bool.false_eq_true, if_false, Option.map_some, Option.getD_some]
  change (match (readCuts s bad).flash.cur, curCut (readCuts s bad) with | some i, some c => _ | _, _ => _) = _
  rw [h0, h1]
  rfl
end

/-- A cut whose state in its slot is written stays in effect. -/
theorem curCut_cutState {s : State} {i : Fin 2} {c : Cut} (hcur : s.flash.cur = some i) (hslot : s.flash.slots[i] = some c) (f : Cut → Cut) :
    curCut (cutState s i f) = some (f c) := by
  refine curCut_some (s := cutState s i f) hcur ?_
  have h : (cutState s i f).flash.slots[i] = (s.flash.slots[i]).map f := vmod_same _ _ _
  rw [h, hslot]
  rfl
/-- Without a previous cut an abandoned one leaves cut 0, and the event says so (R484). -/
theorem cutAbandon_no_previous {s : State} (num cause : Nat) (h : prevCut s = none) :
    Logged (modFlash s (fun x => { x with cur := none })) (cutAbandon s num cause) ∧
    lastEvent (cutAbandon s num cause) = some (0x0706, payOf [(16, num), (20, 0), (24, cause)]) := by
  simp only [cutAbandon, h, Option.map_none, Option.getD_none]
  exact ⟨Logged.logEv _ _ _ _ _, lastEvent_logEv _ _ _ _ _⟩
/-- The previous cut is looked for in the slot that does not hold the cut in effect. -/
theorem prevCut_none_iff {s : State} {i : Fin 2} (h : s.flash.cur = some i) :
    prevCut s = none ↔ ∀ c, s.flash.slots[otherSlot s] = some c → c.state = 4 := by
  simp only [prevCut, h]
  split
  · next c hc => simp [hc]
  · next hc => simp [hc]
theorem otherSlot_ne {s : State} {i : Fin 2} (h : s.flash.cur = some i) : otherSlot s ≠ i := by
  have hd : ∀ j : Fin 2, (if j = 0 then 1 else 0 : Fin 2) ≠ j := by decide
  simp only [otherSlot, h]
  exact hd i
/-- A cut that was not there to go back to is not there once the slots are read and the cut in effect is rejected. -/
theorem prevCut_rejected {s : State} {i : Fin 2} (bad : Nat) (f : Cut → Cut) (hcur : s.flash.cur = some i) (h : prevCut s = none) :
    prevCut (cutState (readCuts s bad) i f) = none := by
  refine (prevCut_none_iff (s := cutState (readCuts s bad) i f) hcur).2 fun c hc => (prevCut_none_iff hcur).1 h c ?_
  have h1 : (cutState (readCuts s bad) i f).flash.slots[otherSlot s] = (readCuts s bad).flash.slots[otherSlot s] := vmod_ne _ _ _ _ (otherSlot_ne hcur)
  have h2 : (cutState (readCuts s bad) i f).flash.slots[otherSlot s] = some c := hc
  rw [h1, readCuts_slot] at h2
  split at h2
  · cases h2
  · exact h2

/-! What the steps leave alone. -/

/-- t has the memory, the clusters and the host functions of s. -/
structure Undisturbed (s t : State) : Prop where
  mem : t.mem = s.mem
  cl : t.cl = s.cl
  hf : t.hf = s.hf

theorem Undisturbed.refl (s : State) : Undisturbed s s := ⟨rfl, rfl, rfl⟩
theorem Undisturbed.trans {s t u : State} (h : Undisturbed s t) (k : Undisturbed t u) : Undisturbed s u :=
  ⟨k.mem.trans h.mem, k.cl.trans h.cl, k.hf.trans h.hf⟩
theorem Undisturbed.oset (s : State) (ix sub v : Nat) : Undisturbed s (oset s ix sub v) := ⟨rfl, rfl, rfl⟩
theorem Undisturbed.withBoot (s : State) (b : Boot) : Undisturbed s { s with boot := b } := ⟨rfl, rfl, rfl⟩
theorem Undisturbed.ite {s t u : State} {p : Prop} [Decidable p] (h : Undisturbed s t) (k : Undisturbed s u) : Undisturbed s (if p then t else u) :=
  ite_rel h k
theorem Undisturbed.foldl {A : Type} (l : List A) (f : State → A → State) (hf : ∀ s a, Undisturbed s (f s a)) (s : State) :
    Undisturbed s (l.foldl f s) :=
  foldl_rel .refl .trans l f hf s
theorem Undisturbed.retimed {s t : State} (h : Retimed s t) : Undisturbed s t := by
  obtain ⟨_, _, _, _, _, rfl⟩ := h.same
  exact ⟨rfl, rfl, rfl⟩
theorem Undisturbed.hbmStates (s : State) (v : Nat) : Undisturbed s (hbmStates s v) := by
  refine .foldl _ _ (fun u k => ?_) s
  exact .ite (.refl u) (.oset u _ _ _)
theorem Undisturbed.islandsPower (s : State) (l : List Nat) (on : Bool) : Undisturbed s (islandsPower s l on) := by
  refine .foldl _ _ (fun u i => ?_) s
  extract_lets u1
  have h0 : Undisturbed u (if i < 22 then pllLock u i on else u) := .ite (.oset u _ _ _) (.refl u)
  have h1 : Undisturbed u u1 := h0.trans (.oset _ _ _ _)
  exact .ite h1 ((h1.trans (.oset _ _ _ _)).trans (.oset _ _ _ _))
theorem Undisturbed.freqUpdate (s : State) : Undisturbed s (freqUpdate s) := by
  refine .foldl _ _ (fun u c => ?_) s
  extract_lets m p t f lim u1
  have h1 : Undisturbed u u1 := (Undisturbed.oset u _ _ _).trans (.oset _ _ _ _)
  exact .ite (h1.trans (.oset _ _ _ _)) h1
theorem Undisturbed.trainStart (s : State) (p : Fin 6) : Undisturbed s (trainStart s p) := .ite (.oset s _ _ _) ⟨rfl, rfl, rfl⟩
theorem Undisturbed.deposed (s : State) : Undisturbed s (deposed s) := by
  unfold Machine.deposed
  split
  · exact .retimed (((Retimed.oset s 0x1104 _ (by simp)).trans (.oset _ 0x1101 _ (by simp))).trans ((Retimed.modTm _ _).trans (.noteBare _)))
  · refine .trans (t := if s.unsync then Machine.oset s 0x1101 0 0 else enterHoldover s 0xFF) (.ite (.oset s _ _ _) ?_) (.retimed (.noteBare _))
    exact .retimed (.enterHoldover s 0xFF)
theorem Undisturbed.ptpOff (s : State) : Undisturbed s (ptpOff s) := ⟨rfl, rfl, rfl⟩
theorem Undisturbed.timeRole (s : State) : Undisturbed s (timeRole s) := by
  unfold Machine.timeRole
  extract_lets s1 d s2
  have h1 : Undisturbed s s1 := .retimed ((Retimed.oset s 0x1104 _ (by simp)).trans (.modTm _ _))
  have h2 : Undisturbed s s2 := .ptpOff s
  have h4 : Undisturbed s1 { Machine.oset (Machine.ptpOff s1) 0x1101 0 4 with unsync := false } := by
    clear_value s1
    exact ⟨rfl, rfl, rfl⟩
  have hlisten : Undisturbed s1 (Machine.oset (ptpListen s1) 0x1101 0 1) := ((Undisturbed.ptpOff s1).trans (.oset _ _ _ _)).trans (.oset _ _ _ _)
  exact .ite (.ite (h1.trans h4) (.ite (h1.trans hlisten) h1)) (.ite (h2.trans (.deposed _)) (h2.trans (.retimed (.tcReparent _))))
/-- The end of S3 starts islands, links and the time, and touches no take. -/
theorem Undisturbed.islandsStart (s : State) : Undisturbed s (islandsStart s) := by
  unfold Machine.islandsStart
  extract_lets s1 s2 s3
  have h1 : Undisturbed s s1 := (Undisturbed.oset s _ _ _).trans (.islandsPower _ _ _)
  have h2 : Undisturbed s1 s2 := by
    refine (Undisturbed.freqUpdate s1).trans (.foldl _ _ (fun u p => ?_) _)
    exact .ite (.refl u) (.trainStart u p)
  have h3 : Undisturbed s2 s3 := by
    refine .foldl _ _ (fun u e => ?_) s2
    exact .ite (.oset u _ _ _) (.oset u _ _ _)
  exact (((h1.trans h2).trans h3).trans (.withBoot s3 _)).trans (.timeRole _)

/-! The stacks at the end of S4 (R525). -/

/-- Every stack of the first n that has not failed reads the new state; a failed one, and every other, is left. -/
theorem oget_hbmFold (s : State) (v n : Nat) (hn : n < 256) {k : Nat} (hk : k < 255) :
    oget ((List.range n).foldl (fun s k => if oget s 0x3010 (k + 1) = 3 then s else oset s 0x3010 (k + 1) v) s) 0x3010 (k + 1) =
      if k < n ∧ oget s 0x3010 (k + 1) ≠ 3 then v else oget s 0x3010 (k + 1) := by
  induction n with
  | zero => simp
  | succ n ih =>
    rw [List.range_succ, List.foldl_append, List.foldl_cons, List.foldl_nil]
    have hi := ih (by omega)
    generalize hu : (List.range n).foldl (fun s k => if oget s 0x3010 (k + 1) = 3 then s else oset s 0x3010 (k + 1) v) s = u at hi
    by_cases hkn : k = n
    · subst hkn
      rw [if_neg (by omega)] at hi
      by_cases h3 : oget s 0x3010 (k + 1) = 3
      · rw [if_pos (hi.trans h3), hi, if_neg (by omega)]
      · rw [if_neg (by omega), oget_oset_same, if_pos (by omega)]
    · have hne : oget (if oget u 0x3010 (n + 1) = 3 then u else oset u 0x3010 (n + 1) v) 0x3010 (k + 1) = oget u 0x3010 (k + 1) := by
        split
        · rfl
        · exact oget_oset_other u v (by omega) (by omega) (by omega)
      rw [hne, hi]
      simp only [show k < n + 1 ↔ k < n by omega]
theorem oget_hbmStates (s : State) (v : Nat) {k : Nat} (hk : k < 12) :
    oget (hbmStates s v) 0x3010 (k + 1) = if oget s 0x3010 (k + 1) = 3 then 3 else v := by
  refine (oget_hbmFold s v 12 (by omega) (by omega)).trans ?_
  by_cases h : oget s 0x3010 (k + 1) = 3
  · rw [if_neg (by omega), if_pos h, h]
  · rw [if_pos ⟨hk, h⟩, if_neg h]
/-- The stacks of a list that have failed drain the module (R525). -/
def drainFailed (s : State) (l : List Nat) : State :=
  l.foldl (fun s k => if oget s 0x3010 (k + 1) = 3 then moduleDrain s (0x90 + k) 0 0 (tcNow s) else s) s
theorem drainFailed_none {s : State} {l : List Nat} (h : ∀ k ∈ l, oget s 0x3010 (k + 1) ≠ 3) : drainFailed s l = s := by
  induction l with
  | nil => rfl
  | cons k l ih =>
    have hk : drainFailed s (k :: l) = drainFailed s l := by
      simp only [drainFailed, List.foldl_cons, if_neg (h k (by simp))]
    rw [hk]
    exact ih fun j hj => h j (by simp [hj])
theorem drainFailed_drained {s : State} {l : List Nat} (hl : ∀ k ∈ l, k < 255) (h : drained s = true ∨ ∃ k ∈ l, oget s 0x3010 (k + 1) = 3) :
    drained (drainFailed s l) = true := by
  induction l generalizing s with
  | nil =>
    rcases h with h | ⟨k, hk, -⟩
    · exact h
    · cases hk
  | cons j l ih =>
    simp only [drainFailed, List.foldl_cons]
    refine ih (fun k hk => hl k (by simp [hk])) ?_
    split
    · exact .inl (moduleDrain_drained _ _ _ _ _)
    next hj =>
    rcases h with h | ⟨k, hk, h3⟩
    · exact .inl h
    · rcases List.mem_cons.1 hk with rfl | hk
      · exact absurd h3 hj
      · exact .inr ⟨k, hk, h3⟩

/-! The end of start-up (BOOT_READY). -/

/-- t has come from s by log entries, the completions of fetched takes and the end of a power request. -/
structure Reported (s t : State) : Prop where
  mem : t.mem = s.mem
  cl : t.cl = s.cl
  objs : ∀ ix sub, ix ∉ [0x7020, 0x7022, 0x7030, 0x7032, 0x7033, 0x1205, 0x2003] → sub < 256 → oget t ix sub = oget s ix sub

theorem Reported.trans {s t u : State} (h : Reported s t) (k : Reported t u) : Reported s u :=
  ⟨k.mem.trans h.mem, k.cl.trans h.cl, fun ix sub hix hsub => (k.objs ix sub hix hsub).trans (h.objs ix sub hix hsub)⟩
theorem Reported.of_eq {s t : State} (hm : t.mem = s.mem) (hc : t.cl = s.cl) (ho : t.obj = s.obj) : Reported s t :=
  ⟨hm, hc, fun _ _ _ _ => oget_congr ho _ _⟩
theorem Reported.refl (s : State) : Reported s s := .of_eq rfl rfl rfl
theorem Reported.logged {s t : State} (h : Logged s t) : Reported s t := by
  refine ⟨h.mem, h.cl, fun ix sub hix hsub => h.oget_eq (fun hm => hix ?_) hsub⟩
  simp only [List.mem_cons, List.not_mem_nil, or_false] at hm ⊢
  omega
theorem Reported.oset (s : State) (v : Nat) : Reported s (oset s 0x2003 0 v) := by
  refine ⟨rfl, rfl, fun ix sub hix hsub => oget_oset_other _ _ (by omega) hsub (.inl ?_)⟩
  rintro rfl
  exact hix (by simp)
theorem Reported.foldl {A : Type} (l : List A) (f : State → A → State) (hf : ∀ s a, Reported s (f s a)) (s : State) : Reported s (l.foldl f s) :=
  foldl_rel .refl .trans l f hf s
theorem Reported.endFetched (s : State) (p : Fin 8) (disp : Nat) (k : TakeEnt → Bool) : Reported s (endFetched s p disp k) := by
  obtain ⟨_, _, _, h⟩ := endFetched_same s p disp k
  exact .of_eq (by rw [h]) (by rw [h]) (by rw [h])
/-- The states that BOOT_READY writes before it reports (R524-R526). -/
def readyMarks (s : State) : State :=
  oset (oset (clusterStates (stepEnds s 8) (if drained s then 6 else 0)) 0x2001 0 1) 0x9010 0 (if drained s then 10 else 9)
/-- BOOT_READY writes its states, reports them, and sees whether the module has work. -/
theorem bootReady_reported (s : State) : ∃ u, Reported (readyMarks s) u ∧ bootReady s = activity u := by
  unfold bootReady
  extract_lets st s1 d s2 ups s3 s4
  have h1 : s1 = readyMarks s := rfl
  refine ⟨_, ?_, rfl⟩
  rw [← h1]
  clear_value s1
  have h2 : Reported s1 s2 := by
    simp only [s2]
    split
    · split
      · exact .of_eq rfl rfl rfl
      · exact .refl s1
    · exact .refl s1
  have h3 : Reported s2 s3 := .logged (Logged.logEv _ _ _ _ _)
  have h4 : Reported s3 s4 := by
    simp only [s4]
    split
    · refine .trans ?_ (.oset _ 2)
      exact .trans (t := modPow s3 (fun w => { w with want := none })) (.of_eq rfl rfl rfl) (.logged (Logged.logEv _ _ _ _ _))
    · exact .refl s3
  have h5 : Reported s1 s4 := (h2.trans h3).trans h4
  split
  · exact h5.trans (.foldl _ _ (fun _ _ => .endFetched _ _ _ _) s4)
  · exact h5
/-- ACTIVITY_CHANGE writes POWER_STATE and logs it. -/
theorem activity_stores (s : State) : (activity s).mem = s.mem ∧ (activity s).cl = s.cl ∧
    (∀ ix sub, ix ∉ [0x7020, 0x7022, 0x7030, 0x7032, 0x7033, 0x1205, 0x2001] → sub < 256 → oget (activity s) ix sub = oget s ix sub) ∧
    (oget s 0x2001 0 ≤ 1 → oget (activity s) 0x2001 0 ≤ 1) := by
  unfold activity
  split
  case isFalse h => exact ⟨rfl, rfl, fun _ _ _ _ => rfl, id⟩
  case isTrue h =>
  extract_lets n
  split
  · exact ⟨rfl, rfl, fun _ _ _ _ => rfl, id⟩
  · have hl := Logged.logEv (oset s 0x2001 0 n) 0xEA 0x0101 0 (payOf [(16, 1 - n), (17, n), (18, 0)])
    refine ⟨hl.mem, hl.cl, fun ix sub hix hsub => (hl.oget_eq (fun hm => hix ?_) hsub).trans (oget_oset_other s n (by omega) hsub (.inl ?_)), fun _ => ?_⟩
    · simp only [List.mem_cons, List.not_mem_nil, or_false] at hm ⊢
      omega
    · rintro rfl
      exact hix (by simp)
    · rw [hl.oget_eq (by simp) (by omega), oget_oset_same]
      simp only [n]
      split <;> omega
theorem clusterStates_same (s : State) (v : Nat) : ∃ ob, clusterStates s v = { s with obj := ob } := by
  unfold clusterStates
  generalize fins 8 = l
  induction l generalizing s with
  | nil => exact ⟨_, rfl⟩
  | cons c l ih =>
    obtain ⟨ob, h⟩ := ih (cset s c 0x4002 0 v)
    exact ⟨ob, h⟩
/-- A fold that writes an object of the clusters of a list has written that of c, if c is in the list or had the value before. -/
theorem cget_foldl_cset (v : Nat) (c : Fin 8) (l : List (Fin 8)) (s : State) (h : c ∈ l ∨ cget s c 0x4002 0 = v) :
    cget (l.foldl (fun s c => cset s c 0x4002 0 v) s) c 0x4002 0 = v := by
  induction l generalizing s with
  | nil => exact h.resolve_left (by simp)
  | cons d l ih =>
    refine ih _ ?_
    by_cases hd : c = d
    · subst hd
      exact .inr (oget_oset_same _ _ _ _)
    · refine h.imp (fun hm => (List.mem_cons.1 hm).resolve_left hd) fun hv => ?_
      have hne : c.val ≠ d.val := fun e => hd (Fin.ext e)
      exact (oget_oset_other s v (by omega) (by omega) (.inl (by unfold cobj; omega))).trans hv
/-- CLUSTER_STATE of every cluster reads the new state. -/
theorem cget_clusterStates (s : State) (v : Nat) (c : Fin 8) : cget (clusterStates s v) c 0x4002 0 = v :=
  cget_foldl_cset v c _ s (.inl (List.mem_finRange c))
/-- S5: a unit that failed its test drains the module (R457, R525). -/
def unitsTested (s : State) (fail : Option Nat) : State :=
  match fail with
  | some u => moduleDrain { s with boot := { s.boot with failed := some u } } (u % 256) 0 0 (tcNow s)
  | none => s
/-- S5 ends in S6, or in S7 with the ports UP or FABRIC_BOOT_WAIT over (R524). -/
def afterUnits (s : State) : State :=
  if s.boot.s6 ∨ portsAllUp s = true then toStep (stepEnds { s with boot := { s.boot with s5 := true, s6 := true } } 6) 7
  else toStep { s with boot := { s.boot with s5 := true } } 6
theorem oget_afterUnits (s : State) : oget (afterUnits s) 0x9010 0 = if s.boot.s6 ∨ portsAllUp s = true then 7 else 6 := by
  unfold afterUnits
  split
  · exact oget_toStep _ 7
  · exact oget_toStep _ 6
theorem Undisturbed.afterUnits (s : State) : Undisturbed s (afterUnits s) := .ite ⟨rfl, rfl, rfl⟩ ⟨rfl, rfl, rfl⟩
/-- The end of S5 keeps the failed unit, and a module that it has drained stays so. -/
theorem afterUnits_failed (s : State) : (afterUnits s).boot.failed = s.boot.failed ∧ drained (afterUnits s) = drained s := by
  unfold afterUnits
  split
  · exact ⟨rfl, congrArg (· == 1) (oget_toStep_ne _ 7 (by omega) (by omega))⟩
  · exact ⟨rfl, congrArg (· == 1) (oget_toStep_ne _ 6 (by omega) (by omega))⟩
/-- What S8 leaves: the state of start-up and of the clusters, and the module IDLE or ACTIVE (R524-R526). -/
theorem bootReady_outcome (s : State) : oget (bootReady s) 0x9010 0 = (if drained s then 10 else 9) ∧
    (∀ c, cget (bootReady s) c 0x4002 0 = if drained s then 6 else 0) ∧ oget (bootReady s) 0x2001 0 ≤ 1 ∧
    (bootReady s).mem = s.mem ∧ (bootReady s).cl = s.cl := by
  obtain ⟨u, hu, he⟩ := bootReady_reported s
  obtain ⟨hmem, hcl, hobj, hpow⟩ := activity_stores u
  obtain ⟨_, hc⟩ := clusterStates_same (stepEnds s 8) (if drained s then 6 else 0)
  have m9 : oget (readyMarks s) 0x9010 0 = if drained s then 10 else 9 := oget_oset_same _ _ _ _
  have m2 : oget (readyMarks s) 0x2001 0 = 1 := (oget_oset_other _ _ (by omega) (by omega) (by omega)).trans (oget_oset_same _ _ _ _)
  rw [he]
  refine ⟨?_, fun c => ?_, hpow ?_, ?_, ?_⟩
  · rw [hobj 0x9010 0 (by simp) (by omega), hu.objs 0x9010 0 (by simp) (by omega), m9]
  · have hix : cobj c 0x4002 ∉ [0x7020, 0x7022, 0x7030, 0x7032, 0x7033, 0x1205, 0x2003, 0x2001] := by
      simp only [cobj, List.mem_cons, List.not_mem_nil, or_false]
      omega
    simp only [List.mem_cons, List.not_mem_nil, or_false, not_or] at hix
    have mc : oget (readyMarks s) (cobj c 0x4002) 0 = if drained s then 6 else 0 := by
      unfold readyMarks
      rw [oget_oset_other _ _ (by omega) (by omega) (.inl (by unfold cobj; omega)), oget_oset_other _ _ (by omega) (by omega) (by omega)]
      exact cget_clusterStates _ _ c
    refine (hobj _ 0 ?_ (by omega)).trans ((hu.objs _ 0 ?_ (by omega)).trans mc)
    · simp only [List.mem_cons, List.not_mem_nil, or_false, not_or]
      omega
    · simp only [List.mem_cons, List.not_mem_nil, or_false, not_or]
      omega
  · exact Nat.le_of_eq ((hu.objs 0x2001 0 (by simp) (by omega)).trans m2)
  · rw [hmem, hu.mem]
    unfold readyMarks
    rw [oset_mem, oset_mem, hc]
    rfl
  · rw [hcl, hu.cl]
    unfold readyMarks
    rw [oset_cl, oset_cl, hc]
    rfl

section
variable {s : State} (hh : s.boot.held = false) (hk : s.boot.kind < 4) (bad : Nat) (fail : Option Nat)
include hh hk
/-! BOOT_STEP_END in each step (R524, R525, R567). -/
theorem bootStepEnd_s0 (hb : bootState s = 0) : bootStepEnd s bad fail = toStep (oset (stepEnds s 0) 0x2010 0 3) 1 := by
  simp only [bootStepEnd, if_neg (not_held hh hk), hb]
theorem bootStepEnd_s1 (hb : bootState s = 1) : bootStepEnd s bad fail =
    if (secureBoot (oset s 0x2013 23 400) bad).1.isSome then toStep (stepEnds (secureBoot (oset s 0x2013 23 400) bad).2 1) 2
    else toStep (oset (stepEnds (secureBoot (oset s 0x2013 23 400) bad).2 1) 0x1206 0 1) 11 := by
  simp only [bootStepEnd, if_neg (not_held hh hk), hb]
theorem bootStepEnd_s2 (hb : bootState s = 2) : ∃ u, bootStepEnd s bad fail = toStep u 3 ∧ CutLoaded (chooseCut (stepEnds (oset s 0x2013 23 400) 2) bad) u := by
  simp only [bootStepEnd, if_neg (not_held hh hk), hb]
  exact ⟨_, rfl, cutLoaded_keepDrain _ _⟩
theorem bootStepEnd_s3 (hb : bootState s = 3) : bootStepEnd s bad fail =
    if s.boot.kind ≤ 1 then toStep (islandsStart (stepEnds s 3)) 4 else toStep (hbmStates (islandsStart (stepEnds s 3)) 1) 5 := by
  simp only [bootStepEnd, if_neg (not_held hh hk), hb]
theorem bootStepEnd_s4 (hb : bootState s = 4) : bootStepEnd s bad fail = toStep (drainFailed (hbmStates (stepEnds s 4) 1) (List.range 12)) 5 := by
  simp only [bootStepEnd, if_neg (not_held hh hk), hb, drainFailed]
theorem bootStepEnd_s5 (hb : bootState s = 5) : bootStepEnd s bad fail = afterUnits (unitsTested (stepEnds s 5) fail) := by
  simp only [bootStepEnd, if_neg (not_held hh hk), hb]
  rfl
theorem bootStepEnd_s6 (hb : bootState s = 6) :
    bootStepEnd s bad fail = if portsAllUp s then toStep (stepEnds { s with boot := { s.boot with s6 := true } } 6) 7 else s := by
  simp only [bootStepEnd, if_neg (not_held hh hk), hb]
theorem bootStepEnd_s7 (hb : bootState s = 7) : bootStepEnd s bad fail = if timeKnown s then toStep (stepEnds s 7) 8 else s := by
  simp only [bootStepEnd, if_neg (not_held hh hk), hb]
theorem bootStepEnd_s8 (hb : bootState s = 8) : bootStepEnd s bad fail = bootReady s := by
  simp only [bootStepEnd, if_neg (not_held hh hk), hb]
end
end Sys2Proof.Machine
end

section
/-! SUPPORT. The statement on start-up and the units, from what each boot step leaves. -/

namespace Sys2Proof.Machine

section
variable {s : State} (hh : s.boot.held = false) (hk : s.boot.kind < 4) (bad : Nat) (fail : Option Nat)
include hh hk

/-- S1 boots the first image that passes, or leaves the module FAILED (R567). -/
theorem bootStepEnd_image (hb : bootState s = 1) :
    (imageReason s 0 (bit bad 0) = 0 → oget (bootStepEnd s bad fail) 0x9010 0 = 2 ∧ oget (bootStepEnd s bad fail) 0x9017 0 = 0) ∧
    (imageReason s 0 (bit bad 0) ≠ 0 → imageReason s 1 (bit bad 1) = 0 →
      oget (bootStepEnd s bad fail) 0x9010 0 = 2 ∧ oget (bootStepEnd s bad fail) 0x9017 0 = 1) ∧
    (imageReason s 0 (bit bad 0) ≠ 0 → imageReason s 1 (bit bad 1) ≠ 0 →
      oget (bootStepEnd s bad fail) 0x9010 0 = 11 ∧ oget (bootStepEnd s bad fail) 0x9017 0 = 0xFF) ∧
    (lastEvent (bootStepEnd s bad fail)).map (fun x => x.1) = some 0x0901 ∧ (bootStepEnd s bad fail).flash = s.flash := by
  have hclock (n : Fin 2) (err : Bool) : imageReason (oset s 0x2013 23 400) n err = imageReason s n err := by
    refine imageReason_congr (s := s) (t := oset s 0x2013 23 400) rfl rfl n ?_ ?_ ?_ err
    · exact oget_oset_other s 400 (by omega) (by omega) (by omega)
    · exact oget_oset_other s 400 (by omega) (by omega) (by omega)
    · exact oget_oset_other s 400 (by omega) (by omega) (by omega)
  obtain ⟨hnum, hev, hfl⟩ := secureBoot_logged (oset s 0x2013 23 400) bad
  have hslot := secureBoot_slot (oset s 0x2013 23 400) bad
  rw [hclock, hclock] at hslot
  have h1 := bootStepEnd_s1 hh hk bad fail hb
  generalize secureBoot (oset s 0x2013 23 400) bad = r at hnum hev hfl hslot h1
  obtain ⟨slot, u⟩ := r
  dsimp only at hnum hev hfl hslot h1
  have hkept : (lastEvent (bootStepEnd s bad fail)).map (fun x => x.1) = some 0x0901 ∧ (bootStepEnd s bad fail).flash = s.flash := by
    rw [h1]
    split <;> exact ⟨hev, hfl⟩
  rw [hslot] at h1 hnum
  have h17 (n : Nat) : oget (toStep (stepEnds u 1) n) 0x9017 0 = oget u 0x9017 0 := oget_toStep_ne _ n (by omega) (by omega)
  have h17' (n : Nat) : oget (toStep (oset (stepEnds u 1) 0x1206 0 1) n) 0x9017 0 = oget u 0x9017 0 :=
    (oget_toStep_ne _ n (by omega) (by omega)).trans (oget_oset_other (ix' := 0x9017) (sub' := 0) (stepEnds u 1) 1 (by omega) (by omega) (by omega))
  refine ⟨?_, ?_, ?_, hkept⟩ <;> rw [h1]
  · intro h0
    simp only [h0, if_true, Option.isSome_some, oget_toStep, h17, true_and] at hnum ⊢
    exact hnum
  · intro h0 h1
    simp only [h0, h1, if_true, if_false, Option.isSome_some, oget_toStep, h17, true_and] at hnum ⊢
    exact hnum
  · intro h0 h1
    simp only [h0, h1, if_false, Option.isSome_none, Bool.false_eq_true, oget_toStep, h17', true_and] at hnum ⊢
    exact hnum
/-- S2 without a cut in effect: cut 0, and the drain that REPLACE_FLAG keeps. -/
theorem bootStepEnd_cut0 (hb : bootState s = 2) (hcur : s.flash.cur = none) :
    oget (bootStepEnd s bad fail) 0x9010 0 = 3 ∧ (bootStepEnd s bad fail).flash.cur = none ∧ (bootStepEnd s bad fail).dict.staged = [] ∧
    (oget s 0x7006 0 = 1 → drained (bootStepEnd s bad fail) = true) := by
  obtain ⟨u, he, hu⟩ := bootStepEnd_s2 hh hk bad fail hb
  rw [chooseCut_none (s := stepEnds (oset s 0x2013 23 400) 2) bad hcur] at hu
  have h0 : (readCuts (stepEnds (oset s 0x2013 23 400) 2) bad).flash.cur = none := hcur
  have hc : curCut (readCuts (stepEnds (oset s 0x2013 23 400) 2) bad) = none := by simp only [curCut, h0, Option.bind_none]
  have h6 : oget (readCuts (stepEnds (oset s 0x2013 23 400) 2) bad) 0x7006 0 = oget s 0x7006 0 := oget_oset_other _ _ (by omega) (by omega) (by omega)
  rw [he]
  refine ⟨oget_toStep _ _, (congrArg Flash.cur hu.flash).trans h0, ?_, fun hr => ?_⟩
  · exact hu.staged.trans (by rw [hc]; rfl)
  · have hd := hu.drained hc (h6.trans hr)
    simpa only [drained, oget_toStep_ne u 3 (show 0x7002 ≠ 0x9010 by omega) (show 0 < 256 by omega)] using hd
/-- S2 with a cut in effect whose CRC holds: a confirmed one is kept, one on trial boots for the first time, and one that has booted on trial is
abandoned (R484, R487). -/
theorem bootStepEnd_cut (hb : bootState s = 2) {i : Fin 2} {c : Cut} (hcur : s.flash.cur = some i) (hslot : s.flash.slots[i] = some c)
    (hgood : bit bad i.val = false) :
    (c.state = 2 → oget (bootStepEnd s bad fail) 0x9010 0 = 3 ∧ curCut (bootStepEnd s bad fail) = some c ∧ (bootStepEnd s bad fail).dict.staged = c.vals) ∧
    (c.state = 1 → c.booted = false → oget (bootStepEnd s bad fail) 0x9010 0 = 3 ∧ curCut (bootStepEnd s bad fail) = some { c with booted := true } ∧
      (bootStepEnd s bad fail).dict.staged = c.vals) ∧
    (c.state = 1 → c.booted = true → prevCut s = none → oget (bootStepEnd s bad fail) 0x9010 0 = 3 ∧ curCut (bootStepEnd s bad fail) = none ∧
      (bootStepEnd s bad fail).dict.staged = [] ∧ (bootStepEnd s bad fail).flash.slots[i] = some { c with state := 4 } ∧
      lastEvent (bootStepEnd s bad fail) = some (0x0706, payOf [(16, c.num), (20, 0), (24, 0)])) := by
  obtain ⟨u, he, hu⟩ := bootStepEnd_s2 hh hk bad fail hb
  rw [he]
  have hs' : (stepEnds (oset s 0x2013 23 400) 2).flash = s.flash := rfl
  generalize stepEnds (oset s 0x2013 23 400) 2 = w at hu hs'
  have hcur' : w.flash.cur = some i := by rw [hs', hcur]
  have hslot' : w.flash.slots[i] = some c := by rw [hs']; exact hslot
  have hread : (readCuts w bad).flash.slots[i] = some c := by rw [readCuts_slot, hgood]; exact hslot'
  rw [chooseCut_some hcur' hslot' hgood] at hu
  refine ⟨fun h2 => ?_, fun h1 hbt => ?_, fun h1 hbt hp => ?_⟩
  · rw [if_neg (by omega), if_neg (by omega)] at hu
    have hc := curCut_readCuts hcur' hslot' hgood
    exact ⟨oget_toStep _ _, (curCut_congr (t := toStep u 3) hu.flash).trans hc, hu.staged.trans (by rw [hc]; rfl)⟩
  · rw [if_neg (by simp [hbt]), if_pos h1] at hu
    have hc : curCut (cutState (readCuts w bad) i (fun c => { c with booted := true })) = some { c with booted := true } :=
      curCut_cutState (s := readCuts w bad) hcur' hread _
    exact ⟨oget_toStep _ _, (curCut_congr (t := toStep u 3) hu.flash).trans hc, hu.staged.trans (by rw [hc]; rfl)⟩
  · rw [if_pos ⟨.inl h1, hbt⟩] at hu
    have hp' : prevCut w = none := (prevCut_congr hs').trans hp
    obtain ⟨hlog, hev⟩ := cutAbandon_no_previous c.num 0 (prevCut_rejected bad (fun c => { c with state := 4 }) hcur' hp')
    have hf := hu.flash.trans hlog.flash
    have hc : curCut (cutAbandon (cutState (readCuts w bad) i (fun c => { c with state := 4 })) c.num 0) = none := by
      simp only [curCut, hlog.flash, modFlash, Option.bind_none]
    refine ⟨oget_toStep _ _, (curCut_congr (t := toStep u 3) hu.flash).trans hc, hu.staged.trans (by rw [hc]; rfl), ?_, ?_⟩
    · have hsl : (cutState (readCuts w bad) i (fun c => { c with state := 4 })).flash.slots[i] = some { c with state := 4 } := by
        refine (vmod_same (readCuts w bad).flash.slots i _).trans ?_
        rw [hread]
        rfl
      exact (congrArg (fun f : Flash => f.slots[i]) hf).trans hsl
    · refine Eq.trans ?_ hev
      exact congrArg (fun l : List EvRec => l.getLast?.map fun r => (r.code, r.pay)) hu.evlog
end


/-- S4 with every stack ready ends in S5. -/
theorem bootStepEnd_stacks {s : State} (hh : s.boot.held = false) (hk : s.boot.kind < 4) (bad : Nat) (fail : Option Nat) (hb : bootState s = 4)
    (hgood : ∀ k, k < 12 → oget s 0x3010 (k + 1) ≠ 3) :
    oget (bootStepEnd s bad fail) 0x9010 0 = 5 ∧ (∀ k, k < 12 → oget (bootStepEnd s bad fail) 0x3010 (k + 1) = 1) ∧
    Undisturbed s (bootStepEnd s bad fail) := by
  have hone (k : Nat) (hk : k < 12) : oget (hbmStates (stepEnds s 4) 1) 0x3010 (k + 1) = 1 :=
    (oget_hbmStates _ 1 hk).trans (if_neg (hgood k hk))
  have hnone : drainFailed (hbmStates (stepEnds s 4) 1) (List.range 12) = hbmStates (stepEnds s 4) 1 := by
    refine drainFailed_none fun k hk => ?_
    rw [hone k (List.mem_range.1 hk)]
    omega
  rw [bootStepEnd_s4 hh hk bad fail hb, hnone]
  refine ⟨oget_toStep _ _, fun k hk => (oget_toStep_ne _ _ (by omega) (by omega)).trans (hone k hk), ?_⟩
  exact ((Undisturbed.withBoot s _).trans (.hbmStates _ 1)).trans (.oset _ _ _ _)
/-- S4 with a failed stack ends in S5 with the module drained. -/
theorem bootStepEnd_stack_failed {s : State} (hh : s.boot.held = false) (hk : s.boot.kind < 4) (bad : Nat) (fail : Option Nat) (hb : bootState s = 4)
    {k : Nat} (hk12 : k < 12) (hbad : oget s 0x3010 (k + 1) = 3) :
    oget (bootStepEnd s bad fail) 0x9010 0 = 5 ∧ drained (bootStepEnd s bad fail) = true := by
  rw [bootStepEnd_s4 hh hk bad fail hb]
  refine ⟨oget_toStep _ _, ?_⟩
  have hthree : oget (hbmStates (stepEnds s 4) 1) 0x3010 (k + 1) = 3 := (oget_hbmStates _ 1 hk12).trans (if_pos hbad)
  have hd := drainFailed_drained (l := List.range 12) (fun j hj => by have := List.mem_range.1 hj; omega) (.inr ⟨k, List.mem_range.2 hk12, hthree⟩)
  exact (congrArg (· == 1) (oget_toStep_ne _ 5 (by omega) (by omega))).trans hd
/-- S5 with a unit that failed its test: the module is drained, and start-up goes on. -/
theorem bootStepEnd_unit_failed {s : State} (hh : s.boot.held = false) (hk : s.boot.kind < 4) (bad u : Nat) (hb : bootState s = 5) :
    (oget (bootStepEnd s bad (some u)) 0x9010 0 = 6 ∨ oget (bootStepEnd s bad (some u)) 0x9010 0 = 7) ∧
    (bootStepEnd s bad (some u)).boot.failed = some u ∧ drained (bootStepEnd s bad (some u)) = true := by
  rw [bootStepEnd_s5 hh hk bad _ hb]
  obtain ⟨hf, hd⟩ := afterUnits_failed (unitsTested (stepEnds s 5) (some u))
  refine ⟨?_, hf.trans ?_, hd.trans (moduleDrain_drained _ _ _ _ _)⟩
  · rw [oget_afterUnits]
    split
    · exact .inr rfl
    · exact .inl rfl
  · exact congrArg Boot.failed (moduleDrain_boot _ _ _ _ _)
/-- FABRIC_BOOT_WAIT over ends S6, now or when S5 has ended (R524). -/
theorem fabricBootWait_over {s : State} (h6 : s.boot.s6 = false) (h4 : 4 ≤ bootState s) (hle : bootState s ≤ 6)
    (ht : s.boot.s3At + oget s 0x9015 0 * 1000000 ≤ s.now) :
    (fabricBootWait s).boot.s6 = true ∧ oget (fabricBootWait s) 0x9010 0 = (if bootState s = 6 then 7 else bootState s) ∧
    (fabricBootWait s).mem = s.mem ∧ (fabricBootWait s).cl = s.cl := by
  simp only [fabricBootWait, if_pos (show 4 ≤ bootState s ∧ bootState s ≤ 6 ∧ s.boot.s6 = false ∧ s.boot.s3At + oget s 0x9015 0 * 1000000 ≤ s.now from
    ⟨h4, hle, h6, ht⟩)]
  split
  · exact ⟨rfl, oget_toStep _ _, rfl, rfl⟩
  · exact ⟨rfl, rfl, rfl, rfl⟩
theorem fabricBootWait_early {s : State} (ht : s.now < s.boot.s3At + oget s 0x9015 0 * 1000000) : fabricBootWait s = s := by
  refine if_neg ?_
  rintro ⟨-, -, -, h⟩
  omega
/-- An unreachable die reads 2 and drains the module (R457). -/
theorem dieUnreachable_drains {s : State} {d : Nat} (hd : d < 6) (hon : islandOn s 22 = true) :
    oget (dieUnreachable s d) 0x1020 (d + 1) = 2 ∧ drained (dieUnreachable s d) = true := by
  have h : dieUnreachable s d = oset (moduleDrain s (0xB0 + d) 0 0 (tcNow s)) 0x1020 (d + 1) 2 := by
    refine if_neg ?_
    rintro (h | h)
    · omega
    · rw [hon] at h
      cases h
  rw [h]
  refine ⟨oget_oset_same _ _ _ _, ?_⟩
  exact (congrArg (· == 1) (oget_oset_other _ 2 (by omega) (by omega) (by omega))).trans (moduleDrain_drained _ _ _ _ _)
/-- A stack that fails in service is marked and drains the module (R457). -/
theorem stackFailed_in_service {s : State} {k : Fin 12} (h5 : 5 ≤ bootState s) (h10 : bootState s ≤ 10) (hp : oget s 0x2001 0 ≤ 1)
    (h3 : oget s 0x3010 (k.val + 1) ≠ 3) : oget (stackFailed s k) 0x3010 (k.val + 1) = 3 ∧ drained (stackFailed s k) = true := by
  have h : stackFailed s k = moduleDrain (oset s 0x3010 (k.val + 1) 3) (0x90 + k.val) 0 0 (tcNow s) := by
    simp only [stackFailed, if_neg (show bootState s ≠ 4 by omega), if_pos (show 5 ≤ bootState s ∧ bootState s ≤ 10 ∧ oget s 0x2001 0 ≤ 1 ∧
      oget s 0x3010 (k.val + 1) ≠ 3 from ⟨h5, h10, hp, h3⟩)]
  rw [h]
  refine ⟨?_, moduleDrain_drained _ _ _ _ _⟩
  rw [oget_moduleDrain _ _ _ _ _ (.inr rfl) (by omega), oget_oset_same]

/-- A boot step that ends in step n and disturbs no take answers so. -/
theorem answers_step {i : Instr} {s t : State} {n : Nat} (he : exec i s = .next t) (hn : oget t 0x9010 0 = n) (h : Undisturbed s t) :
    Answers (exec i s) fun t => oget t 0x9010 0 = n ∧ t.mem = s.mem ∧ t.cl = s.cl ∧ t.hf = s.hf :=
  ⟨t, he, hn, h.mem, h.cl, h.hf⟩

/-- Settles O53, boot step by boot step; a failed die, stack or unit by what a drain leaves. That REPLACE_FLAG drains from S2 on is the model's choice
(log entry 60). -/
theorem startUpAndUnits : Obligations.StartUpAndUnits := by
  unfold Obligations.StartUpAndUnits
  intro s
  refine ⟨fun hh hk bad fail => ⟨fun hb => ?_, fun hb => ?_, fun hb => ⟨fun hcur => ?_, fun i c hcur hslot hgood => ?_⟩, fun hb => ?_, fun hb => ?_,
    fun hb => ⟨?_, ?_⟩, fun hb => ?_, fun hb => ?_, fun hb => ?_⟩, fun h6 h4 hle => ⟨fun ht => ?_, fun ht => ?_⟩, fun hb => ⟨fun ht => ?_, fun ht => ?_⟩,
    fun d hd hon => ?_, fun k => ⟨fun hb => ?_, fun h5 h10 hp h3 => ?_⟩⟩
  · exact answers_step rfl (by rw [bootStepEnd_s0 hh hk bad fail hb, oget_toStep]) (by rw [bootStepEnd_s0 hh hk bad fail hb]; exact ⟨rfl, rfl, rfl⟩)
  · exact ⟨_, rfl, bootStepEnd_image hh hk bad fail hb⟩
  · exact ⟨_, rfl, bootStepEnd_cut0 hh hk bad fail hb hcur⟩
  · obtain ⟨hconf, htrial, haband⟩ := bootStepEnd_cut hh hk bad fail hb hcur hslot hgood
    exact ⟨fun h => ⟨_, rfl, hconf h⟩, fun h h' => ⟨_, rfl, htrial h h'⟩, fun h h' hp => ⟨_, rfl, haband h h' hp⟩⟩
  · have h3 := (Undisturbed.withBoot s { s.boot with times := mput s.boot.times 3 (bootMs s) }).trans (.islandsStart _)
    refine answers_step rfl ?_ ?_
    · rw [bootStepEnd_s3 hh hk bad fail hb]
      split <;> exact oget_toStep _ _
    · rw [bootStepEnd_s3 hh hk bad fail hb]
      exact .ite (h3.trans (.oset _ _ _ _)) ((h3.trans (.hbmStates _ 1)).trans (.oset _ _ _ _))
  · refine ⟨fun hgood => ?_, fun k hk12 hbad => ⟨_, rfl, bootStepEnd_stack_failed hh hk bad fail hb hk12 hbad⟩⟩
    obtain ⟨hst, hone, hun⟩ := bootStepEnd_stacks hh hk bad fail hb hgood
    exact ⟨_, rfl, hst, hone, hun.mem, hun.cl⟩
  · rintro rfl
    refine answers_step rfl ?_ ?_
    · rw [bootStepEnd_s5 hh hk bad _ hb, oget_afterUnits]
      rfl
    · rw [bootStepEnd_s5 hh hk bad _ hb]
      exact (Undisturbed.withBoot s _).trans (.afterUnits _)
  · rintro u rfl
    exact ⟨_, rfl, bootStepEnd_unit_failed hh hk bad u hb⟩
  · refine answers_step rfl ?_ ?_
    · rw [bootStepEnd_s6 hh hk bad fail hb]
      split
      · exact oget_toStep _ _
      · exact hb
    · rw [bootStepEnd_s6 hh hk bad fail hb]
      exact .ite ⟨rfl, rfl, rfl⟩ (.refl s)
  · refine answers_step rfl ?_ ?_
    · rw [bootStepEnd_s7 hh hk bad fail hb]
      split
      · exact oget_toStep _ _
      · exact hb
    · rw [bootStepEnd_s7 hh hk bad fail hb]
      exact .ite ⟨rfl, rfl, rfl⟩ (.refl s)
  · refine ⟨_, rfl, ?_⟩
    rw [bootStepEnd_s8 hh hk bad fail hb]
    exact bootReady_outcome s
  · exact ⟨_, rfl, fabricBootWait_over h6 h4 hle ht⟩
  · exact ⟨_, rfl, fabricBootWait_early ht⟩
  · refine ⟨_, rfl, ?_⟩
    rw [show tcBootWait s = toStep (stepEnds s 7) 8 from if_pos ⟨hb, ht⟩]
    exact ⟨oget_toStep _ _, rfl, rfl⟩
  · refine ⟨_, rfl, if_neg ?_⟩
    rintro ⟨-, h⟩
    omega
  · exact ⟨_, rfl, dieUnreachable_drains hd hon⟩
  · exact ⟨_, rfl, if_pos hb⟩
  · exact ⟨_, rfl, stackFailed_in_service h5 h10 hp h3⟩

end Sys2Proof.Machine
end

section
/-! SUPPORT. An MMA alone in the matrix array (R179-R204): its unit fed, committed, judged and drained, and what each of these leaves alone. -/

namespace Sys2Proof.Machine

theorem Logged.faults {s t : State} (h : Logged s t) : t.faults = s.faults := by obtain ⟨_, _, _, _, rfl⟩ := h.same; rfl

/-! What changes in the clusters alone. -/

/-- t has come from s by changes in its clusters and by drawing free values. -/
def InClusters (s t : State) : Prop := ∃ cl n, t = { s with cl := cl, fresh := n }

theorem InClusters.refl (s : State) : InClusters s s := ⟨_, _, rfl⟩
theorem InClusters.trans {s t u : State} (h : InClusters s t) (k : InClusters t u) : InClusters s u := by
  obtain ⟨_, _, rfl⟩ := h
  obtain ⟨_, _, rfl⟩ := k
  exact ⟨_, _, rfl⟩
theorem InClusters.modC (s : State) (c : Fin 8) (f : Cluster → Cluster) : InClusters s (modC s c f) := ⟨_, _, rfl⟩
theorem InClusters.putReg (s : State) (c : Fin 8) (n : Nat) (x : TReg) : InClusters s (putReg s c n x) := ite_rel (.modC _ _ _) (.refl s)
theorem InClusters.undefRegion (s : State) (c : Fin 8) (b : OpBlock) (i : Nat) : InClusters s (undefRegion s c b i) :=
  .trans (t := { s with fresh := s.fresh + (mmaF b).m * (mmaF b).n }) ⟨_, _, rfl⟩ (.putReg _ _ _ _)
theorem InClusters.abandonMma (s : State) (c : Fin 8) (id u i : Nat) (b : OpBlock) : InClusters s (abandonMma s c id u i b) :=
  .trans (.trans (.modC _ _ _) (foldl_rel .refl .trans _ _ (fun s j => .undefRegion s c b j) _)) (.modC _ _ _)

section
variable {s t : State} (h : InClusters s t)
include h
theorem InClusters.mem : t.mem = s.mem := by obtain ⟨_, _, rfl⟩ := h; rfl
theorem InClusters.obj : t.obj = s.obj := by obtain ⟨_, _, rfl⟩ := h; rfl
theorem InClusters.logs : t.logs = s.logs := by obtain ⟨_, _, rfl⟩ := h; rfl
theorem InClusters.faults : t.faults = s.faults := by obtain ⟨_, _, rfl⟩ := h; rfl
end

/-! Tile registers. -/

theorem treg_congr {s t : State} (h : t.cl = s.cl) (c : Fin 8) (n : Nat) : treg t c n = treg s c n := by
  simp only [treg, h]
theorem treg_putReg_same (s : State) (c : Fin 8) {n : Nat} (h : n < 10) (x : TReg) : treg (putReg s c n x) c n = x := by
  simp only [treg, putReg, h, if_true, modC_same, vset_same]
/-- Writing a register moves no MMA. -/
theorem putReg_mma (s : State) (c : Fin 8) (n : Nat) (x : TReg) : (putReg s c n x).cl[c].mma = s.cl[c].mma := by
  unfold putReg
  split
  · rw [modC_same]
  · rfl
theorem undefRegion_mma (s : State) (c : Fin 8) (b : OpBlock) (i : Nat) : (undefRegion s c b i).cl[c].mma = s.cl[c].mma := by
  rw [undefRegion, undefReg, putReg_mma]
/-- The output of an element lies in one of the planes C0 and C1. -/
theorem planeOf_lt (b : OpBlock) (i : Nat) : planeOf b i < 10 := by
  have h : fld b 120 1 < 2 := (b.extractLsb' 120 1).isLt
  have hacc : (mmaF b).acc = 8 + fld b 120 1 := rfl
  unfold planeOf
  exact ite_lt (fun _ => by omega) (fun _ => by omega)
/-- Marking keys as poisoned leaves each of them poisoned, and those that were. -/
theorem mget_marked (gs : List Nat) (m : List (Nat × Bool)) (g : Nat) (h : mget false m g = true ∨ g ∈ gs) :
    mget false (gs.foldl (fun m g => mset false m g true) m) g = true := by
  induction gs generalizing m with
  | nil => simpa using h
  | cons a gs ih =>
    refine ih _ ?_
    rw [mget_mset]
    split
    · exact .inl rfl
    · next hne => exact h.imp id fun hm => (List.mem_cons.1 hm).resolve_left hne
/-- Every element of a poisoned region lies in a poisoned granule (R202). -/
theorem poisonElem_bad (s : State) (c : Fin 8) (b : OpBlock) (e : Nat) {i j : Nat} (hi : i < (mmaF b).m) (hj : j < (mmaF b).n) :
    (treg (poisonElem s c b e) c (planeOf b e)).bad ((cOrg b e).1.toNat + i) ((cOrg b e).2.toNat + j) = true := by
  simp only [poisonElem, treg_putReg_same _ _ (planeOf_lt b e)]
  refine mget_marked _ _ _ (.inr ?_)
  simp only [List.mem_flatMap, List.mem_range, List.mem_eraseDups, List.mem_map]
  exact ⟨i, hi, j, hj, rfl⟩

/-! The units of an MMA. -/

theorem mapIf_single {A : Type} (p : A → Bool) (f : A → A) (a : A) (h : p a = true) : mapIf p f [a] = [f a] := by
  simp [mapIf, h]
/-- The first unit with number u, after every unit with that number has been changed in something else. -/
theorem find_mapIf_unit (l : List MmaUnit) (u : Nat) {f : MmaUnit → MmaUnit} (hf : ∀ x, (f x).u = x.u) :
    (mapIf (fun x => x.u == u) f l).find? (fun x => x.u == u) = (l.find? (fun x => x.u == u)).map f := by
  have hu : ((fun x : MmaUnit => x.u == u) ∘ fun x => if x.u == u then f x else x) = fun x => x.u == u := by
    funext x
    simp only [Function.comp]
    split <;> simp [hf]
  rw [mapIf, List.find?_map, hu]
  cases hl : l.find? (fun x => x.u == u) with
  | none => rfl
  | some x => simp only [Option.map_some, List.find?_some hl, if_true]
/-- A unit found at a stage is found by its number, perhaps as another unit with that number. -/
theorem find_by_number {l : List MmaUnit} {p : MmaUnit → Bool} {u : MmaUnit} (h : l.find? p = some u) :
    ∃ v, l.find? (fun x => x.u == u.u) = some v := by
  rw [← Option.isSome_iff_exists, List.find?_isSome]
  exact ⟨u, List.mem_of_find?_eq_some h, by simp⟩

/-- Run r is alone in the array of cluster c, and fl is its operation. -/
structure Alone (s : State) (c : Fin 8) (r : MmaRun) (fl : Flight) : Prop where
  mma : s.cl[c].mma = [r]
  flights : s.cl[c].flights = [fl]
  id : fl.e.id = r.id

theorem modFlight_mma (s : State) (c : Fin 8) (id : Nat) (f : Flight → Flight) : (modFlight s c id f).cl[c].mma = s.cl[c].mma := by
  rw [modFlight, modC_same]
theorem modUnit_mma {s : State} {c : Fin 8} {r : MmaRun} (h : s.cl[c].mma = [r]) (u : Nat) (f : MmaUnit → MmaUnit) :
    (modUnit s c r.id u f).cl[c].mma = [{ r with units := mapIf (fun x => x.u == u) f r.units }] := by
  simp only [modUnit, modC_same, h, mapIf_single (fun x : MmaRun => x.id == r.id) _ r (beq_self_eq_true _)]
/-- An abandoned MMA is fed no further, and keeps the units before u (R195). -/
theorem abandonMma_mma {s : State} {c : Fin 8} {r : MmaRun} (h : s.cl[c].mma = [r]) (u i : Nat) (b : OpBlock) :
    (abandonMma s c r.id u i b).cl[c].mma = [{ r with next := mmaUnits b, units := r.units.filter (fun x => decide (x.u < u)) }] := by
  have hr : ∀ (l : List Nat) (t : State), (l.foldl (fun s j => undefRegion s c b j) t).cl[c].mma = t.cl[c].mma :=
    fun l t => foldl_rel (R := fun s t => t.cl[c].mma = s.cl[c].mma) (fun _ => rfl) (fun h k => k.trans h) l _ (fun t j => undefRegion_mma t c b j) t
  rw [abandonMma, modFlight_mma, hr, modC_same, h, mapIf_single (fun x : MmaRun => x.id == r.id) _ r (beq_self_eq_true _)]
/-- The oldest unit of an array that holds one MMA is that MMA's. -/
theorem unitAt_alone {s : State} {c : Fin 8} {r : MmaRun} {fl : Flight} (h : Alone s c r fl) {p : OpBlock → MmaUnit → Bool} {u : MmaUnit}
    (hu : r.units.find? (p fl.e.blk) = some u) : unitAt s.cl[c] p = some (fl, u) := by
  simp only [unitAt, h.mma, h.flights, List.findSome?_cons, List.find?_cons, h.id, beq_self_eq_true, hu, Option.map_some]

/-! MMA_ELEMENT_START (R183-R187). -/

/-- The next unit of an MMA alone in the array enters it with the accumulators of its elements. Beside it only the flight of the MMA changes. -/
theorem mmaElementStart_fed {s : State} {c : Fin 8} {r : MmaRun} {fl : Flight} (h : Alone s c r fl) (hn : r.next < mmaUnits fl.e.blk)
    (hh : unitHeld fl.e.blk r r.next = false) (hp : ∀ i ∈ unitElems fl.e.blk r.next, elemPoison s c fl.e.blk i = none)
    (hc : (mmaF fl.e.blk).chain = false ∨ r.next = 0) :
    ∃ x g, x.u = r.next ∧ x.res = (unitElems fl.e.blk r.next).map (fun i => (i, (elemRun s c fl.e.blk i none).1)) ∧
      mmaElementStart s c none = modFlight (modC s c fun k =>
        { k with mma := mapIf (fun y => y.id == r.id) (fun y => { y with next := r.next + 1, units := (if (mmaF fl.e.blk).chain then [] else y.units) ++ [x] }) k.mma })
        c fl.e.id g := by
  have hpois : (unitElems fl.e.blk r.next).findSome? (fun i => (elemPoison s c fl.e.blk i).map (fun side => (i, side))) = none := by
    simpa [List.findSome?_eq_none_iff] using hp
  have hprev : ((mmaF fl.e.blk).chain && r.next != 0) = false := by
    rcases hc with hc | hc <;> simp [hc]
  simp only [mmaElementStart, h.mma, h.flights, h.id, List.findSome?_cons, List.find?_cons, List.any_cons, List.any_nil, beq_self_eq_true, hn, if_true,
    hh, Nat.lt_irrefl, decide_false, Bool.false_and, Bool.or_false, Bool.false_eq_true, if_false, hpois, hprev]
  exact ⟨_, _, rfl, List.map_map, rfl⟩

/-- The array after its next unit has been fed, and what this leaves alone. -/
theorem mmaElementStart_array {s : State} {c : Fin 8} {r : MmaRun} {fl : Flight} (h : Alone s c r fl) (hn : r.next < mmaUnits fl.e.blk)
    (hh : unitHeld fl.e.blk r r.next = false) (hp : ∀ i ∈ unitElems fl.e.blk r.next, elemPoison s c fl.e.blk i = none)
    (hc : (mmaF fl.e.blk).chain = false ∨ r.next = 0) :
    ∃ x, x.u = r.next ∧ x.res = (unitElems fl.e.blk r.next).map (fun i => (i, (elemRun s c fl.e.blk i none).1)) ∧
      (mmaElementStart s c none).cl[c].mma = [{ r with next := r.next + 1, units := (if (mmaF fl.e.blk).chain then [] else r.units) ++ [x] }] ∧
      (mmaElementStart s c none).cl[c].reg = s.cl[c].reg ∧ InClusters s (mmaElementStart s c none) := by
  obtain ⟨x, g, hxu, hxr, ht⟩ := mmaElementStart_fed h hn hh hp hc
  rw [ht]
  refine ⟨x, hxu, hxr, ?_, ?_, .trans (.modC _ _ _) (.modC _ _ _)⟩
  · rw [modFlight_mma, modC_same, h.mma, mapIf_single (fun y : MmaRun => y.id == r.id) _ r (beq_self_eq_true _)]
  · rw [modFlight, modC_same, modC_same]

/-! MMA_ELEMENT_COMPLETE and RESIDUE_VERDICT (R196, R202, R203). -/

/-- Verdicts that all pass fail no element. -/
theorem badElems_pass (u : MmaUnit) {vs : List Verdict} (h : ∀ v ∈ vs, v = .pass) : badElems u vs = [] := by
  refine List.filterMap_eq_nil_iff.2 fun x _ => ?_
  have hv : vs.getD x.2 .pass = .pass := by
    rw [List.getD_eq_getElem?_getD]
    cases hn : vs[x.2]? with
    | none => rfl
    | some v => exact h v (List.mem_of_getElem? hn)
  simp only [hv]
/-- A residue verdict alone is the first element's. -/
theorem badElems_residue {u : MmaUnit} {x : Nat × List (List Nat)} {rest : List (Nat × List (List Nat))} (h : u.res = x :: rest) :
    badElems u [.residue] = [(x.1, 5, false)] := by
  simp only [badElems, h, List.zipIdx_cons, List.filterMap_cons, Nat.zero_add]
  refine congrArg _ (List.filterMap_eq_nil_iff.2 fun y hy => ?_)
  obtain ⟨n, hn⟩ := Nat.exists_eq_add_of_le (List.le_snd_of_mem_zipIdx hy)
  simp [hn, Nat.add_comm 1 n]
/-- Outside OFF mode and without an operand parity error the oldest fed unit is committed, with its flags and its count, and awaits its verdict. -/
theorem mmaElementComplete_committed {s : State} {c : Fin 8} {r : MmaRun} {fl : Flight} (h : Alone s c r fl) {u : MmaUnit} {vs : List Verdict}
    (hu : r.units.find? (fun x => x.stage == 1) = some u) (hm : checkMode s ≠ 0) (hv : ∀ v ∈ vs, v = Verdict.pass ∨ v = .residue) :
    mmaElementComplete s c vs =
      modUnit (cbump (setFlags (commitUnit s c fl.e.blk u) c 1 u.flags) c 0x4031 2 (if (mmaF fl.e.blk).chain then 1 else u.res.length)) c r.id u.u
        fun x => { x with stage := 2 } := by
  have hb : badElems u (vs.map fun v => if v = .residue then .pass else v) = [] := by
    refine badElems_pass u fun v hv' => ?_
    obtain ⟨w, hw, rfl⟩ := List.mem_map.1 hv'
    rcases hv w hw with rfl | rfl <;> rfl
  simp only [mmaElementComplete, unitAt_alone h (p := fun _ u => u.stage == 1) hu, hm, hb, h.id, List.isEmpty_nil, decide_false, Bool.not_true, Bool.or_false,
    Bool.false_eq_true, if_false]

/-- An incident below the limit of its class raises its fault and drains nothing. -/
theorem faultIncident_raised {s : State} (f : FaultRep) {unit cls : Nat} (hcls : cls < 256)
    (h : oget s 0x7010 cls = 0 ∨ incidentCount s cls unit + 1 < oget s 0x7010 cls) :
    ∃ n, faultIncident s f unit cls false = raiseF (countIncident s cls unit) { f with cflags := n } := by
  simp only [faultIncident, madeSuspect_countIncident hcls h, Bool.not_false, Bool.and_false, Bool.false_eq_true, if_false]
  exact ⟨_, rfl⟩
theorem reports_raiseF (s : State) (f : FaultRep) : reports (raiseF s f) = reports s ++ [(f.code, f.engine, f.pc, f.addr, f.detail)] := by
  simp [reports, raiseF]

/-- The array when the verdict of unit u is in (R202): the unit is at its next stage, and the MMA's pending write of a plane may end. -/
def judged (s : State) (c : Fin 8) (fl : Flight) (u : Nat) : State := endPlaneWrite (modUnit s c fl.e.id u fun x => { x with stage := 3 }) c fl u
/-- An MMA alone in the array when element i of its unit u has failed: the unit is marked, and what follows element i is abandoned (R195). -/
def unitFailed (s : State) (c : Fin 8) (fl : Flight) (u i : Nat) : State :=
  let b := fl.e.blk
  let s1 := abandonMma s c fl.e.id (u + 1) (if (mmaF b).chain then mmaUnits b else i + 1) b
  modFlight (modUnit s1 c fl.e.id u fun x => { x with bad := true }) c fl.e.id fun x => { x with wr := [], rd := [] }
/-- The state in which the residue failure of element i of unit u raises its fault (R202): it is counted, and the element's region is poisoned. -/
def residueFailed (s : State) (c : Fin 8) (fl : Flight) (u i : Nat) : State :=
  poisonElem (cbump (unitFailed (judged s c fl u) c fl u i) c 0x4032 1 1) c fl.e.blk i

theorem InClusters.judged (s : State) (c : Fin 8) (fl : Flight) (u : Nat) : InClusters s (judged s c fl u) := .trans (.modC _ _ _) (.modC _ _ _)
theorem InClusters.unitFailed (s : State) (c : Fin 8) (fl : Flight) (u i : Nat) : InClusters s (unitFailed s c fl u i) :=
  .trans (.trans (.abandonMma _ _ _ _ _ _) (.modC _ _ _)) (.modC _ _ _)
/-- Outside the clusters a residue failure moves its counter alone. -/
theorem residueFailed_counted (s : State) (c : Fin 8) (fl : Flight) (u i : Nat) :
    ∃ t, InClusters s t ∧ InClusters (cbump t c 0x4032 1 1) (residueFailed s c fl u i) :=
  ⟨_, .trans (.judged s c fl u) (.unitFailed _ c fl u i), .putReg _ _ _ _⟩
theorem residueFailed_logs (s : State) (c : Fin 8) (fl : Flight) (u i : Nat) : (residueFailed s c fl u i).logs = s.logs := by
  obtain ⟨t, h, k⟩ := residueFailed_counted s c fl u i
  rw [k.logs, cbump_logs, h.logs]
theorem residueFailed_faults (s : State) (c : Fin 8) (fl : Flight) (u i : Nat) : (residueFailed s c fl u i).faults = s.faults := by
  obtain ⟨t, h, k⟩ := residueFailed_counted s c fl u i
  rw [k.faults, cbump_faults, h.faults]
/-- The objects of the check path lie above those of the clusters. -/
theorem oget_residueFailed (s : State) (c : Fin 8) (fl : Flight) (u i : Nat) {ix sub : Nat} (hix : 0x5000 ≤ ix) (hsub : sub < 256) :
    oget (residueFailed s c fl u i) ix sub = oget s ix sub := by
  obtain ⟨t, h, k⟩ := residueFailed_counted s c fl u i
  rw [oget_congr k.obj, cbump, oget_obump_other _ _ (by omega) hsub (.inl (by unfold cobj; omega)), oget_congr h.obj]
/-- A residue failure leaves of the array the units up to its own, which is marked. -/
theorem residueFailed_mma {s : State} {c : Fin 8} {r : MmaRun} {fl : Flight} (h : Alone s c r fl) (u i : Nat) :
    (residueFailed s c fl u i).cl[c].mma = [{ r with
      next := mmaUnits fl.e.blk
      units := mapIf (fun x => x.u == u) (fun x => { x with bad := true })
        ((mapIf (fun x => x.u == u) (fun x => { x with stage := 3 }) r.units).filter fun x => decide (x.u < u + 1)) }] := by
  have hj : (judged s c fl u).cl[c].mma = [{ r with units := mapIf (fun x => x.u == u) (fun x => { x with stage := 3 }) r.units }] := by
    rw [judged, endPlaneWrite, modFlight_mma, h.id, modUnit_mma h.mma]
  rw [residueFailed, poisonElem, putReg_mma, cbump_cl, unitFailed, modFlight_mma, h.id]
  exact modUnit_mma (abandonMma_mma hj _ _ _) u _
/-- The unit of a residue failure is marked as failed. -/
theorem residueFailed_unit {s : State} {c : Fin 8} {r : MmaRun} {fl : Flight} (h : Alone s c r fl) {p : MmaUnit → Bool} {u : MmaUnit}
    (hu : r.units.find? p = some u) (i : Nat) :
    (((residueFailed s c fl u.u i).cl[c].mma.flatMap (fun y => y.units)).find? (fun y => y.u == u.u)).map (fun y => y.bad) = some true := by
  obtain ⟨v, hv⟩ := find_by_number hu
  have hle : (fun x : MmaUnit => decide (decide (x.u < u.u + 1) = true ∧ (x.u == u.u) = true)) = fun x => x.u == u.u := by
    funext x
    by_cases hx : x.u = u.u <;> simp [hx]
  simp only [residueFailed_mma h, List.flatMap_cons, List.flatMap_nil, List.append_nil]
  rw [find_mapIf_unit, List.find?_filter, hle, find_mapIf_unit, hv]
  · rfl
  · exact fun _ => rfl
  · exact fun _ => rfl

/-- With no injection pending, verdicts that fail elements fail their unit with just these. -/
theorem takeVerdict_failed {s : State} {c : Fin 8} (fl : Flight) {u : MmaUnit} {vs : List Verdict} {x : Nat × Nat × Bool} {l : List (Nat × Nat × Bool)}
    (hi : cget s c 0x4033 0 = 0) (hb : badElems u vs = x :: l) : takeVerdict s c fl u vs = failUnit (judged s c fl u.u) c fl u (x :: l) := by
  have hinj : (cget s c 0x4033 0 == 1) = false := by rw [hi]; rfl
  simp only [takeVerdict, hinj, hb, Bool.and_false, Bool.false_and, Bool.false_eq_true, if_false]
  cases u.res.find? (fun x => decide (cOrg fl.e.blk x.1 = (0, 0))) <;> rfl
/-- A RESIDUE_VERDICT that fails the first element of the oldest committed unit is that failure and its incident. -/
theorem residueVerdict_failed {s : State} {c : Fin 8} {r : MmaRun} {fl : Flight} (h : Alone s c r fl) {u : MmaUnit} {x : Nat × List (List Nat)}
    {rest : List (Nat × List (List Nat))} (hu : r.units.find? (fun x => x.stage == 2) = some u) (hx : u.res = x :: rest) (hi : cget s c 0x4033 0 = 0) :
    residueVerdict s c [.residue] = faultIncident (residueFailed s c fl u.u x.1)
      (opRep (residueFailed s c fl u.u x.1) c fl.e 8 0 (mmaDet 6 5 x.1)) (16 * c.val + 1) 1 false := by
  simp only [residueVerdict, unitAt_alone h (p := fun _ u => u.stage == 2) hu, takeVerdict_failed fl hi (badElems_residue hx)]
  rfl
/-- Below the limit of its class, an incident after a residue failure makes no unit suspect: the failure moves neither the limits nor the history. -/
theorem residueFailed_below {s : State} {cls unit : Nat} (c : Fin 8) (fl : Flight) (u i : Nat) (hcls : cls < 256)
    (h : oget s 0x7010 cls = 0 ∨ incidentCount s cls unit + 1 < oget s 0x7010 cls) :
    oget (residueFailed s c fl u i) 0x7010 cls = 0 ∨
      incidentCount (residueFailed s c fl u i) cls unit + 1 < oget (residueFailed s c fl u i) 0x7010 cls := by
  have ho : ∀ {ix sub}, 0x5000 ≤ ix → sub < 256 → oget (residueFailed s c fl u i) ix sub = oget s ix sub := oget_residueFailed s c fl u i
  rwa [incidentCount_congr (congrArg Logs.incidents (residueFailed_logs s c fl u i)) (ho (by omega) (by omega)) (ho (by omega) (by omega)),
    ho (by omega) hcls]

/-! DRAIN_READ (R196, R258). -/

/-- The oldest unit with its verdict in is read out of its plane into the plane's free drain buffer. -/
theorem drainRead_read {s : State} {c : Fin 8} {r : MmaRun} {fl : Flight} (h : Alone s c r fl) {u : MmaUnit}
    (hu : r.units.find? (fun x => x.stage == 3 && hasGrade fl.e.blk) = some u) {pl : Fin 2}
    (hpl : pl = if planeOf fl.e.blk ((u.res.head?.map fun x => x.1).getD 0) = 8 then 0 else 1) (hb : s.cl[c].drainBuf[pl] = none) :
    ∃ vals, vals.map (fun y => y.1) = u.res.map (fun y => y.1) ∧
      drainRead s c none none = modUnit (modC s c fun k => { k with drainBuf := vset k.drainBuf pl (some (r.id, u.u)) }) c r.id u.u
        fun x => { x with stage := 4, drained := vals } := by
  subst hpl
  simp only [drainRead, unitAt_alone h (p := fun b u => u.stage == 3 && hasGrade b) hu, hb, Option.isSome_none, Bool.false_eq_true, if_false, tileParity,
    Option.bind_none, Option.map_none, h.id]
  exact ⟨_, by simp [List.map_map], rfl⟩

/-- Settles O17, command by command. -/
theorem matrixPipeline : Obligations.MatrixPipeline := by
  unfold Obligations.MatrixPipeline
  intro s c r fl hm hf hid b
  have h : Alone s c r fl := ⟨hm, hf, hid⟩
  refine ⟨fun hn hh hp hc => ?_, fun u vs hu hmode hv => ⟨_, rfl, mmaElementComplete_committed h hu hmode hv⟩,
    fun u x rest hu hx _ hinj hlim => ?_, ?_⟩
  · obtain ⟨x, hxu, hxr, hmma, hreg, hin⟩ := mmaElementStart_array h hn hh hp hc
    refine ⟨_, rfl, ?_, ?_, hreg, hin.mem, hin.obj, hin.faults⟩
    · rw [hmma]
      rfl
    · simp only [hmma, List.flatMap_cons, List.flatMap_nil, List.append_nil, List.map_append, List.map_cons, List.map_nil, hxu, hxr, apply_ite (List.map _)]
      rfl
  · obtain ⟨n, hn⟩ := faultIncident_raised (opRep (residueFailed s c fl u.u x.1) c fl.e 8 0 (mmaDet 6 5 x.1)) (by omega)
      (residueFailed_below c fl u.u x.1 (by omega) hlim)
    have hlog := Logged.countIncident (residueFailed s c fl u.u x.1) 1 (16 * c.val + 1)
    refine ⟨_, congrArg Host.Outcome.next ((residueVerdict_failed h hu hx hinj).trans hn), ?_, ?_, fun i j hi hj => ?_⟩
    · rw [reports_raiseF, reports, hlog.faults, residueFailed_faults]
      rfl
    · rw [raiseF_cl, hlog.cl]
      exact residueFailed_unit h hu x.1
    · rw [treg_congr ((raiseF_cl _ _).trans hlog.cl)]
      exact poisonElem_bad _ _ _ _ hi hj
  · intro u hu i pl hb
    obtain ⟨vals, hvals, ht⟩ := drainRead_read h hu (pl := pl) rfl hb
    have hm' : (modC s c fun k => { k with drainBuf := vset k.drainBuf pl (some (r.id, u.u)) }).cl[c].mma = [r] := by rw [modC_same, hm]
    refine ⟨_, congrArg Host.Outcome.next ht, ?_⟩
    simp only [modUnit_mma hm', List.flatMap_cons, List.flatMap_nil, List.append_nil]
    rw [modUnit, modC_same, modC_same]
    refine ⟨vset_same _ _ _, rfl, rfl, rfl, ?_⟩
    rw [find_mapIf_unit, Option.map_map]
    · simp only [Function.comp_def, hvals]
    · exact fun _ => rfl

end Sys2Proof.Machine
end

section
/-! SUPPORT. What the effects of a grade program (R258-R264) leave of its cluster's vector queue, drain buffers and stalled sends. -/

namespace Sys2Proof.Machine

/-! VQ and the drain buffers of a cluster under the effects of its operations. -/

/-- t has the vector queue and the drain buffers of cluster c from s and, unless rows are sent, what the lanes hold back (R263). -/
structure KeepsSlots (sends : Prop) (c : Fin 8) (s t : State) : Prop where
  vq : t.cl[c].vq = s.cl[c].vq
  drainBuf : t.cl[c].drainBuf = s.cl[c].drainBuf
  sendStall : ¬ sends → t.cl[c].sendStall = s.cl[c].sendStall

section
variable {sends : Prop} {c : Fin 8}

theorem KeepsSlots.refl (s : State) : KeepsSlots sends c s s := ⟨rfl, rfl, fun _ => rfl⟩
theorem KeepsSlots.trans {s t u : State} (h : KeepsSlots sends c s t) (k : KeepsSlots sends c t u) : KeepsSlots sends c s u :=
  ⟨k.vq.trans h.vq, k.drainBuf.trans h.drainBuf, fun hn => (k.sendStall hn).trans (h.sendStall hn)⟩
theorem KeepsSlots.foldl {A : Type} (l : List A) (f : State → A → State) (hf : ∀ s a, KeepsSlots sends c s (f s a)) (s : State) :
    KeepsSlots sends c s (l.foldl f s) := foldl_rel .refl .trans l f hf s
/-- An update outside the clusters. -/
theorem KeepsSlots.of_cl {s t : State} (h : t.cl = s.cl) : KeepsSlots sends c s t := by
  constructor <;> simp [h]
/-- An update of the cluster in other fields. -/
theorem KeepsSlots.modC (s : State) (f : Cluster → Cluster)
    (h : ∀ k, ((f k).vq, (f k).drainBuf, (f k).sendStall) = (k.vq, k.drainBuf, k.sendStall) := by exact fun _ => rfl) :
    KeepsSlots sends c s (modC s c f) := by
  have h := h s.cl[c]
  simp only [Prod.mk.injEq] at h
  obtain ⟨hv, hd, hs⟩ := h
  constructor <;> simp only [modC_same, hv, hd, hs, implies_true]

theorem KeepsSlots.setFlags (s : State) (i fl : Nat) : KeepsSlots sends c s (setFlags s c i fl) := .of_cl rfl
theorem KeepsSlots.raiseF (s : State) (f : FaultRep) : KeepsSlots sends c s (raiseF s f) := .of_cl rfl
theorem KeepsSlots.putReg (s : State) (n : Nat) (x : TReg) : KeepsSlots sends c s (putReg s c n x) :=
  ite_rel (.modC _ _) (.refl s)
theorem KeepsSlots.modUnit (s : State) (id u : Nat) (f : MmaUnit → MmaUnit) : KeepsSlots sends c s (modUnit s c id u f) := .modC _ _
theorem KeepsSlots.modFlight (s : State) (id : Nat) (f : Flight → Flight) : KeepsSlots sends c s (modFlight s c id f) := .modC _ _
theorem KeepsSlots.rrPut (s : State) (n : Nat) (r : RangeReg) : KeepsSlots sends c s (rrPut s c n r) := .modC _ _
theorem KeepsSlots.rangeUpdate (s : State) (set : Nat) (p : CvtP) (flush : Bool) (l : List (Nat × Nat × Nat)) (rows cols : Nat) :
    KeepsSlots sends c s (rangeUpdate s c set p flush l rows cols) :=
  ite_rel (.refl s) ((KeepsSlots.setFlags s _ _).trans (.rrPut _ _ _))

/-! Memory. -/

theorem wrMarked_cl (s : State) (a : Nat) (l : List (Byte × Bool)) : (wrMarked s a l).cl = s.cl := by
  unfold wrMarked
  extract_lets
  split <;> rfl
theorem wrMesh_cl (s : State) (u a : Nat) (l : List (Byte × Bool)) : (wrMesh s u a l).cl = s.cl := wrMarked_cl s a _
/-- A row that a pair writes may wait for the comparison (R448), elsewhere. -/
theorem KeepsSlots.emitRow (s : State) (f : FaultRep) (a : Nat) (l : List (Byte × Bool)) : KeepsSlots sends c s (emitRow s c f a l) := by
  unfold Machine.emitRow emitWrite
  split
  · split
    · exact ite_rel (.of_cl (wrMarked_cl _ _ _)) (.modC _ _)
    · exact .modC _ _
  · exact .of_cl (wrMesh_cl _ _ _ _)
theorem redWrite_cl (s : State) (a op dir bias n : Nat) (acc sat flush isF : Bool) (l : List (Nat × Nat × PV)) :
    (redWrite s c a op dir bias n acc sat flush isF l).1.cl = s.cl := by
  unfold redWrite
  refine List.foldlRecOn (motive := fun (st : State × Flags) => st.1.cl = s.cl) _ _ rfl fun st hst e _ => ?_
  extract_lets vs addr old fv q r bad s1
  have h1 : s1.cl = s.cl := (wrMarked_cl _ _ _).trans hst
  split
  · exact hst
  · simp only [apply_ite State.cl, h1, ite_self]

/-! Reels, signals and requests. -/

theorem KeepsSlots.reelReserve (s : State) (r : Nat) : KeepsSlots sends c s (reelReserve s c r) :=
  .trans (t := rlSet (rlSet s c r 6 ((rlGet s c r 6 + 1) % rlSlots s c r)) c r 7 (rlGet s c r 7 + 1)) (.of_cl rfl) (.modC _ _)
theorem KeepsSlots.reelCommit (s : State) (r i : Nat) : KeepsSlots sends c s (reelCommit s c r i) := by
  unfold Machine.reelCommit
  split
  · refine ite_rel ?_ (.modC _ _)
    unfold reelCommitHead
    extract_lets s1
    exact .trans (t := rlSet s1 c r 9 (rlGet s1 c r 9 + 1)) (.of_cl rfl) (.modC _ _)
  · exact .modC _ _
theorem KeepsSlots.sendReq (s : State) (f : FaultRep) (p : Packet) (why : Purpose) : KeepsSlots sends c s (sendReq s c f p why) :=
  ite_rel (.modC _ _) (.of_cl rfl)
theorem KeepsSlots.sendSignal (s : State) (f : FaultRep) (id engine clap inc : Nat) : KeepsSlots sends c s (sendSignal s c f id engine clap inc) :=
  ite_rel (.modC _ _) (.of_cl rfl)
theorem KeepsSlots.opSignal (s : State) (e : QEntry) : KeepsSlots sends c s (opSignal s c e) := ite_rel (.sendSignal _ _ _ _ _ _) (.refl s)
theorem KeepsSlots.elemSignals (s : State) (fl : Flight) (u : MmaUnit) : KeepsSlots sends c s (elemSignals s c fl u) :=
  ite_rel (.foldl _ _ (fun _ _ => .sendSignal _ _ _ _ _ _) _) (.refl s)

/-! The units of an MMA: finished, settled, or ended by a fault. -/

theorem KeepsSlots.finishMma (s : State) (fl : Flight) (n : Nat) : KeepsSlots sends c s (finishMma s c fl n) := by
  induction n generalizing s with
  | zero => exact .refl s
  | succ n ih =>
    unfold Machine.finishMma
    split
    · exact .refl s
    split
    · refine ite_rel ?_ (.refl s)
      exact .trans (.trans (.modC _ _) (.opSignal _ _)) (.modC _ _)
    · exact ite_rel (.trans (.trans (.modC _ _) (.elemSignals _ _ _)) (ih _)) (.refl s)
theorem KeepsSlots.finishUnits (s : State) (fl : Flight) : KeepsSlots sends c s (finishUnits s c fl) := by
  unfold Machine.finishUnits
  split
  · exact .finishMma _ _ _
  · exact .refl s
theorem KeepsSlots.postRecord (s : State) (bd : BitVec 1024) (i : Nat) : KeepsSlots sends c s (postRecord s c bd i) :=
  ((KeepsSlots.reelReserve s _).trans (.of_cl (wrMarked_cl _ _ _))).trans (.reelCommit _ _ _)
/-- Releasing a unit's outputs starts and ends no slot (R264). -/
theorem KeepsSlots.settleUnit (s : State) (id u : Nat) : KeepsSlots sends c s (settleUnit s c id u) := by
  unfold Machine.settleUnit
  split
  · refine ite_rel (.refl s) ?_
    extract_lets s1 s2 s3
    have h2 : KeepsSlots sends c s s2 := (KeepsSlots.foldl _ _ (fun _ _ => .reelCommit _ _ _) s).trans (.modUnit _ _ _ _)
    refine ite_rel h2 (ite_rel ((h2.trans (.modUnit _ _ _ _)).trans (.foldl _ _ (fun _ _ => .sendReq _ _ _ _) _)) ?_)
    split
    · exact h2.trans (ite_rel (((KeepsSlots.postRecord _ _ _).trans (.modUnit _ _ _ _)).trans (.finishUnits _ _)) (.modFlight _ _ _))
    · exact h2.trans (.finishUnits _ _)
  · exact .refl s
theorem KeepsSlots.undefRegion (s : State) (b : OpBlock) (i : Nat) : KeepsSlots sends c s (undefRegion s c b i) :=
  .trans (t := { s with fresh := s.fresh + (mmaF b).m * (mmaF b).n }) (.of_cl rfl) (.putReg _ _ _)
theorem KeepsSlots.abandonMma (s : State) (id u i : Nat) (b : OpBlock) : KeepsSlots sends c s (abandonMma s c id u i b) := by
  unfold Machine.abandonMma
  exact .trans (.trans (.modC _ _) (.foldl _ _ (fun _ _ => .undefRegion _ _ _) _)) (.modFlight _ _ _)
theorem KeepsSlots.gradeFault (s : State) (fl : Flight) (u i : Nat) (f : FaultRep) : KeepsSlots sends c s (gradeFault s c fl u i f) :=
  ((KeepsSlots.raiseF s f).trans (.abandonMma _ _ _ _ _)).trans (.modUnit _ _ _ _)

/-! Grade programs. -/

/-- Only a SEND port gives the lanes rows to hold back (R262, R263). -/
theorem KeepsSlots.gradeElem (s : State) (e : QEntry) (pg : Prog) (u i : Nat) (rows : List (List (Nat × Bool))) (slots : List (Nat × Nat × Nat)) :
    KeepsSlots (∃ w, (portOf pg.bind w).kind = 7) c s (gradeElem s c e pg u i rows slots) := by
  unfold Machine.gradeElem
  extract_lets b code pos x rs flush rep s1 s2 s3 m vals isF r
  have h1 : KeepsSlots (∃ w, (portOf pg.bind w).kind = 7) c s s1 := by
    refine .trans ?_ (.foldl rs _ (fun v y => ?_) _)
    · exact .of_cl rfl
    refine .foldl y.2.ports _ (fun v w => ?_) v
    extract_lets p d v2 a pk det
    split
    · next hsend =>
      refine .trans (t := v2) (.setFlags _ _ _) (.trans ⟨?_, ?_, fun hn => absurd ⟨_, hsend⟩ hn⟩ (.modUnit _ _ _ _))
      · rw [modC_same]
      · rw [modC_same]
    · exact (KeepsSlots.setFlags _ _ _).trans (.emitRow _ _ _ _)
  have h2 : KeepsSlots (∃ w, (portOf pg.bind w).kind = 7) c s s2 := h1.trans (.setFlags _ _ _)
  have h3 : KeepsSlots (∃ w, (portOf pg.bind w).kind = 7) c s s3 :=
    h2.trans (.foldl _ _ (fun v w => ite_rel ((KeepsSlots.setFlags _ _ _).trans (.rangeUpdate _ _ _ _ _ _ _)) (.refl v)) s2)
  exact h3.trans (ite_rel (.refl s3) ((KeepsSlots.of_cl (redWrite_cl _ _ _ _ _ _ _ _ _ _ _)).trans (.setFlags _ _ _)))
/-- Lanes that hold nothing back refill nothing. -/
theorem KeepsSlots.sendRefill {s : State} (h : ¬ sends → s.cl[c].sendStall = []) : KeepsSlots sends c s (sendRefill s c) := by
  refine ⟨?_, ?_, fun hn => ?_⟩
  · rw [Machine.sendRefill, modC_same]
  · rw [Machine.sendRefill, modC_same]
  · simp only [Machine.sendRefill, modC_same, h hn, fillSend]
/-- The same after effects that keep what the lanes hold back. -/
theorem KeepsSlots.refilled {s t : State} (h : KeepsSlots sends c s t) (hs : s.cl[c].sendStall = []) : KeepsSlots sends c s (Machine.sendRefill t c) :=
  h.trans (.sendRefill fun hn => (h.sendStall hn).trans hs)

end

end Sys2Proof.Machine
end

section
/-! SUPPORT. The slots of prep and grade programs in VQ (R240-R242, R255-R263): started, completed and left. -/

namespace Sys2Proof.Machine

/-! PREP_SLOT_START (R232, R242). -/

/-- The state with the programs of e's MMA bound, and its checks made (R242). -/
def progsBound (s : State) (c : Fin 8) (e : QEntry) : State :=
  modC s c fun k => { k with progs := k.progs ++ bindProgs s c e.blk e.mma, mq := mapIf (fun y => y.id == e.mma) (fun y => { y with checked := true }) k.mq }

/-- Each program that an MMA names is found among those bound for it. -/
theorem bindProgs_find {b : OpBlock} {role : OpKind} (h : role ∈ progRoles b) (s : State) (c : Fin 8) (id : Nat) (l : List Prog) :
    ∃ pg, (l ++ bindProgs s c b id).find? (fun p => p.mma == id && p.role == role) = some pg := by
  rw [← Option.isSome_iff_exists, List.find?_isSome]
  exact ⟨_, List.mem_append_right _ (List.mem_map_of_mem h), by simp⟩
/-- A slot whose program is bound is ready where no VEC or RED is in flight (R232). -/
theorem slotReady_bound {s : State} {c : Fin 8} {e : QEntry} (h : ∃ pg, s.cl[c].progs.find? (fun p => p.mma == e.mma && p.role == e.kind) = some pg)
    (hf : ∀ f ∈ s.cl[c].flights, f.e.kind ≠ .vec ∧ f.e.kind ≠ .red) : slotReady s c e = true := by
  obtain ⟨pg, hpg⟩ := h
  simp only [slotReady, hpg, Bool.not_eq_true', List.any_eq_false]
  intro f hm
  simp [hf f hm]
/-- The first prep slot of an MMA whose checks pass binds the MMA's programs and starts. -/
theorem prepSlotStart_binds {s : State} {c : Fin 8} {e : QEntry} {rest : List QEntry} (hq : s.cl[c].vq = e :: rest)
    (hk : e.kind = .prepA ∨ e.kind = .prepB) (hr : e.kind ∈ progRoles e.blk) (hn : e.checked = false) (hh : prepHeld s.cl[c] e = false)
    (hp : s.cl[c].progs.any (fun p => p.mma == e.mma) = false) (hm : mmaCheck s c e.blk = none) (he : mmaEmpty e.blk = false)
    (hf : ∀ f ∈ s.cl[c].flights, f.e.kind ≠ .vec ∧ f.e.kind ≠ .red) : prepSlotStart s c = startSlot (progsBound s c e) c := by
  have hprep : (e.kind == .prepA || e.kind == .prepB) = true := by simpa using hk
  have hready : slotReady (progsBound s c e) c e = true := by
    refine slotReady_bound ?_ ?_
    · rw [progsBound, modC_same]
      exact bindProgs_find hr _ _ _ _
    · rwa [progsBound, modC_same]
  unfold progsBound at hready ⊢
  simp only [prepSlotStart, hq, hprep, hn, hh, hp, hm, he, hready, Bool.not_true, Bool.or_false, Bool.false_eq_true, if_false]
/-- The head of VQ once it has started; its cluster keeps the rest. -/
theorem startSlot_cl {s : State} {c : Fin 8} {e : QEntry} {rest : List QEntry} (h : s.cl[c].vq = e :: rest) :
    (startSlot s c).cl[c] = { s.cl[c] with vq := { e with checked := true } :: rest } := by
  simp only [startSlot, modC_same, h]

/-! PREP_SLOT_COMPLETE (R255-R257). -/

/-- The run of a prep program over its regions, until one faults (R257). -/
def prepRun (s : State) (c : Fin 8) (e : QEntry) (pg : Prog) : State × Option (Nat × FaultRep) :=
  (prepElems e.blk e.kind).foldl (fun st i => match st.2 with
    | some _ => st
    | none => ((prepElem st.1 c e pg i).1, (prepElem st.1 c e pg i).2.map fun f => (i, f))) (s, none)

/-- t differs from s by what prep programs of cluster c write: registers and flags (R256). -/
structure Prepared (c : Fin 8) (s t : State) : Prop where
  vq : t.cl[c].vq = s.cl[c].vq
  mem : t.mem = s.mem
  faults : t.faults = s.faults

theorem Prepared.trans {c : Fin 8} {s t u : State} (h : Prepared c s t) (k : Prepared c t u) : Prepared c s u :=
  ⟨k.vq.trans h.vq, k.mem.trans h.mem, k.faults.trans h.faults⟩
theorem Prepared.putReg (s : State) (c : Fin 8) (n : Nat) (x : TReg) : Prepared c s (putReg s c n x) :=
  ⟨(KeepsSlots.putReg (sends := False) s n x).vq, (InClusters.putReg s c n x).mem, (InClusters.putReg s c n x).faults⟩
theorem Prepared.prepElem (s : State) (c : Fin 8) (e : QEntry) (pg : Prog) (i : Nat) : Prepared c s (prepElem s c e pg i).1 := by
  unfold Machine.prepElem
  extract_lets b code x g t
  split
  · exact ⟨rfl, rfl, rfl⟩
  split
  · exact ⟨rfl, rfl, rfl⟩
  · exact .trans (.putReg s c _ _) ⟨rfl, rfl, rfl⟩
theorem Prepared.prepRun (s : State) (c : Fin 8) (e : QEntry) (pg : Prog) : Prepared c s (prepRun s c e pg).1 := by
  refine List.foldlRecOn (motive := fun (st : State × Option (Nat × FaultRep)) => Prepared c s st.1) _ _ ⟨rfl, rfl, rfl⟩ fun st hst i _ => ?_
  split
  · exact hst
  · exact hst.trans (.prepElem _ _ _ _ _)
/-- A started slot whose program faults nowhere leaves VQ after its run. -/
theorem prepSlotComplete_leaves {s : State} {c : Fin 8} {e : QEntry} {rest : List QEntry} {pg : Prog} (hq : s.cl[c].vq = e :: rest)
    (hk : e.kind = .prepA ∨ e.kind = .prepB) (hc : e.checked = true)
    (hp : s.cl[c].progs.find? (fun p => p.mma == e.mma && p.role == e.kind) = some pg) (hr : (prepRun s c e pg).2 = none) :
    prepSlotComplete s c none = popSlot (prepRun s c e pg).1 c := by
  have hprep : (e.kind == .prepA || e.kind == .prepB) = true := by simpa using hk
  simp only [prepSlotComplete, hq, hprep, hc, hp, Bool.not_true, Bool.or_false, Bool.false_eq_true, if_false]
  change (match (prepRun s c e pg).2 with
    | some (i, f) => prepFault (prepRun s c e pg).1 c e i f
    | none => popSlot (prepRun s c e pg).1 c) = _
  rw [hr]

/-! GRADE_ELEMENT_END (R258-R262). -/

/-- The state with the drain buffer of unit u of operation id free (R258). -/
def drainFreed (s : State) (c : Fin 8) (id u : Nat) : State :=
  modC s c fun k => { k with drainBuf := k.drainBuf.map fun x => if x = some (id, u) then none else x }
/-- The state after the head slot has left VQ, if the unit was the last and the lanes hold back no row. -/
def popLast (s : State) (c : Fin 8) (last : Bool) : State := if last && s.cl[c].sendStall.isEmpty then popSlot s c else s

theorem popLast_drainBuf (s : State) (c : Fin 8) (last : Bool) : (popLast s c last).cl[c].drainBuf = s.cl[c].drainBuf := by
  unfold popLast
  split
  · rw [popSlot, modC_same]
  · rfl
theorem popLast_vq {s : State} {c : Fin 8} (h : s.cl[c].sendStall = []) (last : Bool) :
    (popLast s c last).cl[c].vq = if last then s.cl[c].vq.tail else s.cl[c].vq := by
  cases last with
  | false => rfl
  | true => simp only [popLast, h, List.isEmpty_nil, Bool.and_self, if_true, popSlot, modC_same]
/-- Starting a slot that has started or not changes no number in VQ. -/
theorem startSlot_ids (s : State) (c : Fin 8) : (startSlot s c).cl[c].vq.map (fun x => x.id) = s.cl[c].vq.map fun x => x.id := by
  rw [startSlot, modC_same]
  split
  · next hq => simp only [hq, List.map_cons]
  · rfl
theorem startSlot_drain (s : State) (c : Fin 8) :
    (startSlot s c).cl[c].drainBuf = s.cl[c].drainBuf ∧ (startSlot s c).cl[c].sendStall = s.cl[c].sendStall := by
  rw [startSlot, modC_same]
  split <;> exact ⟨rfl, rfl⟩

/-- With the drain buffer of a unit free, and the slot started or not, VQ and the send buffer are as before. -/
theorem drainFreed_started {s s1 : State} {c : Fin 8} {id u : Nat} (h : s1 = drainFreed s c id u ∨ s1 = startSlot (drainFreed s c id u) c) :
    s1.cl[c].drainBuf = s.cl[c].drainBuf.map (fun x => if x = some (id, u) then none else x) ∧ s1.cl[c].sendStall = s.cl[c].sendStall ∧
      s1.cl[c].vq.map (fun x => x.id) = s.cl[c].vq.map (fun x => x.id) := by
  have hf : (drainFreed s c id u).cl[c] = { s.cl[c] with drainBuf := s.cl[c].drainBuf.map fun x => if x = some (id, u) then none else x } :=
    modC_same _ _ _
  rcases h with rfl | rfl
  · rw [hf]
    exact ⟨rfl, rfl, rfl⟩
  · rw [(startSlot_drain _ c).1, (startSlot_drain _ c).2, startSlot_ids, hf]
    exact ⟨rfl, rfl, rfl⟩
/-- The end of a unit's grade program, between the freeing of its drain buffer, the slot's leaving and the release of what the unit holds: a fault, or a
run of the program, which starts the slot. -/
theorem gradeElementEnd_ends {s : State} {c : Fin 8} {e : QEntry} {fl : Flight} {u : MmaUnit} {pg : Prog} (h : gradeHead s c = some (e, fl, u, pg))
    (hm : slotsMissing pg u = []) (hs : s.cl[c].sendStall = []) :
    ∃ s1 s2, (s1 = drainFreed s c fl.e.id u.u ∨ s1 = startSlot (drainFreed s c fl.e.id u.u) c) ∧
      KeepsSlots (∃ w, (portOf pg.bind w).kind = 7) c s1 s2 ∧ KeepsSlots False c (popLast s2 c (u.u + 1 == mmaUnits e.blk)) (gradeElementEnd s c) := by
  simp only [gradeElementEnd, h, hm, hs, List.isEmpty_nil, Bool.not_true, Bool.false_eq_true, if_false]
  split
  · exact ⟨_, _, .inl rfl, .gradeFault _ _ _ _ _, .refl _⟩
  · refine ⟨_, _, .inr rfl, .refilled (.trans (.modUnit _ _ _ _) (.foldl _ _ (fun _ _ => .gradeElem _ _ _ _ _ _ _) _)) ?_, .settleUnit _ _ _⟩
    exact (drainFreed_started (.inr rfl)).2.1.trans hs

/-! SEND_BUFFER_DRAIN (R263). -/

/-- Outside PAIRED mode the oldest packet of the send buffer leaves for its module; with nothing held back none takes its place. -/
theorem sendBufferDrain_first {s : State} {c : Fin 8} {id u det : Nat} {p : Packet} {rest : List (Nat × Nat × Nat × Packet)} {fl : Flight}
    (hb : s.cl[c].sendBuf = (id, u, det, p) :: rest) (hs : s.cl[c].sendStall = []) (hf : flightOf s c id = some fl) (hp : paired s = false) :
    ∃ why, sendBufferDrain s c = inject (modC s c fun k => { k with sendBuf := dropAt k.sendBuf 0 }) p why := by
  have hp' : paired (modC s c fun k => { k with sendBuf := dropAt k.sendBuf 0 }) = false := hp
  simp only [sendBufferDrain, hb, hp, hf, Bool.not_false, Bool.true_or, findIdx, if_true, List.getElem?_cons_zero, sendRoom, modC_same, hs, List.isEmpty_nil,
    sendReq, hp', Bool.false_and, Bool.false_eq_true, if_false]
  exact ⟨_, rfl⟩

/-- Settles O18, command by command. -/
theorem prepAndGradePrograms : Obligations.PrepAndGradePrograms := by
  unfold Obligations.PrepAndGradePrograms
  intro s c
  refine ⟨fun e rest hq hk hr hn hh hp hm he hf => ?_, fun e rest pg hq hk hc hp hr => ?_, fun e fl u pg h hm hs => ?_,
    fun id u det p rest fl hb hs hf hp => ?_⟩
  · refine Answers.of_next (congrArg Host.Outcome.next (prepSlotStart_binds hq hk hr hn hh hp hm he hf)) ?_
    have hq' : (progsBound s c e).cl[c].vq = e :: rest := by rw [progsBound, modC_same, hq]
    rw [startSlot_cl hq', progsBound, modC_same]
    exact ⟨rfl, rfl, rfl, rfl, rfl, rfl⟩
  · have hrun := Prepared.prepRun s c e pg
    refine Answers.of_next (congrArg Host.Outcome.next (prepSlotComplete_leaves hq hk hc hp hr)) ?_
    rw [popSlot, modC_same]
    refine ⟨?_, rfl, rfl, hrun.mem, hrun.faults⟩
    rw [hrun.vq, hq, List.tail_cons]
  · obtain ⟨s1, s2, h1, h2, h3⟩ := gradeElementEnd_ends h hm hs
    obtain ⟨hd, hst, hv⟩ := drainFreed_started h1
    refine ⟨_, rfl, ?_, fun hport => ?_⟩
    · rw [h3.drainBuf, popLast_drainBuf, h2.drainBuf, hd]
    · have hsend : ¬ ∃ w, (portOf pg.bind w).kind = 7 := fun ⟨w, hw⟩ => hport w hw
      rw [h3.vq, popLast_vq ((h2.sendStall hsend).trans (hst.trans hs)), h2.vq]
      simp only [beq_iff_eq, apply_ite (List.map _), List.map_tail, hv]
  · obtain ⟨why, ht⟩ := sendBufferDrain_first hb hs hf hp
    refine Answers.of_next (congrArg Host.Outcome.next ht) ⟨?_, ?_, rfl, rfl, rfl⟩
    · simp only [inject, modC_same, hb]
      rfl
    · simp only [inject, modC_reqs, List.map_append, List.map_cons, List.map_nil]

end Sys2Proof.Machine
end

section
/-! SUPPORT. The comparison of a pair's copies of a unit (R264, R451, R452): both marked as compared, or both failed. -/

namespace Sys2Proof.Machine

/-! The units of an MMA in a cluster. -/

/-- The unit with number u of operation id in cluster c, as the release of its outputs finds it. -/
def unitOf (s : State) (c : Fin 8) (id u : Nat) : Option MmaUnit :=
  (s.cl[c].mma.find? fun r => r.id == id).bind fun r => r.units.find? fun x => x.u == u
/-- That unit has still to be graded (R258). -/
def Ungraded (s : State) (c : Fin 8) (id u : Nat) : Prop := ∀ x, unitOf s c id u = some x → x.stage ≠ 5
/-- Every unit with number u of operation id in cluster c is marked as failed (R195). -/
def UnitFailed (s : State) (c : Fin 8) (id u : Nat) : Prop := ∀ r ∈ s.cl[c].mma, r.id = id → ∀ x ∈ r.units, x.u = u → x.bad = true
/-- A unit whose pair comparison is done. -/
def MmaUnit.compared (x : MmaUnit) : MmaUnit := { x with paired := true }
/-- A unit that has failed. -/
def MmaUnit.failed (x : MmaUnit) : MmaUnit := { x with bad := true }

/-- The first element that satisfies p, after every one that does has been changed in something else. -/
theorem find_mapIf {A : Type} {p : A → Bool} {f : A → A} (hf : ∀ x, p (f x) = p x) (l : List A) : (mapIf p f l).find? p = (l.find? p).map f := by
  have hp : (p ∘ fun x => if p x then f x else x) = p := by
    funext x
    simp only [Function.comp]
    split
    · exact hf x
    · rfl
  rw [mapIf, List.find?_map, hp]
  cases hl : l.find? p with
  | none => rfl
  | some x => simp only [Option.map_some, List.find?_some hl, if_true]
theorem mem_mapIf {A : Type} {p : A → Bool} {f : A → A} {l : List A} {y : A} (h : y ∈ mapIf p f l) :
    ∃ x ∈ l, (p x = true ∧ y = f x) ∨ (p x = false ∧ y = x) := by
  obtain ⟨x, hx, rfl⟩ := List.mem_map.1 h
  refine ⟨x, hx, ?_⟩
  cases hp : p x with
  | true => exact .inl ⟨rfl, rfl⟩
  | false => exact .inr ⟨rfl, rfl⟩

theorem modUnit_ne (s : State) {c d : Fin 8} (h : d ≠ c) (id u : Nat) (f : MmaUnit → MmaUnit) : (modUnit s c id u f).cl[d] = s.cl[d] := modC_ne _ _ _ _ h
theorem modUnit_mma_eq (s : State) (c : Fin 8) (id u : Nat) (f : MmaUnit → MmaUnit) : (modUnit s c id u f).cl[c].mma =
    mapIf (fun r => r.id == id) (fun r => { r with units := mapIf (fun x => x.u == u) f r.units }) s.cl[c].mma := by
  rw [modUnit, modC_same]
/-- An abandoned MMA keeps its units before u, in its cluster alone. -/
theorem abandonMma_mma_eq (s : State) (c : Fin 8) (id u i : Nat) (b : OpBlock) : (abandonMma s c id u i b).cl[c].mma =
    mapIf (fun r => r.id == id) (fun r => { r with next := mmaUnits b, units := r.units.filter fun x => decide (x.u < u) }) s.cl[c].mma := by
  have hr : ∀ (l : List Nat) (t : State), (l.foldl (fun s j => undefRegion s c b j) t).cl[c].mma = t.cl[c].mma :=
    fun l t => foldl_rel (R := fun s t => t.cl[c].mma = s.cl[c].mma) (fun _ => rfl) (fun h k => k.trans h) l _ (fun t j => undefRegion_mma t c b j) t
  rw [abandonMma, modFlight_mma, hr, modC_same]
theorem abandonMma_ne (s : State) {c d : Fin 8} (h : d ≠ c) (id u i : Nat) (b : OpBlock) : (abandonMma s c id u i b).cl[d] = s.cl[d] := by
  have hp : ∀ (t : State) (j : Nat), (undefRegion t c b j).cl[d] = t.cl[d] := fun t j => by
    simp only [undefRegion, undefReg, putReg]
    split
    · exact modC_ne _ _ _ _ h
    · rfl
  have hr : ∀ (l : List Nat) (t : State), (l.foldl (fun s j => undefRegion s c b j) t).cl[d] = t.cl[d] :=
    fun l t => foldl_rel (R := fun s t => t.cl[d] = s.cl[d]) (fun _ => rfl) (fun h k => k.trans h) l _ hp t
  rw [abandonMma, modFlight, modC_ne _ _ _ _ h, hr, modC_ne _ _ _ _ h]

theorem Ungraded.congr {s t : State} {c : Fin 8} {id u : Nat} (h : Ungraded s c id u) (hc : t.cl[c] = s.cl[c]) : Ungraded t c id u := by
  simpa only [Ungraded, unitOf, hc] using h
/-- A comparison grades no unit. -/
theorem Ungraded.compared {s : State} {c : Fin 8} {id u : Nat} (h : Ungraded s c id u) : Ungraded (modUnit s c id u .compared) c id u := by
  intro x hx
  have hid : ∀ r : MmaRun, (fun r : MmaRun => r.id == id) { r with units := mapIf (fun x => x.u == u) MmaUnit.compared r.units } = (r.id == id) :=
    fun _ => rfl
  have hu : ∀ y, (MmaUnit.compared y).u = y.u := fun _ => rfl
  rw [unitOf, modUnit_mma_eq, find_mapIf hid, Option.bind_eq_some_iff] at hx
  obtain ⟨_, hm, hx⟩ := hx
  obtain ⟨r, hr, rfl⟩ := Option.map_eq_some_iff.1 hm
  rw [find_mapIf_unit _ _ hu] at hx
  obtain ⟨y, hy, rfl⟩ := Option.map_eq_some_iff.1 hx
  exact h y (Option.bind_eq_some_iff.2 ⟨r, hr, hy⟩)
/-- A unit that has not been graded has nothing to release (R264). -/
theorem settleUnit_ungraded {s : State} {c : Fin 8} {id u : Nat} (h : Ungraded s c id u) : settleUnit s c id u = s := by
  unfold settleUnit
  split
  · next hx _ => exact if_pos (.inl (h _ hx))
  · rfl

theorem UnitFailed.congr {s t : State} {c : Fin 8} {id u : Nat} (h : UnitFailed s c id u) (hc : t.cl[c].mma = s.cl[c].mma) : UnitFailed t c id u := by
  simpa only [UnitFailed, hc] using h
theorem UnitFailed.failed (s : State) (c : Fin 8) (id u : Nat) : UnitFailed (modUnit s c id u .failed) c id u := by
  intro r hr hid x hx hu
  rw [modUnit_mma_eq] at hr
  obtain ⟨q, -, ⟨-, rfl⟩ | ⟨hq, rfl⟩⟩ := mem_mapIf hr
  · obtain ⟨y, -, ⟨-, rfl⟩ | ⟨hy, rfl⟩⟩ := mem_mapIf hx
    · rfl
    · simp [hu] at hy
  · simp [hid] at hq
theorem UnitFailed.abandonMma {s : State} {c : Fin 8} {id u : Nat} (h : UnitFailed s c id u) (u' i : Nat) (b : OpBlock) :
    UnitFailed (abandonMma s c id u' i b) c id u := by
  intro r hr hid x hx hu
  rw [abandonMma_mma_eq] at hr
  obtain ⟨q, hq, ⟨-, rfl⟩ | ⟨-, rfl⟩⟩ := mem_mapIf hr
  · exact h q hq hid x (List.mem_filter.1 hx).1 hu
  · exact h r hq hid x hx hu

/-! Both copies of a unit. -/

/-- The lead c and the mirror d of pair p hold the copies u and w of one unit, which await their comparison without an injection (R451, R469). -/
structure CopiesAwait (s : State) (p : Fin 4) (c d : Fin 8) (fl fm : Flight) (u w : MmaUnit) : Prop where
  lead : c = toFin8 (2 * p.val)
  mirror : d = toFin8 (2 * p.val + 1)
  mode : paired s = true
  leadUnit : awaitsPair s.cl[c] = some (fl, u)
  mirrorUnit : awaitsPair s.cl[d] = some (fm, w)
  op : fl.e.id = fm.e.id
  num : u.u = w.u
  quiet : bit (oget s 0x7008 0) p.val = false
/-- f applied to both copies. -/
def modCopies (s : State) (c d : Fin 8) (fl fm : Flight) (u w : MmaUnit) (f : MmaUnit → MmaUnit) : State :=
  modUnit (modUnit s c fl.e.id u.u f) d fm.e.id w.u f
/-- Both copies failed, and both MMAs abandoned from element i on (R195). -/
def copiesFailed (s : State) (c d : Fin 8) (fl fm : Flight) (u w : MmaUnit) (i : Nat) : State :=
  abandonMma (abandonMma (modCopies s c d fl fm u w .failed) c fl.e.id (u.u + 1) i fl.e.blk) d fm.e.id (w.u + 1) i fm.e.blk

theorem InClusters.copiesFailed (s : State) (c d : Fin 8) (fl fm : Flight) (u w : MmaUnit) (i : Nat) : InClusters s (copiesFailed s c d fl fm u w i) :=
  .trans (.trans (.trans (.modC _ _ _) (.modC _ _ _)) (.abandonMma _ _ _ _ _ _)) (.abandonMma _ _ _ _ _ _)
/-- In different clusters both copies are marked as failed. -/
theorem copiesFailed_failed (s : State) {c d : Fin 8} (hne : c ≠ d) (fl fm : Flight) (u w : MmaUnit) (i : Nat) :
    UnitFailed (copiesFailed s c d fl fm u w i) c fl.e.id u.u ∧ UnitFailed (copiesFailed s c d fl fm u w i) d fm.e.id w.u := by
  constructor
  · have h1 := (UnitFailed.failed s c fl.e.id u.u).congr (t := modCopies s c d fl fm u w .failed) (by rw [modCopies, modUnit_ne _ hne])
    exact (h1.abandonMma (u.u + 1) i fl.e.blk).congr (by rw [copiesFailed, abandonMma_ne _ hne])
  · have h1 := (UnitFailed.failed (modUnit s c fl.e.id u.u .failed) d fm.e.id w.u).congr
      (t := abandonMma (modCopies s c d fl fm u w .failed) c fl.e.id (u.u + 1) i fl.e.blk) (by rw [abandonMma_ne _ hne.symm, modCopies])
    exact h1.abandonMma _ _ _

/-- A mismatch of a pair below the limit of its class raises E_PAIR and is logged; it makes no unit suspect (R452, R456). -/
theorem pairFault_raised {s : State} {c : Fin 8} (f : FaultRep) (kind elem a b addr : Nat)
    (h : oget s 0x7010 4 = 0 ∨ incidentCount s 4 (16 * c.val + 1) + 1 < oget s 0x7010 4) :
    ∃ t n, Logged s t ∧ pairFault s c f kind elem a b addr false = raiseF t { f with code := 9, cflags := n } := by
  have hlog := Logged.logEv s (16 * c.val + 1) 0x0606 0
    (payOf [(16, pairNo c), (17, kind), (18, elem), (24, a % 2 ^ 64), (32, b % 2 ^ 64), (40, addr)])
  have hn := faultIncident_raised { f with code := 9 } (by omega) (cls := 4) (unit := 16 * c.val + 1) (s := logEv s _ _ _ _) (by
    rwa [incidentCount_congr (logEv_incidents _ _ _ _ _) (hlog.oget_eq (by simp) (by omega)) (hlog.oget_eq (by simp) (by omega)),
      hlog.oget_eq (by simp) (by omega)])
  obtain ⟨n, hn⟩ := hn
  exact ⟨_, n, hlog.trans (.countIncident _ _ _), hn⟩

section
variable {s : State} {p : Fin 4} {c d : Fin 8} {fl fm : Flight} {u w : MmaUnit} (h : CopiesAwait s p c d fl fm u w)
include h

theorem CopiesAwait.ne : c ≠ d := by
  rw [h.lead, h.mirror, Ne, Fin.ext_iff]
  simp only [toFin8]
  omega
/-- Equal digests of copies that are still to be graded: both are marked as compared, and nothing else changes. -/
theorem CopiesAwait.equal (heq : ∀ x ∈ u.res, tileDigest s c fl.e.blk x.1 = tileDigest s d fm.e.blk x.1) (hg : hasGrade fl.e.blk = true)
    (hg' : hasGrade fm.e.blk = true) (hc : Ungraded s c fl.e.id u.u) (hd : Ungraded s d fm.e.id w.u) :
    pairComparison s p = modCopies s c d fl fm u w .compared := by
  have hc' : settleUnit (modCopies s c d fl fm u w .compared) c fl.e.id u.u = modCopies s c d fl fm u w .compared :=
    settleUnit_ungraded (hc.compared.congr (modUnit_ne _ h.ne _ _ _))
  have hd' : settleUnit (modCopies s c d fl fm u w .compared) d fm.e.id u.u = modCopies s c d fl fm u w .compared := by
    rw [h.num]
    exact settleUnit_ungraded (hd.congr (modUnit_ne _ h.ne.symm _ _ _)).compared
  have hfind : (u.res.map fun x => (x.1, tileDigest s c fl.e.blk x.1, tileDigest s d fm.e.blk x.1)).find? (fun x => x.2.1 != x.2.2) = none := by
    simpa [List.find?_eq_none] using heq
  obtain ⟨hlead, hmirror, hmode, hlu, hmu, hop, hnum, hquiet⟩ := h
  unfold modCopies MmaUnit.compared at hc' hd' ⊢
  simp only [pairComparison, ← hlead, ← hmirror, hmode, hlu, hmu, hop, hnum, hquiet, hg, hg', hfind, Nat.xor_zero, Bool.not_true, Bool.false_eq_true,
    if_false, if_true, ne_eq, not_true, or_false] at hc' hd' ⊢
  rw [hc', hd']
/-- Differing digests of an element: both copies fail, and the pair's mismatch is raised for the first such element. -/
theorem CopiesAwait.differing {x : Nat × List (List Nat)}
    (hx : u.res.find? (fun x => tileDigest s c fl.e.blk x.1 != tileDigest s d fm.e.blk x.1) = some x) :
    ∃ a b, pairComparison s p = pairFault (copiesFailed s c d fl fm u w x.1) c
      (opRep (copiesFailed s c d fl fm u w x.1) c fl.e 9 0 (mmaDet 7 5 x.1)) 0 (elemNo x.1) a b 0 false := by
  have hfind : (u.res.map fun x => (x.1, tileDigest s c fl.e.blk x.1, tileDigest s d fm.e.blk x.1)).find? (fun x => x.2.1 != x.2.2) =
      some (x.1, tileDigest s c fl.e.blk x.1, tileDigest s d fm.e.blk x.1) := by
    rw [List.find?_map, Function.comp_def, hx, Option.map_some]
  obtain ⟨hlead, hmirror, hmode, hlu, hmu, hop, hnum, hquiet⟩ := h
  unfold copiesFailed modCopies MmaUnit.failed
  simp only [pairComparison, ← hlead, ← hmirror, hmode, hlu, hmu, hop, hnum, hquiet, hfind, Nat.xor_zero, Bool.not_true, Bool.false_eq_true,
    if_false, ne_eq, not_true, or_false]
  exact ⟨_, _, rfl⟩

end

/-- Settles O19: equal digests by what a unit still to be graded holds back, differing ones by what the failure of both copies leaves in each cluster. -/
theorem pairDigestsCompared : Obligations.PairDigestsCompared := by
  unfold Obligations.PairDigestsCompared
  intro s p fl fm u w c d hmode hlu hmu hop hnum hquiet
  have h : CopiesAwait s p c d fl fm u w := ⟨rfl, rfl, hmode, hlu, hmu, hop, hnum, hquiet⟩
  refine ⟨fun heq hg hg' hc hd => ⟨_, rfl, h.equal heq hg hg' hc hd⟩, fun x hx hlim => ?_⟩
  have hin := InClusters.copiesFailed s c d fl fm u w x.1
  obtain ⟨a, b, ht⟩ := h.differing hx
  obtain ⟨t, n, hlog, hr⟩ := pairFault_raised (opRep (copiesFailed s c d fl fm u w x.1) c fl.e 9 0 (mmaDet 7 5 x.1)) 0 (elemNo x.1) a b 0 (c := c) (by
    rwa [incidentCount_congr (congrArg Logs.incidents hin.logs) (oget_congr hin.obj _ _) (oget_congr hin.obj _ _), oget_congr hin.obj])
  obtain ⟨hfc, hfd⟩ := copiesFailed_failed s h.ne fl fm u w x.1
  refine Answers.of_next (congrArg Host.Outcome.next (ht.trans hr)) ⟨?_, ?_, ?_⟩
  · rw [reports_raiseF, reports, hlog.faults, hin.faults]
    rfl
  · exact hfc.congr (by rw [raiseF_cl, hlog.cl])
  · exact hfd.congr (by rw [raiseF_cl, hlog.cl])

end Sys2Proof.Machine
end

section
/-! SUPPORT. Flits: what a port receives (R361, R363, R364), its replays (R365), what it sends (R369, R372, R373), and the rate of corrected symbols (R383). -/

namespace Sys2Proof.Machine

/-! Bytes of a flit. -/

theorem length_toLE (n x : Nat) : (toLE n x).length = n := by
  induction n generalizing x with
  | zero => rfl
  | succ n ih => exact congrArg (· + 1) (ih _)
theorem length_slice (l : List Byte) (lo n : Nat) : (slice l lo n).length = n := by
  have h : ((l.drop lo).take n).length ≤ n := List.length_take_le _ _
  simp only [slice, zeros, List.length_append, List.length_replicate]
  omega
/-- The first bytes of a longer field are a shorter one. -/
theorem take_slice (l : List Byte) {k n : Nat} (h : k ≤ n) : (slice l 0 n).take k = slice l 0 k := by
  simp only [slice, zeros, List.drop_zero, List.take_append, List.take_take, List.take_replicate, List.length_take]
  congr 2 <;> omega
/-- A field as long as the bytes written holds them. -/
theorem slice_full (l : List Byte) : slice l 0 l.length = l := by
  simp [slice, zeros]

/-! Receiving (R361-R364). -/

theorem portState_modPort (s : State) (p : Fin 6) (f : FabPort → FabPort) : portState (modPort s p f) p = portState s p := rfl
/-- A counter of a port is not its state. -/
theorem portState_pbump (s : State) (p : Fin 6) {sub : Nat} (d : Nat) (h : sub < 256) (hne : sub ≠ 2) : portState (pbump s p sub d) p = portState s p :=
  pget_pbump_ne s p d h (by omega) hne.symm
theorem portUp_of_state {s : State} {p : Fin 6} (h : portState s p = 4) : portUp s p = true := beq_iff_eq.2 h
/-- A port that is UP discards a flit by setting NAK. -/
theorem discardFlit_up {s : State} {p : Fin 6} (h : portState s p = 4) : discardFlit s p = modPort s p (fun x => { x with nak := true }) :=
  if_pos (portUp_of_state h)
/-- A flit that is counted and discarded sets NAK of its port, and queues nothing. -/
theorem discardFlit_counted {s : State} {p : Fin 6} (hs : portState s p = 4) {sub : Nat} (h : sub < 256) (hne : sub ≠ 2) :
    (discardFlit (pbump s p sub 1) p).fab.port[p] = { s.fab.port[p] with nak := true } ∧
    pget (discardFlit (pbump s p sub 1) p) p sub = min (pget s p sub + 1) (objMax (0x5010 + p.val) sub) ∧
    (discardFlit (pbump s p sub 1) p).fab.queue = s.fab.queue := by
  rw [discardFlit_up ((portState_pbump s p 1 h hne).trans hs)]
  exact ⟨modPort_same _ _ _, pget_pbump_same s p sub 1, rfl⟩
theorem flitReceive_uncorrectable {s : State} {p : Fin 6} {f : Flit} (hs : portState s p = 4) (hf : f.fecOk = false) :
    flitReceive s p f = discardFlit (pbump s p 11 1) p := by
  simp only [flitReceive, hs, hf, true_or, not_true, if_false, Bool.not_false, if_true]
theorem flitReceive_wrong_fcrc {s : State} {p : Fin 6} {f : Flit} (hs : portState s p = 4) (hf : f.fecOk = true) (hc : f.corrSyms = 0)
    (hcrc : fcrc (flitCtrl f) (flitBody f) ≠ ofLE (slice (flitBody f) 636 4)) : flitReceive s p f = discardFlit (pbump s p 12 1) p := by
  simp only [flitReceive, hs, hf, hc, true_or, not_true, if_false, Bool.not_true, Bool.false_eq_true, if_true, ne_eq, hcrc, not_false_eq_true]
/-- A header without NAK starts no replay: it takes what it acknowledges out of the retry buffer, and leaves the receiver's own sequence. -/
theorem linkHeader_without_nak (s : State) (p : Fin 6) {h : Nat} (hb : bit h 83 = false) : ∃ f, linkHeader s p h = modPort s p f ∧
    ∀ x, (f x).expSeq = x.expSeq ∧ (f x).rxPart = x.rxPart ∧ (f x).retry = x.retry.filter (fun e => !ackCovers (bits h 84 12) e.1) :=
  ⟨_, if_neg (by simp only [hb, Bool.false_and, Bool.false_eq_true, not_false_eq_true]), fun _ => ⟨rfl, rfl, rfl⟩⟩
/-- A good DATA flit of the known neighbour, without NAK, is accepted if it is the expected one, and discarded otherwise (R364). -/
theorem flitReceive_data {s : State} {p : Fin 6} {f : Flit} (hs : portState s p = 4) (hf : f.fecOk = true) (hc : f.corrSyms = 0)
    (hcrc : fcrc (flitCtrl f) (flitBody f) = ofLE (slice (flitBody f) 636 4)) (hty : bits (flitCtrl f) 16 4 = 1)
    (hid : ∀ i, s.fab.port[p].identity = some i →
      i = (bits (ofLE (slice (flitBody f) 608 28)) 64 16, bits (ofLE (slice (flitBody f) 608 28)) 61 3))
    (hb : bit (ofLE (slice (flitBody f) 608 28)) 83 = false) :
    flitReceive s p f =
      if bits (flitCtrl f) 4 12 = s.fab.port[p].expSeq then
        acceptData (linkHeader s p (ofLE (slice (flitBody f) 608 28))) p
          ⟨bits (ofLE (slice (flitBody f) 608 28)) 80 2 % 4, Nat.mod_lt _ (by decide)⟩ (slice (flitBody f) 0 608)
      else discardFlit (linkHeader s p (ofLE (slice (flitBody f) 608 28))) p := by
  obtain ⟨g, hg, hx⟩ := linkHeader_without_nak s p hb
  have hseq : (linkHeader s p (ofLE (slice (flitBody f) 608 28))).fab.port[p].expSeq = s.fab.port[p].expSeq := by
    rw [hg, modPort_same, (hx _).1]
  have hst : portState (linkHeader s p (ofLE (slice (flitBody f) 608 28))) p = 4 := by rw [hg, portState_modPort, hs]
  simp only [flitReceive, hs, hf, hc, hcrc, hty, hst, hseq, true_or, not_true, if_false, Bool.not_true, Bool.false_eq_true, if_true, ne_eq,
    Nat.reduceEqDiff, Nat.reduceLeDiff]
  refine if_neg ?_
  cases hi : s.fab.port[p].identity with
  | none => exact Bool.false_ne_true
  | some i => simp only [← hid i hi, bne_self_eq_false, Bool.false_eq_true, not_false_eq_true]
/-- An accepted area that keeps the protocol queues its whole packets, keeps the rest, clears NAK and advances the sequence. -/
theorem acceptData_whole {s : State} {p : Fin 6} {vc : Fin 4} {area rest : List Byte} {l : List Packet}
    (h : parsePackets 40 (s.fab.port[p].rxPart[vc] ++ area) [] = (l, rest, false)) :
    (acceptData s p vc area).fab.queue = s.fab.queue ++ l.map (fun q => (p.val, q)) ∧
    (acceptData s p vc area).fab.port[p] =
      { s.fab.port[p] with expSeq := (s.fab.port[p].expSeq + 1) % 4096, nak := false, rxPart := vset s.fab.port[p].rxPart vc rest } ∧
    (acceptData s p vc area).mem = s.mem := by
  simp only [acceptData, h, Bool.false_eq_true, if_false]
  exact ⟨rfl, modPort_same _ _ _, rfl⟩

/-! Replays (R365). -/

/-- Below the limit, a replay sends the whole buffer again, counts itself, and leaves the port UP. -/
theorem startReplay_below_limit {s : State} {p : Fin 6} (hs : portState s p = 4) (h : s.fab.port[p].replays + 1 < oget s 0x5003 0) :
    (startReplay s p).fab.port[p].replay = s.fab.port[p].retry.map (fun e => e.1) ∧ (startReplay s p).fab.port[p].retry = s.fab.port[p].retry ∧
    (startReplay s p).fab.port[p].replays = s.fab.port[p].replays + 1 ∧
    pget (startReplay s p) p 13 = min (pget s p 13 + 1) (objMax (0x5010 + p.val) 13) ∧ portUp (startReplay s p) p = true := by
  unfold startReplay
  extract_lets s1
  have hport : s1.fab.port[p] = { s.fab.port[p] with
      replays := s.fab.port[p].replays + 1, replay := s.fab.port[p].retry.map (fun e => e.1), replayAck := some s.fab.port[p].acked,
      replayAt := some s.now } := modPort_same _ _ _
  have hlim : ¬ oget s 0x5003 0 ≤ s1.fab.port[p].replays := by rw [hport]; exact Nat.not_le.2 h
  rw [if_neg hlim, hport]
  exact ⟨rfl, rfl, rfl, pget_pbump_same s p 13 1, portUp_of_state ((portState_pbump s p 1 (by omega) (by omega)).trans hs)⟩
theorem replayNakTimer_due {s : State} {p : Fin 6} {a : Nat} (hs : portState s p = 4) (ha : s.fab.port[p].replayAt = some a)
    (hn : s.fab.port[p].nakSeen = true) (hr : s.fab.port[p].retry ≠ []) (ht : a + 2000 ≤ s.now) : replayNakTimer s p = startReplay s p := by
  simp only [replayNakTimer, ha, portUp_of_state hs, hn, List.isEmpty_eq_false_iff.2 hr, Bool.not_false, Bool.and_true, decide_eq_true ht, if_true]
theorem ackWaitTimer_due {s : State} {p : Fin 6} {e : Nat × Nat × List Byte × Nat} {l : List (Nat × Nat × List Byte × Nat)} (hs : portState s p = 4)
    (hr : s.fab.port[p].retry = e :: l) (ht : e.2.2.2 + 4000 ≤ s.now) : ackWaitTimer s p = startReplay s p := by
  simp only [ackWaitTimer, hr, portUp_of_state hs, decide_eq_true ht, Bool.and_true, if_true]

/-! The one packet that waits (R372, R373). -/

theorem firstSome_eq_findSome? {A B : Type} (f : A → Option B) (l : List A) : firstSome f l = l.findSome? f := by
  induction l with
  | nil => rfl
  | cons a l ih =>
    rw [firstSome, List.findSome?_cons, ih]
    rfl
theorem firstSome_none {A B : Type} {f : A → Option B} {l : List A} (h : ∀ a ∈ l, f a = none) : firstSome f l = none := by
  rw [firstSome_eq_findSome?, List.findSome?_eq_none_iff]
  exact h
/-- If f gives nothing but b along the list, and gives it somewhere, b is the first that it gives. -/
theorem firstSome_only {A B : Type} {f : A → Option B} {l : List A} {b : B} (h : ∀ a ∈ l, f a = none ∨ f a = some b) (hb : ∃ a ∈ l, f a = some b) :
    firstSome f l = some b := by
  rw [firstSome_eq_findSome?]
  cases hc : l.findSome? f with
  | none =>
    obtain ⟨a, ha, hfa⟩ := hb
    rw [List.findSome?_eq_none_iff.1 hc a ha] at hfa
    cases hfa
  | some c =>
    obtain ⟨a, ha, hfa⟩ := List.exists_of_findSome?_eq_some hc
    rcases h a ha with hn | hs
    · rw [hn] at hfa
      cases hfa
    · exact hfa.symm.trans hs
theorem vcOf_lt (p : Packet) : vcOf p < 4 := by
  unfold vcOf
  split
  · omega
  · split
    · omega
    · split <;> omega
/-- An empty queue has no packet for a channel. -/
theorem pickPacket_empty {x : FabPort} (h : x.txq = []) (vc : Fin 4) : pickPacket x vc = none :=
  firstSome_none fun i _ => by simp only [inputHead, h, List.find?_nil, Option.bind_none]
/-- Without packets or a part of one, no channel is ready. -/
theorem vcReady_idle {x : FabPort} (hq : x.txq = []) (hp : ∀ v : Fin 4, x.txPart[v] = []) (vc : Fin 4) : vcReady x vc = false := by
  simp only [vcReady, hp, pickPacket_empty hq, List.isEmpty_nil, Bool.not_true, Option.isSome_none, Bool.or_self]
theorem chooseVc_idle (s : State) {x : FabPort} (h : ∀ vc, vcReady x vc = false) : chooseVc s x = (none, x) := by
  have hready : ([1, 2, 3] : List (Fin 4)).filter (vcReady x) = [] := List.filter_eq_nil_iff.2 fun v _ => by rw [h v]; exact Bool.false_ne_true
  simp only [chooseVc, h, hready, Bool.false_eq_true, if_false]
/-- Of the channels 1 to 3, a test for one of them leaves that one. -/
theorem filter_single_vc : ∀ vc : Fin 4, vc ≠ 0 → ([1, 2, 3] : List (Fin 4)).filter (fun v => decide (v = vc)) = [vc] := by decide

/-- Port x has the packet of e alone to send, and credit for it; no packet is under way. -/
structure OnlyPacket (x : FabPort) (e : Nat × Nat × Packet) : Prop where
  queue : x.txq = [e]
  part : ∀ v : Fin 4, x.txPart[v] = []
  input : e.1 < 7
  credit : hasCredit x e.2.2 = true

section
variable {x : FabPort} {e : Nat × Nat × Packet} (h : OnlyPacket x e)
include h
theorem OnlyPacket.inputHead (vc inp : Nat) : inputHead x vc inp = if e.1 = inp ∧ vcOf e.2.2 = vc then some e else none := by
  unfold Machine.inputHead
  rw [h.queue, List.find?_singleton]
  simp only [Bool.and_eq_true, beq_iff_eq]
/-- In its turn the packet is picked for its channel, and for no other. -/
theorem OnlyPacket.pickPacket (vc : Fin 4) : pickPacket x vc = if vcOf e.2.2 = vc.val then some e else none := by
  unfold Machine.pickPacket
  simp only [h.inputHead]
  split
  · next hv =>
    refine firstSome_only (fun i _ => ?_) ⟨(e.1 + 6 * (x.lastIn[vc] + 1)) % 7, List.mem_range.2 (Nat.mod_lt _ (by decide)), ?_⟩
    · split
      · exact .inr (if_pos h.credit)
      · exact .inl rfl
    · have := h.input
      rw [if_pos ⟨by omega, hv⟩]
      exact if_pos h.credit
  · next hv => exact firstSome_none fun i _ => by rw [if_neg fun hc => hv hc.2, Option.bind_none]
theorem OnlyPacket.vcReady (vc : Fin 4) : vcReady x vc = decide (vcOf e.2.2 = vc.val) := by
  unfold Machine.vcReady
  rw [h.part, h.pickPacket]
  by_cases hv : vcOf e.2.2 = vc.val <;> simp [hv]
/-- The packet's channel is the one that sends, whatever the turns. -/
theorem OnlyPacket.chooseVc (s : State) : ∃ (vc : Fin 4) (w : Vector Nat 4), vc.val = vcOf e.2.2 ∧ chooseVc s x = (some vc, { x with wrr := w }) := by
  obtain ⟨vc, hvc⟩ : ∃ vc : Fin 4, vc.val = vcOf e.2.2 := ⟨⟨_, vcOf_lt e.2.2⟩, rfl⟩
  have hready : Machine.vcReady x = fun v => decide (v = vc) := by
    funext v
    rw [h.vcReady, ← hvc]
    exact decide_eq_decide.2 ⟨fun hv => (Fin.ext hv).symm, fun hv => (congrArg Fin.val hv).symm⟩
  unfold Machine.chooseVc
  rw [hready]
  by_cases h0 : vc = 0
  · exact ⟨vc, x.wrr, hvc, by simp only [h0, decide_true, if_true]⟩
  · simp only [filter_single_vc vc h0, Ne.symm h0, decide_false, Bool.false_eq_true, if_false, List.find?_singleton]
    by_cases hw : 0 < x.wrr[vc]
    · simp only [hw, decide_true, if_true]
      exact ⟨vc, _, hvc, rfl⟩
    · simp only [hw, decide_false, Bool.false_eq_true, if_false]
      exact ⟨vc, _, hvc, rfl⟩
end

/-! The area of a flit (R367, R372). -/

/-- With no packet under way and none to pick, the area is complete. -/
theorem fillArea_none {vc : Fin 4} {x : FabPort} (hp : x.txPart[vc] = []) (hn : pickPacket x vc = none) (n : Nat) (a : List Byte)
    (l : List (Nat × Nat × Packet)) : fillArea vc n x a l = (x, a, l) := by
  cases n with
  | zero => rfl
  | succ n => simp only [fillArea, hp, hn, List.isEmpty_nil, if_true, ite_self]
theorem length_packetBytes_pos (p : Packet) : 0 < (packetBytes p).length := by
  simp only [packetBytes, List.length_append, length_toLE]
  omega
/-- The packet that waits alone and fits in a flit is its whole area, and leaves the queue. -/
theorem OnlyPacket.fillArea {x : FabPort} {e : Nat × Nat × Packet} (h : OnlyPacket x e) {vc : Fin 4} (hv : vc.val = vcOf e.2.2)
    (hl : (packetBytes e.2.2).length ≤ 608) (n : Nat) : ∃ z, fillArea vc (n + 2) x [] [] = (z, packetBytes e.2.2, [e]) ∧ z.txq = [] ∧ z.retry = x.retry := by
  have hne : (packetBytes e.2.2).isEmpty = false := List.isEmpty_eq_false_iff.2 (List.ne_nil_of_length_pos (length_packetBytes_pos e.2.2))
  have he : x.txq.erase e = [] := by rw [h.queue, List.erase_cons_head]
  simp only [Machine.fillArea, h.part, h.pickPacket, hv, he, vset_same, hne, List.length_nil, List.isEmpty_nil, List.nil_append, Nat.sub_zero,
    Nat.reduceEqDiff, Bool.false_eq_true, if_false, if_true, List.drop_eq_nil_of_le hl, List.take_of_length_le hl]
  rw [fillArea_none (vset_same _ _ _) (pickPacket_empty rfl vc)]
  exact ⟨_, rfl, rfl, rfl⟩

/-! Sending (R361, R363, R369). -/

/-- The flit that leaves has 640 bytes, and the area first. -/
theorem outFlit_outs (s : State) (p : Fin 6) (ftype seq vc : Nat) (area : List Byte) : ∃ b, b.length = 640 ∧
    (outFlit s p ftype seq vc area).outs = s.outs ++ [Out.flit p.val (flitMessage (ftype * 65536 + seq * 16) b)] ∧ b.take 608 = slice area 0 608 := by
  refine ⟨_, ?_, rfl, ?_⟩
  · simp only [List.length_append, length_slice, length_toLE]
  · rw [List.append_assoc, List.take_left' (length_slice _ _ _)]
/-- The first bytes of a flit are the first of its area. -/
theorem take_of_area {b area : List Byte} (h : b.take 608 = slice area 0 608) {k : Nat} (hk : k ≤ 608) : b.take k = slice area 0 k := by
  rw [← take_slice area hk, ← h, List.take_take, Nat.min_eq_left hk]
/-- A waiting control message leaves first; a period without credit may be counted. -/
theorem flitTransmit_ctl {s : State} {p : Fin 6} {m : List Byte} {l : List (List Byte)} (hs : portState s p = 4) (hc : s.fab.port[p].ctl = m :: l) :
    ∃ ob, flitTransmit s p = outFlit (modPort { s with obj := ob } p (fun x => { x with ctl := l })) p 2 0 0 (stampCtl s p m) := by
  simp only [flitTransmit, hs, hc, true_or, not_true, if_false]
  split <;> exact ⟨_, rfl⟩
/-- Where nothing waits, IDLE leaves, and no channel waits for credit. -/
theorem flitTransmit_idle {s : State} {p : Fin 6} (hs : portState s p = 4) (hc : s.fab.port[p].ctl = []) (hr : s.fab.port[p].replay = [])
    (hq : s.fab.port[p].txq = []) (hp : ∀ v : Fin 4, s.fab.port[p].txPart[v] = []) : flitTransmit s p = outFlit s p 0 0 0 [] := by
  have hstarved : ∀ v, vcStarved s.fab.port[p] v = false := fun v => by simp only [vcStarved, hq, List.any_nil, Bool.and_false]
  simp only [flitTransmit, hs, hc, hr, chooseVc_idle s (vcReady_idle hq hp), hstarved, ite_self, true_or, not_true, if_false, ne_eq, List.any_cons,
    List.any_nil, Bool.or_self, Bool.false_eq_true, and_false]
/-- Freeing a buffer sends nothing. -/
theorem freeUnits_outs (s : State) (inp : Nat) (pool : Fin 8) (n : Nat) : (freeUnits s inp pool n).outs = s.outs := by
  obtain ⟨_, h⟩ := (Freed.freeUnits 0 s inp pool n).same
  rw [h]
/-- The channel chosen sends its area, with the packet of e alone, in a new DATA flit that the retry buffer keeps. -/
theorem flitTransmit_new {s : State} {p : Fin 6} {vc : Fin 4} {y z : FabPort} {area : List Byte} {e : Nat × Nat × Packet} (hs : portState s p = 4)
    (hc : s.fab.port[p].ctl = []) (hr : s.fab.port[p].replay = []) (hroom : s.fab.port[p].retry.length < 256)
    (hv : chooseVc s s.fab.port[p] = (some vc, y)) (hz : fillArea vc 80 y [] [] = (z, area, [e])) :
    ∃ u, flitTransmit s p = outFlit u p 1 y.txSeq vc.val area ∧ u.outs = s.outs ∧ ∃ v, u.fab.port[p] =
      { z with txSeq := (y.txSeq + 1) % 4096, retry := z.retry ++ [(y.txSeq, vc.val, slice area 0 608, s.now)], freed := v } := by
  simp only [flitTransmit, hs, hc, hr, hroom, hv, hz, true_or, not_true, if_false, if_true, ne_eq, List.foldl_cons, List.foldl_nil]
  refine ⟨_, rfl, (freeUnits_outs _ _ _ _).trans ?_, ?_⟩
  · split <;> rfl
  · obtain ⟨v, hport⟩ := (Freed.freeUnits p _ e.1 (toFin8 e.2.1) (unitsOf e.2.2)).port
    exact ⟨v, hport.trans (by rw [modPort_same])⟩
/-- The packet that waits alone leaves in a DATA flit of the next sequence number. -/
theorem flitTransmit_packet {s : State} {p : Fin 6} {e : Nat × Nat × Packet} (hs : portState s p = 4) (hc : s.fab.port[p].ctl = [])
    (hr : s.fab.port[p].replay = []) (hroom : s.fab.port[p].retry.length < 256) (h : OnlyPacket s.fab.port[p] e)
    (hl : (packetBytes e.2.2).length ≤ 608) :
    (flitTransmit s p).fab.port[p].txq = [] ∧ (flitTransmit s p).fab.port[p].txSeq = (s.fab.port[p].txSeq + 1) % 4096 ∧
    (flitTransmit s p).fab.port[p].retry.map (fun e => e.1) = s.fab.port[p].retry.map (fun e => e.1) ++ [s.fab.port[p].txSeq] ∧
    ∃ b, b.length = 640 ∧ (flitTransmit s p).outs = s.outs ++ [Out.flit p.val (flitMessage (0x10000 + 16 * s.fab.port[p].txSeq) b)] ∧
      b.take (packetBytes e.2.2).length = packetBytes e.2.2 := by
  obtain ⟨vc, w, hvc, hch⟩ := h.chooseVc s
  obtain ⟨z, hz, hq, hretry⟩ := OnlyPacket.fillArea (x := { s.fab.port[p] with wrr := w }) ⟨h.queue, h.part, h.input, h.credit⟩ hvc hl 78
  obtain ⟨u, ht, hu, v, hport⟩ := flitTransmit_new hs hc hr hroom hch hz
  rw [ht]
  refine ⟨(congrArg FabPort.txq hport).trans hq, congrArg FabPort.txSeq hport, ?_, ?_⟩
  · refine (congrArg (fun x : FabPort => x.retry.map (fun e => e.1)) hport).trans ?_
    simp only [hretry, List.map_append, List.map_cons, List.map_nil]
  · obtain ⟨b, hlen, hout, harea⟩ := outFlit_outs u p 1 s.fab.port[p].txSeq vc.val (packetBytes e.2.2)
    rw [hu, Nat.mul_comm _ 16] at hout
    exact ⟨b, hlen, hout, (take_of_area harea hl).trans (slice_full _)⟩

/-! The rate of corrected symbols (R383). -/

/-- The count starts again from zero, whether the warning is logged or not. -/
theorem fecRateCheck_corr (s : State) (p : Fin 6) (lane : Nat) : (fecRateCheck s p lane).fab.port[p].corr = 0 := by
  unfold fecRateCheck
  extract_lets x s1 due
  have h1 : s1.fab.port[p].corr = 0 := congrArg FabPort.corr (modPort_same _ _ _)
  split
  · exact (congrArg (fun f : Fabric => f.port[p].corr) (Logged.logEv _ _ _ _ _).fab).trans ((congrArg FabPort.corr (modPort_same s1 p _)).trans h1)
  · exact h1
theorem fecRateCheck_within {s : State} {p : Fin 6} (lane : Nat) (h : s.fab.port[p].corr ≤ oget s 0x5008 0) :
    fecRateCheck s p lane = modPort s p (fun x => { x with corr := 0 }) := by
  simp only [fecRateCheck, Nat.not_lt.2 h, decide_false, Bool.false_and, Bool.false_eq_true, if_false]
theorem lastEvent_fecRateCheck_above {s : State} {p : Fin 6} (lane : Nat) (h : oget s 0x5008 0 < s.fab.port[p].corr)
    (hw : s.fab.port[p].fecWarnAt = none) :
    lastEvent (fecRateCheck s p lane) = some (0x0305, payOf [(16, p.val), (17, lane % 8), (20, s.fab.port[p].corr % 2 ^ 32)]) := by
  simp only [fecRateCheck, h, hw, decide_true, Bool.and_self, if_true]
  exact lastEvent_logEv _ _ _ _ _

/-- Settles O38: what a flit received leaves by its fate, replays by `startReplay_below_limit`, and what is sent by the first thing that waits. -/
theorem flitsAndRetry : Obligations.FlitsAndRetry := by
  unfold Obligations.FlitsAndRetry
  intro s p x lim replayed hs
  refine ⟨fun f hf => ?_, fun f hf hc hcrc => ?_, ?_, fun a ha hn hr ht hlim => ?_, fun e l hr ht hlim => ?_, fun m l hc => ?_,
    fun hc hr hp => ⟨fun hq => ?_, fun e hq he hcr hroom hl => ?_⟩, fun lane => ?_⟩
  · exact Answers.of_next (congrArg Host.Outcome.next (flitReceive_uncorrectable hs hf)) (discardFlit_counted hs (by omega) (by omega))
  · exact Answers.of_next (congrArg Host.Outcome.next (flitReceive_wrong_fcrc hs hf hc hcrc)) (discardFlit_counted hs (by omega) (by omega))
  · intro f hf hc hcrc hty h vc r hid hb
    have ht := flitReceive_data hs hf hc hcrc hty hid hb
    obtain ⟨g, hg, hx⟩ := linkHeader_without_nak s p hb
    obtain ⟨hseq, hpart, hretry⟩ := hx s.fab.port[p]
    rw [hg] at ht
    refine ⟨fun hexp hok => ?_, fun hexp => ?_⟩
    · have hparse : parsePackets 40 ((modPort s p g).fab.port[p].rxPart[vc] ++ slice (flitBody f) 0 608) [] = (r.1, r.2.1, false) := by
        rw [modPort_same, hpart, ← hok]
      obtain ⟨hqueue, hport, hmem⟩ := acceptData_whole hparse
      refine Answers.of_next (congrArg Host.Outcome.next (ht.trans (if_pos hexp))) ⟨hqueue, ?_⟩
      rw [hport, modPort_same, hseq]
      exact ⟨rfl, rfl, hretry, vset_same _ _ _, hmem⟩
    · refine Answers.of_next (congrArg Host.Outcome.next (ht.trans ((if_neg hexp).trans (discardFlit_up hs)))) ?_
      rw [modPort_same, modPort_same]
      exact ⟨rfl, hseq, rfl, hpart, rfl⟩
  · exact Answers.of_next (congrArg Host.Outcome.next (replayNakTimer_due hs ha hn hr ht)) (startReplay_below_limit hs hlim)
  · exact Answers.of_next (congrArg Host.Outcome.next (ackWaitTimer_due hs hr ht)) (startReplay_below_limit hs hlim)
  · obtain ⟨ob, ht⟩ := flitTransmit_ctl hs hc
    refine Answers.of_next (congrArg Host.Outcome.next ht) ⟨modPort_same _ _ _, ?_⟩
    obtain ⟨b, hlen, hout, harea⟩ := outFlit_outs (modPort { s with obj := ob } p (fun x => { x with ctl := l })) p 2 0 0 (stampCtl s p m)
    exact ⟨b, hlen, hout, take_of_area harea (by omega)⟩
  · refine Answers.of_next (congrArg Host.Outcome.next (flitTransmit_idle hs hc hr hq hp)) ⟨rfl, rfl, ?_⟩
    obtain ⟨b, hlen, hout, -⟩ := outFlit_outs s p 0 0 0 []
    exact ⟨b, hlen, hout⟩
  · exact ⟨_, rfl, flitTransmit_packet hs hc hr hroom ⟨hq, hp, he, hcr⟩ hl⟩
  · refine ⟨_, rfl, fecRateCheck_corr s p lane, fun hle => ?_, fun hlt hw => lastEvent_fecRateCheck_above lane hlt hw⟩
    rw [fecRateCheck_within lane hle]
    rfl

end Sys2Proof.Machine
end
